-- ==== Sys2Proof/Word.lean ====
section
/-!
DEFINITION. The byte of the message link and the fixed-length tables the state is made of.
A table is a `Vector` read with `read`, written with `put` and mapped with `each`; its laws are in Laws/Tables.lean.
-/

namespace Sys2Proof

/-- One byte of the link (R157). -/
abbrev Byte := BitVec 8

/-- A table of `n` entries. -/
abbrev Table (n : Nat) (α : Type) := Vector α n

namespace Table

/-- The entry at `i`. -/
def read {n : Nat} {α : Type} (t : Table n α) (i : Fin n) : α := t.get i

/-- The table with the entry at `i` replaced. -/
def put {n : Nat} {α : Type} (t : Table n α) (i : Fin n) (a : α) : Table n α := t.set i a

/-- The table whose entry at `i` is `f i` of the entry there. -/
def each {n : Nat} {α β : Type} (t : Table n α) (f : Fin n → α → β) : Table n β :=
  Vector.ofFn fun i => f i (t.get i)

/-- The table with `a` in every place. -/
def full (n : Nat) {α : Type} (a : α) : Table n α := Vector.replicate n a

end Table

end Sys2Proof
end

