-- ==== Sys2Proof/Syntax.lean ====
section
/-!
DEFINITION. The commands of the part: one constructor of `Instr` for each row of spec/opcode_table.json.
The first 51 are the request kinds of section 12.2 with their parameter bytes as operands (R161, R172).
The other 29 are the events of the line, the pins, the lanes and the timers.
-/

namespace Sys2Proof

/-- A lane number (section 4 of 00_scope.md). -/
abbrev Lane := Fin 8
/-- A cell's index within its segment. -/
abbrev Slot := Fin 12
/-- A quest number. -/
abbrev QuestId := Fin 24

/-- What the receiver makes of one byte time on RXD: a good byte, or a corrupt one (framing error or break, R157). -/
inductive RxByte where
  | good (b : Byte)
  | corrupt
  deriving DecidableEq, Repr

/-- One mark of a tag reply as it stands on a pad of the questioned cell (R24).
Times are in nanoseconds from the start of the slot. -/
structure Mark where
  /-- the pad that carries the mark -/
  pad : Fin 4
  /-- when its pulse starts -/
  start : Nat
  /-- how long its pulse lasts -/
  width : Nat
  /-- its polarity -/
  positive : Bool
  /-- the height of its pulse, in units of the 0 to 255 amplitude scale -/
  height : Nat
  deriving DecidableEq, Repr

/-- Which of a tick's two paths is taken first: R100 hands a tick out on two paths "taken independently". -/
inductive TickOrder where
  | clockFirst
  | lampsFirst
  deriving DecidableEq, Repr

/-- The five bytes of a piece record in a DEFINE_PATTERN body (section 12.6). -/
structure PieceBytes where
  dx : Byte
  dy : Byte
  kindTest : Byte
  facing : Byte
  side : Byte
  deriving DecidableEq, Repr

/-- The fifteen bytes of a stage record in a DEFINE_QUEST body (section 12.6). -/
structure StageBytes where
  kind : Byte
  pattern : Byte
  kindTest : Byte
  m : Byte
  d : BitVec 16
  filter : Byte
  reward : Byte
  limit : BitVec 16
  x0 : Byte
  y0 : Byte
  x1 : Byte
  y1 : Byte
  cue : Byte
  deriving DecidableEq, Repr

/-- The commands. -/
inductive Instr where
  -- requests: Link Interface, Notice Unit, Rest Controller
  | hello
  | status
  | restart
  | newGame
  | setRest (delay : BitVec 16) (autoPause : Byte)
  | fetch (k : Byte)
  | setNoticeModes (fault quest play board : Byte)
  -- Board Plan
  | placeSegment (lane ox oy h : Byte)
  | unplaceSegment (lane : Byte)
  | getPlan
  -- Lane units
  | parkLane (lane : Byte)
  | runLane (lane : Byte)
  | laneCheck (lane : Byte)
  -- Cell Tracker
  | getCell (form a b : Byte)
  | watchCell (lane slot : Byte)
  | getWatch
  | getBoard
  | retireCell (lane slot : Byte)
  | reinstateCell (lane slot : Byte)
  | getFirstFault
  | clearFirstFault
  | setSensing (arriveN liftN hold floor target : Byte)
  -- Tile Roster
  | enroll (serial : BitVec 24) (owner banned : Byte)
  | withdraw (serial : BitVec 24)
  | getTile (serial : BitVec 24)
  | setRosterPolicy (policy : Byte) (editions : BitVec 32)
  -- Play Record
  | getTurn
  | setTurn (mode np current movesPerTurn : Byte)
  | endTurn
  | clockRun
  | clockPause
  | setClock (value : BitVec 24)
  | getScores
  | setScores (p1 p2 p3 p4 team : BitVec 16)
  -- Pattern Table
  | definePattern (pattern n rotation anchor ax ay : Byte) (pieces : Table 6 PieceBytes)
  | erasePattern (pattern : Byte)
  | getPattern (pattern : Byte)
  | countPattern (pattern form player : Byte)
  -- Quest Engine
  | defineQuest (quest owner count : Byte) (stages : Table 4 StageBytes)
  | eraseQuest (quest : Byte)
  | getQuest (quest : Byte)
  | startQuest (quest : Byte)
  | pauseQuest (quest : Byte)
  | resumeQuest (quest : Byte)
  | abandonQuest (quest : Byte)
  | setProgress (quest stage : Byte) (earned : BitVec 16)
  -- Lamp and Sound Unit
  | setLamps (x0 y0 x1 y1 setting : Byte)
  | getLamps (lane : Byte)
  | playCue (cue : Byte)
  | stopCues
  | setLoadLimit (limit : Byte)
  -- events of the link
  | receiveByte (b : RxByte)
  | gapTimerExpiry
  | replySent
  -- events of reset and start-up
  | restartReset
  | powerUp
  | resetnAssert
  | resetEnd
  | startUpEnd
  | guardSettleEnd
  -- the tick and its parts
  | tick (order : TickOrder)
  | holdComplete (quest : QuestId)
  | deadlineExpiry (quest : QuestId)
  | flashExpiry (quest : QuestId)
  | blinkPhaseChange
  | cueEnd
  -- events of the lanes
  | connectorSeen (lane : Lane)
  | connectorLost (lane : Lane)
  | linkSettleEnd (lane : Lane)
  | holdTimerExpiry (lane : Lane)
  | parkComplete (lane : Lane)
  | scanPaceExpiry (lane : Lane)
  | sweepTimer (lane : Lane)
  | readSlotEnd (lane : Lane) (marks : List Mark)
  | lampSlotEnd (lane : Lane)
  | checkSlotEnd (lane : Lane) (marks : List Mark)
  -- the evaluation pass, rest, supply
  | passCommit
  | activityTimerExpiry
  | restEntry
  | supplyLoss
  deriving DecidableEq, Repr

end Sys2Proof
end

