-- ==== Sys2Proof/Decode.lean ====
section
/-!
DEFINITION. The words of the commands.
No row of spec/opcode_table.json gives bits, so `decodeTableWord` reads no command from a word (DESIGN CHOICE, assumption 28).
Requests do have a byte layout (section 12.2 and 12.6): `encodeBody` writes the body of a request frame and `decodeBody` reads one, refusing by name (R161 steps 1 and 2).
-/

namespace Sys2Proof

/-- No row of the table gives bits: no word spells a command. -/
def decodeTableWord (_nbits _w : Nat) : Option Instr := none

/-- A two-byte field, least significant byte first (section 5 of 00_scope.md, Byte order). -/
def le16 (lo hi : Byte) : BitVec 16 := hi ++ lo
/-- A three-byte field, least significant byte first. -/
def le24 (b0 b1 b2 : Byte) : BitVec 24 := b2 ++ (b1 ++ b0)
/-- A four-byte field, least significant byte first. -/
def le32 (b0 b1 b2 b3 : Byte) : BitVec 32 := b3 ++ (b2 ++ (b1 ++ b0))

/-- The bytes of a two-byte field, least significant first. -/
def bytes16 (w : BitVec 16) : List Byte := [w.extractLsb' 0 8, w.extractLsb' 8 8]
/-- The bytes of a three-byte field, least significant first. -/
def bytes24 (w : BitVec 24) : List Byte := [w.extractLsb' 0 8, w.extractLsb' 8 8, w.extractLsb' 16 8]
/-- The bytes of a four-byte field, least significant first. -/
def bytes32 (w : BitVec 32) : List Byte :=
  [w.extractLsb' 0 8, w.extractLsb' 8 8, w.extractLsb' 16 8, w.extractLsb' 24 8]

/-- A piece record's five bytes (section 12.6). -/
def pieceBytes (p : PieceBytes) : List Byte := [p.dx, p.dy, p.kindTest, p.facing, p.side]

/-- A stage record's fifteen bytes (section 12.6). -/
def stageBytes (t : StageBytes) : List Byte :=
  [t.kind, t.pattern, t.kindTest, t.m] ++ bytes16 t.d ++ [t.filter, t.reward] ++ bytes16 t.limit
    ++ [t.x0, t.y0, t.x1, t.y1, t.cue]

/-- Section 12.2: the body length listed for a request kind code, none for a code that is not listed. -/
def requestLen : Nat → Option Nat
  | 0x01 => some 1 | 0x02 => some 1 | 0x03 => some 1 | 0x04 => some 1 | 0x05 => some 4 | 0x06 => some 2
  | 0x07 => some 5
  | 0x10 => some 5 | 0x11 => some 2 | 0x12 => some 1
  | 0x18 => some 2 | 0x19 => some 2 | 0x1A => some 2
  | 0x20 => some 4 | 0x21 => some 3 | 0x22 => some 1 | 0x23 => some 1 | 0x24 => some 3 | 0x25 => some 3
  | 0x26 => some 1 | 0x27 => some 1 | 0x28 => some 6
  | 0x30 => some 6 | 0x31 => some 4 | 0x32 => some 4 | 0x33 => some 6
  | 0x40 => some 1 | 0x41 => some 5 | 0x42 => some 1 | 0x43 => some 1 | 0x44 => some 1 | 0x45 => some 4
  | 0x46 => some 1 | 0x47 => some 11
  | 0x50 => some 37 | 0x51 => some 2 | 0x52 => some 2 | 0x53 => some 4
  | 0x58 => some 64 | 0x59 => some 2 | 0x5A => some 2 | 0x5B => some 2 | 0x5C => some 2 | 0x5D => some 2
  | 0x5E => some 2 | 0x5F => some 5
  | 0x60 => some 6 | 0x61 => some 2 | 0x62 => some 2 | 0x63 => some 1 | 0x64 => some 2
  | _ => none

/-- The body of a request's frame: the kind byte and the parameters in their places (section 12.2); none for an event. -/
def encodeBody : Instr → Option (List Byte)
  | .hello => some [0x01]
  | .status => some [0x02]
  | .restart => some [0x03]
  | .newGame => some [0x04]
  | .setRest d a => some ([0x05] ++ bytes16 d ++ [a])
  | .fetch k => some [0x06, k]
  | .setNoticeModes f q p b => some [0x07, f, q, p, b]
  | .placeSegment n ox oy h => some [0x10, n, ox, oy, h]
  | .unplaceSegment n => some [0x11, n]
  | .getPlan => some [0x12]
  | .parkLane n => some [0x18, n]
  | .runLane n => some [0x19, n]
  | .laneCheck n => some [0x1A, n]
  | .getCell f a b => some [0x20, f, a, b]
  | .watchCell n c => some [0x21, n, c]
  | .getWatch => some [0x22]
  | .getBoard => some [0x23]
  | .retireCell n c => some [0x24, n, c]
  | .reinstateCell n c => some [0x25, n, c]
  | .getFirstFault => some [0x26]
  | .clearFirstFault => some [0x27]
  | .setSensing a l h f t => some [0x28, a, l, h, f, t]
  | .enroll x o b => some ([0x30] ++ bytes24 x ++ [o, b])
  | .withdraw x => some ([0x31] ++ bytes24 x)
  | .getTile x => some ([0x32] ++ bytes24 x)
  | .setRosterPolicy p e => some ([0x33, p] ++ bytes32 e)
  | .getTurn => some [0x40]
  | .setTurn m n c k => some [0x41, m, n, c, k]
  | .endTurn => some [0x42]
  | .clockRun => some [0x43]
  | .clockPause => some [0x44]
  | .setClock v => some ([0x45] ++ bytes24 v)
  | .getScores => some [0x46]
  | .setScores a b c d t => some ([0x47] ++ bytes16 a ++ bytes16 b ++ bytes16 c ++ bytes16 d ++ bytes16 t)
  | .definePattern p n r a ax ay ps => some ([0x50, p, n, r, a, ax, ay] ++ ps.toList.flatMap pieceBytes)
  | .erasePattern p => some [0x51, p]
  | .getPattern p => some [0x52, p]
  | .countPattern p f x => some [0x53, p, f, x]
  | .defineQuest q o n ts => some ([0x58, q, o, n] ++ ts.toList.flatMap stageBytes)
  | .eraseQuest q => some [0x59, q]
  | .getQuest q => some [0x5A, q]
  | .startQuest q => some [0x5B, q]
  | .pauseQuest q => some [0x5C, q]
  | .resumeQuest q => some [0x5D, q]
  | .abandonQuest q => some [0x5E, q]
  | .setProgress q t e => some ([0x5F, q, t] ++ bytes16 e)
  | .setLamps a b c d t => some [0x60, a, b, c, d, t]
  | .getLamps n => some [0x61, n]
  | .playCue c => some [0x62, c]
  | .stopCues => some [0x63]
  | .setLoadLimit l => some [0x64, l]
  | .receiveByte _ => none
  | .gapTimerExpiry => none
  | .replySent => none
  | .restartReset => none
  | .powerUp => none
  | .resetnAssert => none
  | .resetEnd => none
  | .startUpEnd => none
  | .guardSettleEnd => none
  | .tick _ => none
  | .holdComplete _ => none
  | .deadlineExpiry _ => none
  | .flashExpiry _ => none
  | .blinkPhaseChange => none
  | .cueEnd => none
  | .connectorSeen _ => none
  | .connectorLost _ => none
  | .linkSettleEnd _ => none
  | .holdTimerExpiry _ => none
  | .parkComplete _ => none
  | .scanPaceExpiry _ => none
  | .sweepTimer _ => none
  | .readSlotEnd _ _ => none
  | .lampSlotEnd _ => none
  | .checkSlotEnd _ _ => none
  | .passCommit => none
  | .activityTimerExpiry => none
  | .restEntry => none
  | .supplyLoss => none

/-- Byte `i` of a body. -/
def byteAt (body : List Byte) (i : Nat) : Byte := body.getD i 0

/-- The piece record whose bytes begin at offset `i` of a body. -/
def pieceAt (body : List Byte) (i : Nat) : PieceBytes :=
  ⟨byteAt body i, byteAt body (i + 1), byteAt body (i + 2), byteAt body (i + 3), byteAt body (i + 4)⟩

/-- The stage record whose bytes begin at offset `i` of a body. -/
def stageAt (body : List Byte) (i : Nat) : StageBytes :=
  { kind := byteAt body i
    pattern := byteAt body (i + 1)
    kindTest := byteAt body (i + 2)
    m := byteAt body (i + 3)
    d := le16 (byteAt body (i + 4)) (byteAt body (i + 5))
    filter := byteAt body (i + 6)
    reward := byteAt body (i + 7)
    limit := le16 (byteAt body (i + 8)) (byteAt body (i + 9))
    x0 := byteAt body (i + 10)
    y0 := byteAt body (i + 11)
    x1 := byteAt body (i + 12)
    y1 := byteAt body (i + 13)
    cue := byteAt body (i + 14) }

/-- The request of kind code `k` whose body is `b`, every parameter taken whole at its fixed offset (R172). -/
def requestOf (k : Nat) (b : List Byte) : Option Instr :=
  match k with
  | 0x01 => some .hello
  | 0x02 => some .status
  | 0x03 => some .restart
  | 0x04 => some .newGame
  | 0x05 => some (.setRest (le16 (byteAt b 1) (byteAt b 2)) (byteAt b 3))
  | 0x06 => some (.fetch (byteAt b 1))
  | 0x07 => some (.setNoticeModes (byteAt b 1) (byteAt b 2) (byteAt b 3) (byteAt b 4))
  | 0x10 => some (.placeSegment (byteAt b 1) (byteAt b 2) (byteAt b 3) (byteAt b 4))
  | 0x11 => some (.unplaceSegment (byteAt b 1))
  | 0x12 => some .getPlan
  | 0x18 => some (.parkLane (byteAt b 1))
  | 0x19 => some (.runLane (byteAt b 1))
  | 0x1A => some (.laneCheck (byteAt b 1))
  | 0x20 => some (.getCell (byteAt b 1) (byteAt b 2) (byteAt b 3))
  | 0x21 => some (.watchCell (byteAt b 1) (byteAt b 2))
  | 0x22 => some .getWatch
  | 0x23 => some .getBoard
  | 0x24 => some (.retireCell (byteAt b 1) (byteAt b 2))
  | 0x25 => some (.reinstateCell (byteAt b 1) (byteAt b 2))
  | 0x26 => some .getFirstFault
  | 0x27 => some .clearFirstFault
  | 0x28 => some (.setSensing (byteAt b 1) (byteAt b 2) (byteAt b 3) (byteAt b 4) (byteAt b 5))
  | 0x30 => some (.enroll (le24 (byteAt b 1) (byteAt b 2) (byteAt b 3)) (byteAt b 4) (byteAt b 5))
  | 0x31 => some (.withdraw (le24 (byteAt b 1) (byteAt b 2) (byteAt b 3)))
  | 0x32 => some (.getTile (le24 (byteAt b 1) (byteAt b 2) (byteAt b 3)))
  | 0x33 => some (.setRosterPolicy (byteAt b 1) (le32 (byteAt b 2) (byteAt b 3) (byteAt b 4) (byteAt b 5)))
  | 0x40 => some .getTurn
  | 0x41 => some (.setTurn (byteAt b 1) (byteAt b 2) (byteAt b 3) (byteAt b 4))
  | 0x42 => some .endTurn
  | 0x43 => some .clockRun
  | 0x44 => some .clockPause
  | 0x45 => some (.setClock (le24 (byteAt b 1) (byteAt b 2) (byteAt b 3)))
  | 0x46 => some .getScores
  | 0x47 => some (.setScores (le16 (byteAt b 1) (byteAt b 2)) (le16 (byteAt b 3) (byteAt b 4))
      (le16 (byteAt b 5) (byteAt b 6)) (le16 (byteAt b 7) (byteAt b 8)) (le16 (byteAt b 9) (byteAt b 10)))
  | 0x50 => some (.definePattern (byteAt b 1) (byteAt b 2) (byteAt b 3) (byteAt b 4) (byteAt b 5) (byteAt b 6)
      #v[pieceAt b 7, pieceAt b 12, pieceAt b 17, pieceAt b 22, pieceAt b 27, pieceAt b 32])
  | 0x51 => some (.erasePattern (byteAt b 1))
  | 0x52 => some (.getPattern (byteAt b 1))
  | 0x53 => some (.countPattern (byteAt b 1) (byteAt b 2) (byteAt b 3))
  | 0x58 => some (.defineQuest (byteAt b 1) (byteAt b 2) (byteAt b 3)
      #v[stageAt b 4, stageAt b 19, stageAt b 34, stageAt b 49])
  | 0x59 => some (.eraseQuest (byteAt b 1))
  | 0x5A => some (.getQuest (byteAt b 1))
  | 0x5B => some (.startQuest (byteAt b 1))
  | 0x5C => some (.pauseQuest (byteAt b 1))
  | 0x5D => some (.resumeQuest (byteAt b 1))
  | 0x5E => some (.abandonQuest (byteAt b 1))
  | 0x5F => some (.setProgress (byteAt b 1) (byteAt b 2) (le16 (byteAt b 3) (byteAt b 4)))
  | 0x60 => some (.setLamps (byteAt b 1) (byteAt b 2) (byteAt b 3) (byteAt b 4) (byteAt b 5))
  | 0x61 => some (.getLamps (byteAt b 1))
  | 0x62 => some (.playCue (byteAt b 1))
  | 0x63 => some .stopCues
  | 0x64 => some (.setLoadLimit (byteAt b 1))
  | _ => none

/-- The two ways the Link Interface refuses a body before its owning block sees it (R161). -/
inductive DecodeError where
  /-- R161 step 1: the kind byte is not a request kind of the code table. -/
  | unknownKind
  /-- R161 step 2: LEN differs from the body length listed for the kind. -/
  | badLength
  deriving DecidableEq, Repr

/-- The request a frame's body asks for (R161 steps 1 and 2, R172). -/
def decodeBody (body : List Byte) : Except DecodeError Instr :=
  match requestLen (byteAt body 0).toNat with
  | none => .error .unknownKind
  | some len =>
    if body.length = len then
      match requestOf (byteAt body 0).toNat body with
      | some i => .ok i
      | none => .error .unknownKind
    else .error .badLength

/-- The check byte of R158: LEN, the body and the check add up to a multiple of 256. -/
def checkByte (body : List Byte) : Byte := -(BitVec.ofNat 8 body.length + body.sum)

/-- A frame with the given start byte: start, LEN, body, CHECK (section 12.1). -/
def frameBytes (start : Byte) (body : List Byte) : List Byte :=
  [start, BitVec.ofNat 8 body.length] ++ body ++ [checkByte body]

/-- The start byte of a request frame (section 10.2). -/
def requestStart : Byte := 0xA5
/-- The start byte of a reply frame (section 10.6). -/
def replyStart : Byte := 0x5A

end Sys2Proof
end

