-- ==== Sys2Proof/Config.lean ====
section
/-!
DEFINITION. What the manual leaves to the implementation: free values with no body, so that nothing proved rests on a number chosen here.
Five enumerations are sent in replies (R173: an enumeration takes 1 byte) and section 12.3 gives them no codes. Each code is a free value (DESIGN CHOICE, assumption 12).
-/

namespace Sys2Proof

/-- The byte that carries the result of ENROLL, `true` for ADDED and `false` for UPDATED (R67). No code is given for it. -/
opaque Config.enrollResultCode : Bool → Byte

/-- The byte that carries the verdict of LANE_CHECK, `true` for PASS (R34). No code is given for it. -/
opaque Config.checkVerdictCode : Bool → Byte

/-- The byte that carries the cause of the first-fault record: 0 SUSPECT, 1 AUTO_RETIRE, 2 LANE_CHECK in the order of R61. No code is given for it. -/
opaque Config.faultCauseCode : Fin 3 → Byte

/-- The byte that carries the slot kind of a watch entry, `true` for CONFIRM (R63). No code is given for it. -/
opaque Config.slotKindCode : Bool → Byte

/-- The byte that carries the blink phase in GET_LAMPS, `true` for ON (R142). No code is given for it. -/
opaque Config.blinkPhaseCode : Bool → Byte

end Sys2Proof
end

