-- ==== Sys2Proof/Machine/State.lean ====
section
/-!
DEFINITION. Everything the spec gives the part, as plain data, and its value at the end of a hardware reset (R168).
What the spec derives from other state (board positions, effective lamps, drives, loads, ATTN, TXD) is a function over it in the other files of this folder.
A timer is `none` while stopped and holds the time it was loaded with while running; its expiry is a command (DESIGN CHOICE, assumption 3).
-/

namespace Sys2Proof.Machine

open Sys2Proof

/-! ### Names of 00_scope.md, section 4 -/

/-- A physical sensing site, cell n/s. -/
structure CellId where
  lane : Lane
  slot : Slot
  deriving DecidableEq, Repr

/-- A board position of the 16 by 16 play grid. -/
structure Pos where
  x : Fin 16
  y : Fin 16
  deriving DecidableEq, Repr

/-- A rectangle of board positions (R107, R134). -/
structure Region where
  x0 : Fin 16
  y0 : Fin 16
  x1 : Fin 16
  y1 : Fin 16
  deriving DecidableEq, Repr

/-- The tile side that faces up. -/
inductive Side where
  | a
  | b
  deriving DecidableEq, Repr

/-- A tile identity of 20 bits. -/
abbrev Serial := BitVec 20
/-- Player 1 to 4, or 0 for no player; for a score counter, 0 is the team. -/
abbrev Player := Fin 5

/-- A table over the 96 cells. -/
abbrev CellTable (α : Type) := Table 8 (Table 12 α)

/-! ### Board Plan (R1) -/

/-- The placement of a placed lane. An unplaced lane has none. -/
structure Placement where
  ox : Fin 16
  oy : Fin 16
  h : Fin 4
  deriving DecidableEq, Repr

/-! ### Lane units (R14) -/

inductive LaneState where
  | absent
  | linking
  | running
  | lost
  | parked
  deriving DecidableEq, Repr

/-- The state a LINKING lane came from (R16). -/
inductive ReturnState where
  | absent
  | lost
  deriving DecidableEq, Repr

inductive ScanMode where
  | normal
  | sweep
  deriving DecidableEq, Repr

/-- The drive of a lamp (R136). -/
inductive Drive where
  | off
  | dim
  | bright
  deriving DecidableEq, Repr

/-- A slot in flight with its kind and cell; a LAMP slot carries the drive it copied at its start (R32). -/
inductive SlotInFlight where
  | sense (slot : Slot)
  | confirm (slot : Slot)
  | lamp (copy : Table 12 Drive)
  | check
  deriving DecidableEq, Repr

structure LaneUnit where
  state : LaneState
  /-- present in LINKING only -/
  returnState : Option ReturnState
  /-- the 200 ms settle timer, ms -/
  settle : Option Nat
  /-- the hold timer, tenths of a second -/
  hold : Option Nat
  mode : ScanMode
  /-- the next slot a NORMAL scan reads -/
  pointer : Slot
  /-- whether the scan is waiting for a SENSE slot (R30) -/
  waiting : Bool
  /-- the 800 us pace timer of a NORMAL scan -/
  pace : Option Nat
  /-- the 250 ms sweep timer of SWEEP mode (R31) -/
  sweepTimer : Option Nat
  /-- the next slot of a sweep in progress -/
  sweep : Option Slot
  /-- the confirm request list, oldest first (R28) -/
  confirms : List Slot
  fairness : Nat
  /-- lamp latch stale -/
  stale : Bool
  /-- the slot in flight -/
  slot : Option SlotInFlight
  checkPending : Bool
  /-- a park waits for the slot in flight to end (R20) -/
  parkWaiting : Bool
  /-- the level last held for 2 ms on LCDn: connector present (R15) -/
  connector : Bool
  /-- what the segment's lamp latch was last loaded with; off once a lane state takes its power (section 2.6). What its lamps show is `State.segmentLamps` -/
  latch : Table 12 Drive
  deriving DecidableEq, Repr

/-! ### Cell Tracker (R36, R37, R61, R63) -/

inductive CellState where
  | vacant
  | arriving
  | seated
  | shifting
  | lifting
  | twin
  | suspect
  | held
  | retired
  deriving DecidableEq, Repr

/-- What a tag reply says of a tile: its code and the pad that carried it. -/
structure TileRead where
  serial : Serial
  kind : Fin 64
  side : Side
  edition : Fin 32
  pad : Fin 4
  deriving DecidableEq, Repr

/-- The tile the map holds as seated on a cell. -/
structure Incumbent where
  tile : TileRead
  facing : Fin 4
  placedBy : Player
  seatedAt : Nat
  counting : Bool
  owner : Player
  deriving DecidableEq, Repr

/-- A tile being confirmed, or in TWIN the twin tile. -/
structure Candidate where
  tile : TileRead
  arrive : Nat
  deriving DecidableEq, Repr

structure CellRec where
  state : CellState
  incumbent : Option Incumbent
  candidate : Option Candidate
  lift : Nat
  absent : Nat
  score : Nat
  entries : Nat
  peak : Nat
  deriving DecidableEq, Repr

structure Sensing where
  arriveN : Nat
  liftN : Nat
  /-- hold time, tenths of a second -/
  hold : Nat
  /-- the lane floors F -/
  floors : Table 8 Nat
  deriving DecidableEq, Repr

/-- The outcome of one read of one cell, as the tracker classifies it (R38); also the result kinds of a lane (R26), where `good` stands for DECODED. -/
inductive OutcomeKind where
  | good
  | weak
  | absent
  | garbled
  | parity
  | stalled
  deriving DecidableEq, Repr

inductive FaultCause where
  | suspect
  | autoRetire
  | laneCheck
  deriving DecidableEq, Repr

/-- Where a fault was found: a cell, or a lane for LANE_CHECK. -/
inductive FaultPlace where
  | cell (c : CellId)
  | lane (n : Lane)
  deriving DecidableEq, Repr

/-- A present first-fault record; an empty one is `none`. -/
structure FirstFault where
  cause : FaultCause
  place : FaultPlace
  outcome : OutcomeKind
  score : Nat
  clock : Nat
  later : Nat
  deriving DecidableEq, Repr

inductive SlotKind where
  | sense
  | confirm
  deriving DecidableEq, Repr

structure TraceEntry where
  slotKind : SlotKind
  outcome : OutcomeKind
  amplitude : Nat
  threshold : Nat
  guarded : Bool
  serial : Option Serial
  clock : Nat
  deriving DecidableEq, Repr

structure Watch where
  cell : Option CellId
  trace : List TraceEntry
  overrun : Bool
  deriving DecidableEq, Repr

/-! ### Tile Roster (R65) -/

structure RosterEntry where
  serial : Serial
  owner : Player
  banned : Bool
  deriving DecidableEq, Repr

structure Roster where
  /-- the entries, in rising order of serial (DESIGN CHOICE, assumption 24) -/
  entries : List RosterEntry
  /-- policy CLOSED -/
  closed : Bool
  /-- bit e set for an accepted edition e -/
  editions : BitVec 32
  deriving DecidableEq, Repr

/-! ### Pattern Table (R74, R75) -/

/-- A test of a tile's kind. -/
inductive TileTest where
  | anyTile
  | exact (k : Fin 64)
  | family (f : Fin 8)
  deriving DecidableEq, Repr

/-- A piece asks for a tile, or for a live position with no tile on it. -/
inductive PieceTest where
  | tile (t : TileTest)
  | empty
  deriving DecidableEq, Repr

structure Piece where
  dx : Int
  dy : Int
  test : PieceTest
  facing : Option (Fin 4)
  side : Option Side
  deriving DecidableEq, Repr

inductive Rotation where
  | fixed
  | turning
  | any
  deriving DecidableEq, Repr

structure Pattern where
  rotation : Rotation
  /-- `none` for FREE, the position for AT -/
  anchor : Option Pos
  /-- piece 0, the anchor piece, first -/
  pieces : List Piece
  deriving DecidableEq, Repr

/-- The owner filter given with every match (R82). -/
inductive OwnerFilter where
  | any
  | owner (p : Player)
  | placed (p : Player)
  deriving DecidableEq, Repr

/-! ### Quest Engine (R106, R107, R119) -/

inductive QuestState where
  | empty
  | dormant
  | running
  | paused
  | done
  | failed
  deriving DecidableEq, Repr

inductive StageFilter where
  | any
  | questOwner
  | placedByOwner
  deriving DecidableEq, Repr

/-- A stage's kind with the fields that kind uses (R107, R109: fields a kind does not use are not kept). -/
inductive StageTest where
  | form (pattern : Fin 32) (m : Nat)
  | hold (pattern : Fin 32) (m d : Nat)
  | collect (test : TileTest) (m : Nat)
  | clear (test : TileTest) (m : Nat)
  deriving DecidableEq, Repr

structure Stage where
  test : StageTest
  filter : StageFilter
  reward : Nat
  /-- time limit L in ticks, 0 for none -/
  limit : Nat
  hint : Option Region
  cue : Option (Fin 16)
  deriving DecidableEq, Repr

inductive FailReason where
  | time
  | abandoned
  deriving DecidableEq, Repr

structure Progress where
  stage : Nat
  started : Option Nat
  deadline : Option Nat
  remaining : Option Nat
  holdSince : Option Nat
  earned : Nat
  failReason : Option FailReason
  deriving DecidableEq, Repr

structure Quest where
  state : QuestState
  owner : Player
  /-- stages 0 to count - 1; an EMPTY quest has none -/
  stages : List Stage
  progress : Progress
  deriving DecidableEq, Repr

/-- What a view of the board shows of a tile (R81). -/
structure TileView where
  kind : Fin 64
  side : Side
  facing : Fin 4
  counting : Bool
  owner : Player
  placedBy : Player
  deriving DecidableEq, Repr

/-- What a view shows of a cell: RETIRED, without an incumbent, or with one. -/
inductive CellView where
  | retired
  | vacant
  | tile (t : TileView)
  deriving DecidableEq, Repr

/-- A view of the board: the plan and the 96 cells at one moment (R81). -/
structure View where
  plan : Table 8 (Option Placement)
  cells : CellTable CellView
  deriving DecidableEq, Repr

/-- An evaluation pass in flight (R119). -/
structure Pass where
  epoch : BitVec 16
  view : View
  /-- the evaluated set with stage indexes, in quest order -/
  evaluated : List (QuestId × Nat)
  /-- the copied definitions of the patterns its stages name -/
  patterns : Table 32 (Option Pattern)
  deriving DecidableEq, Repr

structure QuestEngine where
  records : Table 24 Quest
  passWanted : Bool
  pass : Option Pass
  deriving DecidableEq, Repr

/-! ### Play Record (R93) -/

structure PlayRecord where
  /-- turn mode TURNS (FREE otherwise) -/
  turns : Bool
  /-- players in play -/
  np : Player
  current : Player
  turnNumber : Nat
  moves : Nat
  movesPerTurn : Nat
  clock : Nat
  clockRunning : Bool
  /-- the team counter at 0, players 1 to 4 at their numbers -/
  scores : Table 5 Nat
  /-- the tick generator's period timer, ms -/
  tickTimer : Nat
  deriving DecidableEq, Repr

/-! ### Lamp and Sound Unit (R131) -/

inductive LampSetting where
  | free
  | off
  | dim
  | bright
  | blinkDim
  | blinkBright
  deriving DecidableEq, Repr

inductive Guard where
  | settling
  | clear
  | dimmed
  | holding
  deriving DecidableEq, Repr

structure Flash where
  region : Region
  left : Nat
  deriving DecidableEq, Repr

structure LampUnit where
  host : CellTable LampSetting
  hints : Table 24 (Option Region)
  flashes : Table 24 (Option Flash)
  /-- blink phase ON -/
  phaseOn : Bool
  blinkCount : Nat
  guard : Guard
  /-- the guard's settle timer, ms -/
  settle : Option Nat
  limit : Nat
  /-- the cue queue, head first -/
  cues : List (Fin 16)
  /-- ticks left of the head cue while the sounder plays -/
  sounder : Option Nat
  deriving DecidableEq, Repr

/-! ### Notice Unit (R146, R147) -/

inductive NoticeClass where
  | fault
  | quest
  | play
  | board
  deriving DecidableEq, Repr

inductive ClassMode where
  | off
  | quiet
  | loud
  deriving DecidableEq, Repr

inductive StartReason where
  | power
  | pin
  | restart
  deriving DecidableEq, Repr

/-- A cell with the board position it had when the notice was made, if any. -/
structure CellAt where
  cell : CellId
  pos : Option Pos
  deriving DecidableEq, Repr

inductive LiftReason where
  | read
  | displaced
  | retired
  deriving DecidableEq, Repr

inductive TwinEndReason where
  | read
  | suspect
  | retired
  deriving DecidableEq, Repr

/-- What woke a RESTING part (R170). -/
inductive WakeCause where
  | frame
  | tracker (c : CellId)
  | connector (n : Lane)
  deriving DecidableEq, Repr

/-- The 22 notice kinds with the matters of their payloads (R147). Flags are `true` for the case their name says. -/
inductive NoticeBody where
  | started (reason : StartReason) (connectors running : Table 8 Bool)
  | suspect (at_ : CellAt) (score entries : Nat)
  | recovered (at_ : CellAt) (score : Nat) (seated : Bool)
  | retired (at_ : CellAt) (auto : Bool) (entries : Nat)
  | laneGone (lane : Lane) (held : Nat)
  | laneBack (lane : Lane) (returned : Nat)
  | laneLost (lane : Lane) (dropped : Nat)
  | stageDone (quest : QuestId) (stage points : Nat) (counter : Player) (byTick : Bool) (epoch : BitVec 16)
  | questDone (quest : QuestId) (stage points : Nat) (counter : Player) (byTick : Bool) (epoch : BitVec 16)
  | questFailed (quest : QuestId) (stage : Nat) (reason : FailReason) (earned : Nat)
  | holdBroken (quest : QuestId) (stage held : Nat) (epoch : BitVec 16)
  | turnEnd (player : Player) (turn moves : Nat) (byHost : Bool) (next : Player)
  | clock (running byRest : Bool)
  | guard (before after : Guard) (ln ld limit : Nat)
  | rest (delay : Nat) (autoPause paused : Bool)
  | wake (cause : WakeCause) (clockRun : Bool)
  | arrival (at_ : CellAt) (tile : TileRead) (facing : Fin 4) (promoted : Bool)
  | lift (at_ : CellAt) (serial : Serial) (reason : LiftReason)
  | swap (at_ : CellAt) (tile : TileRead) (facing : Fin 4)
  | rotate (at_ : CellAt) (tile : TileRead) (facing : Fin 4)
  | twin (at_ : CellAt) (serial : Serial) (holder : CellId)
  | twinEnd (at_ : CellAt) (serial : Serial) (reason : TwinEndReason)
  deriving DecidableEq, Repr

structure Notice where
  seq : BitVec 16
  body : NoticeBody
  epoch : BitVec 16
  clock : Nat
  deriving DecidableEq, Repr

structure Modes where
  fault : ClassMode
  quest : ClassMode
  play : ClassMode
  board : ClassMode
  deriving DecidableEq, Repr

structure NoticeUnit where
  /-- oldest first -/
  queue : List Notice
  modes : Modes
  /-- the sequence counter -/
  next : BitVec 16
  dropped : Nat
  opened : Bool
  deriving DecidableEq, Repr

/-! ### Link Interface (R159, R162, R164) -/

/-- The receive frame assembler with the bytes it holds. -/
inductive Assembler where
  | hunting
  | length
  /-- LEN and the body bytes gathered so far, first first -/
  | body (len : Nat) (got : List Byte)
  /-- LEN and the whole body -/
  | check (len : Nat) (got : List Byte)
  deriving DecidableEq, Repr

inductive Status where
  | success
  | badFrame
  | starting
  | busy
  | unknownKind
  | badLength
  | badValue
  | refused
  | full
  | void
  deriving DecidableEq, Repr

/-- A reply waiting to be sent: its kind byte, its status and its data. -/
structure Reply where
  kind : Byte
  status : Status
  data : List Byte
  deriving DecidableEq, Repr

/-- The requests that stay in hand beyond their own taking (R162). -/
inductive InHand where
  | laneCheck (n : Lane)
  | parkLane (n : Lane)
  deriving DecidableEq, Repr

structure LinkUnit where
  asm : Assembler
  /-- the 20 ms gap timer, ms -/
  gap : Option Nat
  inHand : Option InHand
  /-- replies waiting, head first -/
  replies : List Reply
  /-- RESTART has been taken: every received byte is ignored (R166) -/
  ignoring : Bool
  deriving DecidableEq, Repr

/-! ### Rest Controller and reset (R167, R168) -/

inductive PartState where
  | starting
  | ready
  | resting
  deriving DecidableEq, Repr

inductive ActivityTimer where
  | stopped
  | running (seconds : Nat)
  | expired
  deriving DecidableEq, Repr

structure RestController where
  part : PartState
  /-- the 300 ms start-up timer, ms -/
  startUp : Option Nat
  startReason : StartReason
  /-- rest delay in seconds, 0 for never -/
  delay : Nat
  autoPause : Bool
  activity : ActivityTimer
  autoPaused : Bool
  deriving DecidableEq, Repr

/-- Whether the part takes events, or is held in reset (R168). -/
inductive Chip where
  /-- out of reset -/
  | running
  /-- held in reset with the cause that the start reason will record -/
  | held (cause : StartReason)
  /-- the supply is out of range -/
  | noSupply
  deriving DecidableEq, Repr

/-! ### The whole part -/

structure State where
  chip : Chip
  rest : RestController
  plan : Table 8 (Option Placement)
  lanes : Table 8 LaneUnit
  cells : CellTable CellRec
  epoch : BitVec 16
  sensing : Sensing
  firstFault : Option FirstFault
  watch : Watch
  roster : Roster
  patterns : Table 32 (Option Pattern)
  quests : QuestEngine
  play : PlayRecord
  lamps : LampUnit
  notices : NoticeUnit
  link : LinkUnit
  /-- the commands waiting, first in, first out: the model's own field -/
  pending : List Instr
  deriving DecidableEq, Repr

/-- The reasons a step can stop with a fault. Every event the spec describes has an effect, so no meaning raises one; the constructor names the one stop a part held without supply could be given, and nothing raises it (safe). -/
inductive Fault where
  /-- Raised by no meaning: events that reach an unpowered part change nothing instead (DEDUCED, assumption 5). Safe. -/
  | unpowered
  deriving DecidableEq, Repr

/-- The reasons a step can refuse a command. -/
inductive Refusal where
  /-- A command that has no meaning yet, refused in exec's arm by its mnemonic. No arm does so. Safe. -/
  | notModelled (mnemonic : String)
  deriving DecidableEq, Repr

/-! ### Reset values, each from the rule named -/

/-- R14. -/
def LaneUnit.reset : LaneUnit :=
  { state := .absent, returnState := none, settle := none, hold := none, mode := .normal, pointer := 0
    waiting := false, pace := none, sweepTimer := none, sweep := none, confirms := [], fairness := 0
    stale := false, slot := none, checkPending := false, parkWaiting := false, connector := false
    latch := Table.full 12 .off }

/-- R36. -/
def CellRec.reset : CellRec :=
  { state := .vacant, incumbent := none, candidate := none, lift := 0, absent := 0, score := 0, entries := 0
    peak := 0 }

/-- R110: the progress of a quest just defined or reset. -/
def Progress.fresh : Progress :=
  { stage := 0, started := none, deadline := none, remaining := none, holdSince := none, earned := 0
    failReason := none }

/-- R106. -/
def Quest.blank : Quest := { state := .empty, owner := 0, stages := [], progress := Progress.fresh }

/-- R37. -/
def Sensing.reset : Sensing := { arriveN := 3, liftN := 4, hold := 50, floors := Table.full 8 24 }

/-- R65. -/
def Roster.reset : Roster := { entries := [], closed := false, editions := BitVec.allOnes 32 }

/-- R93. -/
def PlayRecord.reset : PlayRecord :=
  { turns := false, np := 1, current := 0, turnNumber := 1, moves := 0, movesPerTurn := 0, clock := 0
    clockRunning := false, scores := Table.full 5 0, tickTimer := 125 }

/-- R131. -/
def LampUnit.reset : LampUnit :=
  { host := Table.full 8 (Table.full 12 .free), hints := Table.full 24 Option.none, flashes := Table.full 24 Option.none
    phaseOn := true, blinkCount := 0, guard := .settling, settle := some 300, limit := 96, cues := []
    sounder := Option.none }

/-- R146. -/
def NoticeUnit.reset : NoticeUnit :=
  { queue := [], modes := { fault := .loud, quest := .loud, play := .loud, board := .quiet }, next := 0
    dropped := 0, opened := false }

/-- R159, R162, R164. -/
def LinkUnit.reset : LinkUnit :=
  { asm := .hunting, gap := none, inHand := none, replies := [], ignoring := false }

/-- R167, with the start reason that records the cause of the reset just ended (R168). -/
def RestController.reset (reason : StartReason) : RestController :=
  { part := .starting, startUp := some 300, startReason := reason, delay := 120, autoPause := true
    activity := .stopped, autoPaused := false }

/-- The part at the end of a hardware reset with the given cause: every block at its reset values (R168), with the given commands still waiting. -/
def State.afterReset (reason : StartReason) (pending : List Instr) : State :=
  { chip := .running
    rest := RestController.reset reason
    plan := Table.full 8 none
    lanes := Table.full 8 LaneUnit.reset
    cells := Table.full 8 (Table.full 12 CellRec.reset)
    epoch := 0
    sensing := Sensing.reset
    firstFault := none
    watch := { cell := none, trace := [], overrun := false }
    roster := Roster.reset
    patterns := Table.full 32 none
    quests := { records := Table.full 24 Quest.blank, passWanted := false, pass := none }
    play := PlayRecord.reset
    lamps := LampUnit.reset
    notices := NoticeUnit.reset
    link := LinkUnit.reset
    pending := pending }

/-- The machine right after reset. The reset just ended is a power-up (DESIGN CHOICE, assumption 6). -/
def State.reset : State := State.afterReset .power []

end Sys2Proof.Machine
end

