-- ==== Sys2Proof/Machine/Ops.lean ====
section
/-!
DEFINITION. The named operations over the state that every block uses: reading and writing a lane, a cell, a quest; filing a notice; reporting activity; forming a reply.
-/

namespace Sys2Proof.Machine

open Sys2Proof

/-! ### Lanes and cells -/

/-- Lane `n`. -/
def State.lane (s : State) (n : Lane) : LaneUnit := Table.read s.lanes n

/-- Lane `n` replaced. -/
def State.setLane (s : State) (n : Lane) (u : LaneUnit) : State := { s with lanes := Table.put s.lanes n u }

/-- The cell record of cell `c` (R36). -/
def State.cell (s : State) (c : CellId) : CellRec := Table.read (Table.read s.cells c.lane) c.slot

/-- A cell table with the entry of `c` replaced. -/
def putCell {α : Type} (t : CellTable α) (c : CellId) (a : α) : CellTable α :=
  Table.put t c.lane (Table.put (Table.read t c.lane) c.slot a)

/-- The cell record of `c` replaced. -/
def State.setCell (s : State) (c : CellId) (r : CellRec) : State := { s with cells := putCell s.cells c r }

/-- The twelve cells of a lane in slot order. -/
def laneCells (n : Lane) : List CellId := (List.finRange 12).map fun i => ⟨n, i⟩

/-- The 96 cells in board order: by lane, then by slot (00_scope.md, section 4). -/
def allCells : List CellId := (List.finRange 8).flatMap laneCells

/-- The 256 board positions in board order: by y, then by x. -/
def allPositions : List Pos := (List.finRange 16).flatMap fun y => (List.finRange 16).map fun x => ⟨x, y⟩

/-- Every cell's record rewritten by a function of the cell. -/
def State.mapCells (s : State) (f : CellId → CellRec → CellRec) : State :=
  { s with cells := Table.each s.cells fun n row => Table.each row fun i r => f ⟨n, i⟩ r }

/-- Every lane rewritten by a function of its number. -/
def State.mapLanes (s : State) (f : Lane → LaneUnit → LaneUnit) : State :=
  { s with lanes := Table.each s.lanes f }

/-- The quest record `q`. -/
def State.quest (s : State) (q : QuestId) : Quest := Table.read s.quests.records q

/-- The quest record `q` replaced. -/
def State.setQuest (s : State) (q : QuestId) (r : Quest) : State :=
  { s with quests := { s.quests with records := Table.put s.quests.records q r } }

/-- The pass-wanted flag set (R118). -/
def State.wantPass (s : State) : State := { s with quests := { s.quests with passWanted := true } }

/-! ### Notices (R148 to R151) -/

/-- The class of a kind (R147). -/
def NoticeBody.class : NoticeBody → NoticeClass
  | .started .. | .suspect .. | .recovered .. | .retired .. | .laneGone .. | .laneBack .. | .laneLost .. => .fault
  | .stageDone .. | .questDone .. | .questFailed .. | .holdBroken .. => .quest
  | .turnEnd .. | .clock .. | .guard .. | .rest .. | .wake .. => .play
  | .arrival .. | .lift .. | .swap .. | .rotate .. | .twin .. | .twinEnd .. => .board

/-- The rank of a class, FAULT highest and BOARD lowest (R146). -/
def NoticeClass.rank : NoticeClass → Nat
  | .fault => 3
  | .quest => 2
  | .play => 1
  | .board => 0

/-- The mode of a class (R148). -/
def Modes.of (m : Modes) : NoticeClass → ClassMode
  | .fault => m.fault
  | .quest => m.quest
  | .play => m.play
  | .board => m.board

/-- The rank of the lowest-ranked class present in a queue. -/
def lowestRank (queue : List Notice) : Nat :=
  queue.foldl (fun low n => min low n.body.class.rank) NoticeClass.fault.rank

/-- A queue without the last of its notices that has rank `r`: its youngest one (R151). -/
def dropYoungest (r : Nat) : List Notice → List Notice
  | [] => []
  | n :: rest =>
    if rest.any (fun m => decide (m.body.class.rank = r)) then n :: dropYoungest r rest
    else if n.body.class.rank = r then rest else n :: rest

/-- The most notices the queue holds (R146). -/
def noticeRoom : Nat := 32

/-- A numbered notice offered to the queue (R150, R151). -/
def NoticeUnit.offer (u : NoticeUnit) (n : Notice) : NoticeUnit :=
  if u.queue.length < noticeRoom then { u with queue := u.queue ++ [n] }
  else if lowestRank u.queue < n.body.class.rank then
    { u with queue := dropYoungest (lowestRank u.queue) u.queue ++ [n], dropped := min 255 (u.dropped + 1) }
  else { u with dropped := min 255 (u.dropped + 1) }

/-- A notice made: discarded while the unit is closed (R155) or its class is OFF (R148), else numbered (R149), stamped (R150) and offered. -/
def State.notify (s : State) (b : NoticeBody) : State :=
  if s.notices.opened = false ∨ s.notices.modes.of b.class = .off then s
  else
    { s with
      notices :=
        { s.notices with next := s.notices.next + 1 }.offer
          { seq := s.notices.next, body := b, epoch := s.epoch, clock := s.play.clock } }

/-- ATTN asserted: the queue holds a notice whose class is LOUD at that moment, and the part is not held in reset (R152, R168). -/
def State.attn (s : State) : Bool :=
  decide (s.chip = .running) && s.notices.queue.any fun n => decide (s.notices.modes.of n.body.class = .loud)

/-! ### Activity (R169) -/

/-- The activity timer at the full rest delay, or stopped when the delay is 0. -/
def fullActivity (delay : Nat) : ActivityTimer := if delay = 0 then .stopped else .running delay

/-- A report of activity: in READY with a delay above 0 the activity timer restarts; otherwise nothing changes. -/
def State.reportActivity (s : State) : State :=
  if s.rest.part = .ready ∧ s.rest.delay ≠ 0 then
    { s with rest := { s.rest with activity := .running s.rest.delay } }
  else s

/-! ### Replies (R163, R164) -/

/-- A reply formed and appended at the tail of the transmitter's queue. -/
def State.pushReply (s : State) (r : Reply) : State :=
  { s with link := { s.link with replies := s.link.replies ++ [r] } }

/-- The status and data a block answers a request with; a request that stays in hand has no answer yet (R162). -/
abbrev Answer := Status × List Byte

/-- A request taken by its owning block: the state after, and its answer. -/
abbrev Taken := State × Option Answer

/-- Answered SUCCESS with the given data. -/
def success (s : State) (data : List Byte) : Taken := (s, some (.success, data))

/-- Answered with the given status and data, nothing changed (R161). -/
def answered (s : State) (st : Status) (data : List Byte) : Taken := (s, some (st, data))

/-- Answered BAD_VALUE without data. -/
def badValue (s : State) : Taken := answered s .badValue []

/-- The reasons of REFUSED with their codes (section 12.1). -/
inductive Reason where
  | offgrid
  | overlap
  | laneState
  | notEnrolled
  | inUse
  | noPattern
  | inPlay
  | questState
  | clockRunning
  | freeMode
  deriving DecidableEq, Repr

/-- Section 12.1: the reason byte. -/
def Reason.code : Reason → Byte
  | .offgrid => 1
  | .overlap => 2
  | .laneState => 3
  | .notEnrolled => 4
  | .inUse => 5
  | .noPattern => 6
  | .inPlay => 7
  | .questState => 8
  | .clockRunning => 9
  | .freeMode => 10

/-- Answered REFUSED with a reason and the data the reason names, nothing changed (R161). -/
def refused (s : State) (r : Reason) (data : List Byte) : Taken := answered s .refused (r.code :: data)

/-! ### Reading parameter bytes -/

/-- A byte as a number below `n`, if it is one. -/
def below (n : Nat) (b : Byte) : Option (Fin n) := if h : b.toNat < n then some ⟨b.toNat, h⟩ else none

/-- A value held within bounds. -/
def clamp (lo hi v : Nat) : Nat := max lo (min hi v)

/-- An event taken: none is taken while the part is held in reset or without supply (R168). (DEDUCED, assumption 5) -/
def State.live (s : State) (f : State → State) : State := if s.chip = .running then f s else s

end Sys2Proof.Machine
end

