-- ==== Sys2Proof/Machine/Geometry.lean ====
section
/-!
DEFINITION. Board Plan geometry (R2, R8 to R11) and the views of the board that matching reads (R81).
-/

namespace Sys2Proof.Machine

open Sys2Proof

/-- The width of the footprint for a heading (R2). -/
def footprintWidth (h : Fin 4) : Nat := if h.val % 2 = 0 then 3 else 4
/-- The height of the footprint for a heading (R2). -/
def footprintHeight (h : Fin 4) : Nat := if h.val % 2 = 0 then 4 else 3

/-- A placement lies on the grid (R3). -/
def Placement.onGrid (p : Placement) : Bool :=
  decide (p.ox.val + footprintWidth p.h - 1 ≤ 15) && decide (p.oy.val + footprintHeight p.h - 1 ≤ 15)

/-- The footprint of a placement covers a position (R2). -/
def Placement.covers (p : Placement) (b : Pos) : Bool :=
  decide (p.ox.val ≤ b.x.val) && decide (b.x.val < p.ox.val + footprintWidth p.h) &&
    decide (p.oy.val ≤ b.y.val) && decide (b.y.val < p.oy.val + footprintHeight p.h)

/-- Two footprints share a board position (R4). -/
def Placement.overlaps (p q : Placement) : Bool :=
  decide (p.ox.val < q.ox.val + footprintWidth q.h) && decide (q.ox.val < p.ox.val + footprintWidth p.h) &&
    decide (p.oy.val < q.oy.val + footprintHeight q.h) && decide (q.oy.val < p.oy.val + footprintHeight p.h)

/-- A number as a grid coordinate. Every use is on a coordinate the plan keeps within 0 to 15 (R4). -/
def gridCoord (n : Nat) : Fin 16 := Fin.ofNat 16 n

/-- The column of a slot (R8). -/
def slotColumn (i : Slot) : Nat := i.val % 3
/-- The row of a slot (R8). -/
def slotRow (i : Slot) : Nat := i.val / 3

/-- The board position of a slot under a placement (R8). -/
def Placement.position (p : Placement) (i : Slot) : Pos :=
  let c := slotColumn i
  let r := slotRow i
  match p.h with
  | 0 => ⟨gridCoord (p.ox.val + c), gridCoord (p.oy.val + r)⟩
  | 1 => ⟨gridCoord (p.ox.val + 3 - r), gridCoord (p.oy.val + c)⟩
  | 2 => ⟨gridCoord (p.ox.val + 2 - c), gridCoord (p.oy.val + 3 - r)⟩
  | 3 => ⟨gridCoord (p.ox.val + r), gridCoord (p.oy.val + 2 - c)⟩

/-- The slot under a covered position (R9). -/
def Placement.slotAt (p : Placement) (b : Pos) : Slot :=
  let u := b.x.val - p.ox.val
  let v := b.y.val - p.oy.val
  match p.h with
  | 0 => Fin.ofNat 12 (v * 3 + u)
  | 1 => Fin.ofNat 12 ((3 - u) * 3 + v)
  | 2 => Fin.ofNat 12 ((3 - v) * 3 + (2 - u))
  | 3 => Fin.ofNat 12 (u * 3 + (2 - v))

/-- The board position of a cell under a plan, none while its lane is unplaced (R8). -/
def positionIn (plan : Table 8 (Option Placement)) (c : CellId) : Option Pos :=
  (Table.read plan c.lane).map fun p => p.position c.slot

/-- The covering cell of a position under a plan, if any (R9). -/
def coveringIn (plan : Table 8 (Option Placement)) (b : Pos) : Option CellId :=
  (List.finRange 8).findSome? fun n =>
    match Table.read plan n with
    | some p => if p.covers b then some ⟨n, p.slotAt b⟩ else none
    | none => none

/-- The board position of a cell as the plan stands (R8, R13). -/
def State.position (s : State) (c : CellId) : Option Pos := positionIn s.plan c

/-- The covering cell of a position as the plan stands (R9, R13). -/
def State.covering (s : State) (b : Pos) : Option CellId := coveringIn s.plan b

/-- A position is live and this is its covering cell (R10). -/
def State.liveCell (s : State) (b : Pos) : Option CellId :=
  match s.covering b with
  | some c => if (s.cell c).state = .retired then none else some c
  | none => none

/-- A cell with its position, as notices carry it. -/
def State.cellAt (s : State) (c : CellId) : CellAt := ⟨c, s.position c⟩

/-- The heading facing is computed with: the lane's, or 0 while it is unplaced (R11). -/
def State.heading (s : State) (n : Lane) : Fin 4 :=
  match Table.read s.plan n with
  | some p => p.h
  | none => 0

/-- The facing of a tile on lane `n` that answers on `pad`: (pad + h) mod 4 (R11). -/
def State.facingOf (s : State) (n : Lane) (pad : Fin 4) : Fin 4 := pad + s.heading n

/-- The facing of every incumbent of lane `n` written afresh (R11). -/
def State.refaceLane (s : State) (n : Lane) : State :=
  s.mapCells fun c r =>
    if c.lane = n then
      { r with incumbent := r.incumbent.map fun t => { t with facing := s.facingOf n t.tile.pad } }
    else r

/-! ### Views (R81) -/

/-- What a view shows of a cell record. -/
def CellRec.view (r : CellRec) : CellView :=
  if r.state = .retired then .retired
  else
    match r.incumbent with
    | some t =>
      .tile { kind := t.tile.kind, side := t.tile.side, facing := t.facing, counting := t.counting
              owner := t.owner, placedBy := t.placedBy }
    | none => .vacant

/-- The live view: the map, the plan and the verdicts as they stand (R81, R90). -/
def State.view (s : State) : View :=
  { plan := s.plan, cells := Table.each s.cells fun _ row => Table.each row fun _ r => r.view }

/-- What a view answers for a position: void is `none`, else the covering cell and its tile if it is occupied. -/
def View.look (v : View) (b : Pos) : Option (CellId × Option TileView) :=
  match coveringIn v.plan b with
  | none => none
  | some c =>
    match Table.read (Table.read v.cells c.lane) c.slot with
    | .retired => none
    | .vacant => some (c, none)
    | .tile t => some (c, some t)

/-- The live, occupied positions of a view with their cells and tiles, in board order. -/
def View.occupied (v : View) : List (Pos × CellId × TileView) :=
  allPositions.filterMap fun b =>
    match v.look b with
    | some (c, some t) => some (b, c, t)
    | _ => none

end Sys2Proof.Machine
end

