-- ==== Sys2Proof/Machine/Matching.lean ====
section
/-!
DEFINITION. The match computation on a view (R82 to R88) and the collected count (R108).
-/

namespace Sys2Proof.Machine

open Sys2Proof

/-- A kind passes a kind test (R75). -/
def TileTest.passes (t : TileTest) (k : Fin 64) : Bool :=
  match t with
  | .anyTile => true
  | .exact e => decide (k = e)
  | .family f => decide (k.val / 8 = f.val)

/-- A tile passes an owner filter (R82). -/
def OwnerFilter.passes (f : OwnerFilter) (t : TileView) : Bool :=
  match f with
  | .any => true
  | .owner p => decide (t.owner = p)
  | .placed p => decide (t.placedBy = p)

/-- An offset turned by `t` quarter-turns clockwise (R85). -/
def turnOffset (t : Fin 4) (dx dy : Int) : Int × Int :=
  match t with
  | 0 => (dx, dy)
  | 1 => (-dy, dx)
  | 2 => (-dx, -dy)
  | 3 => (dy, -dx)

/-- A coordinate on the grid, if it is one. -/
def coordinate (v : Int) : Option (Fin 16) :=
  if h : 0 ≤ v ∧ v.toNat < 16 then some ⟨v.toNat, h.2⟩ else none

/-- The target of an offset from an anchor under a rotation, none off the grid (R85). -/
def target (anchor : Pos) (t : Fin 4) (dx dy : Int) : Option Pos :=
  let d := turnOffset t dx dy
  match coordinate (anchor.x.val + d.1), coordinate (anchor.y.val + d.2) with
  | some x, some y => some ⟨x, y⟩
  | _, _ => none

/-- A piece passes at its target under a rotation (R86, R87). -/
def Piece.passes (p : Piece) (v : View) (f : OwnerFilter) (anchor : Pos) (t : Fin 4) : Bool :=
  match target anchor t p.dx p.dy with
  | none => false
  | some b =>
    match p.test, v.look b with
    | _, none => false
    | .empty, some (_, tile) => tile.isNone
    | .tile _, some (_, none) => false
    | .tile test, some (_, some tile) =>
      tile.counting && f.passes tile && test.passes tile.kind &&
        (match p.side with | none => true | some d => decide (tile.side = d)) &&
        (match p.facing with | none => true | some r => decide (tile.facing = t + r))

/-- The rotations tried at an anchor tile of the given facing (R84). -/
def Rotation.tried (r : Rotation) (facing : Fin 4) : List (Fin 4) :=
  match r with
  | .fixed => [0]
  | .turning => [facing]
  | .any => [0, 1, 2, 3]

/-- The first rotation under which every piece passes at an anchor (R88). -/
def Pattern.firstRotation (p : Pattern) (v : View) (f : OwnerFilter) (anchor : Pos) (facing : Fin 4) : Option (Fin 4) :=
  (p.rotation.tried facing).find? fun t => p.pieces.all fun q => q.passes v f anchor t

/-- The candidate anchors (R83). -/
def Pattern.candidates (p : Pattern) (v : View) : List (Pos × CellId × TileView) :=
  match p.anchor with
  | none => v.occupied
  | some b =>
    match v.look b with
    | some (c, some t) => [(b, c, t)]
    | _ => []

/-- The matching anchors in board order, each with its cell and first passing rotation (R88). -/
def Pattern.anchors (p : Pattern) (v : View) (f : OwnerFilter) : List (Pos × CellId × Fin 4) :=
  (p.candidates v).filterMap fun (b, c, t) => (p.firstRotation v f b t.facing).map fun r => (b, c, r)

/-- The match count of a pattern record; an EMPTY record matches nowhere (section 5.4, R88). -/
def matchCount (p : Option Pattern) (v : View) (f : OwnerFilter) : Nat :=
  match p with
  | some p => (p.anchors v f).length
  | none => 0

/-- The collected count (R108). -/
def collectedCount (v : View) (test : TileTest) (f : OwnerFilter) : Nat :=
  v.occupied.countP fun (_, _, t) => t.counting && f.passes t && test.passes t.kind

end Sys2Proof.Machine
end

