-- ==== Sys2Proof/Machine/Lamps.lean ====
section
/-!
DEFINITION. The Lamp and Sound Unit: the quest layer, effective settings and drives, the load, the guard, cues (R131 to R145).
-/

namespace Sys2Proof.Machine

open Sys2Proof

/-! ### The quest layer and the effective setting -/

/-- A region covers a position (R134). -/
def Region.covers (r : Region) (b : Pos) : Bool :=
  decide (r.x0 ≤ b.x) && decide (b.x ≤ r.x1) && decide (r.y0 ≤ b.y) && decide (b.y ≤ r.y1)

/-- The lowest-numbered quest whose flash covers a position. -/
def LampUnit.flashAt (u : LampUnit) (b : Pos) : Option QuestId :=
  (List.finRange 24).find? fun q =>
    match Table.read u.flashes q with
    | some f => f.region.covers b
    | none => false

/-- The lowest-numbered quest whose hint covers a position. -/
def LampUnit.hintAt (u : LampUnit) (b : Pos) : Option QuestId :=
  (List.finRange 24).find? fun q =>
    match Table.read u.hints q with
    | some r => r.covers b
    | none => false

/-- The quest layer's value for a cell, BRIGHT (`true`) or BLINK_DIM, with the quest that supplies it (R134). -/
def State.questLayer (s : State) (c : CellId) : Option (Bool × QuestId) :=
  if (s.cell c).state = .retired then none
  else
    match s.position c with
    | none => none
    | some b =>
      match s.lamps.flashAt b with
      | some q => some (true, q)
      | none => (s.lamps.hintAt b).map fun q => (false, q)

/-- The host setting of a cell (R131). -/
def State.hostSetting (s : State) (c : CellId) : LampSetting := Table.read (Table.read s.lamps.host c.lane) c.slot

/-- The effective setting of a cell, first case first (R135). -/
def State.effective (s : State) (c : CellId) : LampSetting :=
  if (s.cell c).state = .retired then .off
  else if s.rest.part = .resting then .off
  else if s.hostSetting c ≠ .free then s.hostSetting c
  else
    match s.questLayer c with
    | some (true, _) => .bright
    | some (false, _) => .blinkDim
    | none => .off

/-- The drive of an effective setting under a blink phase and a guard state (R136). -/
def driveOf (e : LampSetting) (phaseOn : Bool) (g : Guard) : Drive :=
  let top : Drive := if g = .clear then .bright else .dim
  match e with
  | .free => .off
  | .off => .off
  | .dim => .dim
  | .bright => top
  | .blinkDim => if phaseOn then .dim else .off
  | .blinkBright => if phaseOn then top else .off

/-- The drive of a cell's lamp as things stand (R136). -/
def State.drive (s : State) (c : CellId) : Drive := driveOf (s.effective c) s.lamps.phaseOn s.lamps.guard

/-- The drives of a lane's twelve lamps (R32). -/
def State.laneDrive (s : State) (n : Lane) : Table 12 Drive := Vector.ofFn fun i => s.drive ⟨n, i⟩

/-- The lanes with a lamp whose drive differs from what it was in `before` are marked stale, in any lane state (R32, R136). -/
def State.markStale (before s : State) : State :=
  s.mapLanes fun n u => if before.laneDrive n = s.laneDrive n then u else { u with stale := true }

/-! ### Load and guard -/

/-- The load units of an effective setting, with BRIGHT counted as `top` (R137). -/
def loadOf (e : LampSetting) (phaseOn : Bool) (top : Nat) : Nat :=
  match e with
  | .free => 0
  | .off => 0
  | .dim => 1
  | .bright => top
  | .blinkDim => if phaseOn then 1 else 0
  | .blinkBright => if phaseOn then top else 0

/-- The load with BRIGHT counted as `top`: the lamps of RUNNING lanes, and 8 while the sounder plays (R137). -/
def State.loadSum (s : State) (top : Nat) : Nat :=
  (allCells.map fun c =>
      if (s.lane c.lane).state = .running then loadOf (s.effective c) s.lamps.phaseOn top else 0).sum +
    if s.lamps.sounder.isSome then 8 else 0

/-- The nominal load Ln (R137). -/
def State.ln (s : State) : Nat := s.loadSum 2
/-- The dimmed load Ld (R137). -/
def State.ld (s : State) : Nat := s.loadSum 1

/-- One step of the guard from a state (R138). -/
def guardNext (g : Guard) (ln ld limit : Nat) : Guard :=
  match g with
  | .clear => if ln ≤ limit then .clear else if ld ≤ limit then .dimmed else .holding
  | .dimmed => if limit < ld then .holding else if ln ≤ limit - 8 then .clear else .dimmed
  | .holding => if limit - 8 < ld then .holding else if ln ≤ limit - 8 then .clear else .dimmed
  | .settling => .settling

/-- Whether a change of guard state queues a GUARD notice (R140). -/
def guardNotice (before after : Guard) : Bool :=
  match before, after with
  | .settling, .holding => true
  | .clear, .holding => true
  | .dimmed, .holding => true
  | .holding, .clear => true
  | .holding, .dimmed => true
  | _, _ => false

/-- The guard moved to a state, with the drives and the notice that follow (R140). -/
def State.guardTo (s : State) (g : Guard) : State :=
  if g = s.lamps.guard then s
  else
    let s1 := State.markStale s { s with lamps := { s.lamps with guard := g } }
    if guardNotice s.lamps.guard g then s1.notify (.guard s.lamps.guard g s.ln s.ld s.lamps.limit) else s1

/-- The guard evaluated once from its present state (R138); SETTLING stays (R139). (DEDUCED, assumption 14) -/
def State.evalGuard (s : State) : State := s.guardTo (guardNext s.lamps.guard s.ln s.ld s.lamps.limit)

/-- One event at the Lamp and Sound Unit: after `f` the lanes with a changed drive are stale (R136) and, if Ln or Ld changed, the guard is evaluated once (R137). -/
def State.lampEvent (s : State) (f : State → State) : State :=
  let s1 := State.markStale s (f s)
  if s1.ln = s.ln ∧ s1.ld = s.ld then s1 else s1.evalGuard

/-! ### Hints and flashes (R133) -/

/-- A quest's hint posted or withdrawn. -/
def State.setHint (s : State) (q : QuestId) (r : Option Region) : State :=
  s.lampEvent fun s => { s with lamps := { s.lamps with hints := Table.put s.lamps.hints q r } }

/-- A flash posted: 8 ticks, replacing any flash the quest held (R127, R133). -/
def State.postFlash (s : State) (q : QuestId) (r : Region) : State :=
  s.lampEvent fun s =>
    { s with lamps := { s.lamps with flashes := Table.put s.lamps.flashes q (some { region := r, left := 8 }) } }

/-- A flash with one tick fewer left; at 0 it is absent (R133). -/
def Flash.step (f : Flash) : Option Flash := if f.left ≤ 1 then none else some { f with left := f.left - 1 }

/-- Every flash takes a tick (R133), as one event. -/
def State.tickFlashes (s : State) : State :=
  s.lampEvent fun s =>
    { s with lamps := { s.lamps with flashes := Table.each s.lamps.flashes fun _ f => f.bind Flash.step } }

/-! ### Blink (R136) -/

/-- The blink phase changes, its count back at 0. -/
def State.toggleBlink (s : State) : State :=
  s.lampEvent fun s => { s with lamps := { s.lamps with phaseOn := !s.lamps.phaseOn, blinkCount := 0 } }

/-- The blink count takes a tick; at 2 the phase changes. -/
def State.tickBlink (s : State) : State :=
  if 2 ≤ s.lamps.blinkCount + 1 then s.toggleBlink
  else { s with lamps := { s.lamps with blinkCount := s.lamps.blinkCount + 1 } }

/-! ### Cues and the sounder (R143 to R145) -/

/-- The ticks a cue sounds (R143). -/
def cueTicks (c : Fin 16) : Nat := [1, 2, 4, 4, 6, 8, 3, 2, 5, 6, 10, 12, 8, 8, 16, 1].getD c.val 1

/-- The most entries the cue queue holds (R144). -/
def cueRoom : Nat := 8

/-- The sounder starts the head cue, or falls silent on an empty queue. -/
def LampUnit.startHead (u : LampUnit) : LampUnit := { u with sounder := u.cues.head?.map cueTicks }

/-- An entry appended; into an empty queue it starts at once, a load change and a cue start (R143). -/
def State.enqueueCue (s : State) (c : Fin 16) : State :=
  let s1 := { s with lamps := { s.lamps with cues := s.lamps.cues ++ [c] } }
  if s.lamps.cues = [] then
    (s1.lampEvent fun s => { s with lamps := s.lamps.startHead }).reportActivity
  else s1

/-- A quest's offer: enqueued if there is room, else dropped (R127, R144). -/
def State.offerCue (s : State) (c : Fin 16) : State :=
  if s.lamps.cues.length < cueRoom then s.enqueueCue c else s

/-- The queue emptied and the sounder silent, one load change (R145). -/
def State.silence (s : State) : State :=
  s.lampEvent fun s => { s with lamps := { s.lamps with cues := [], sounder := none } }

/-- The head cue's end: it leaves, and the next, if any, becomes the head and starts at once, one load change; a start is reported as activity (R143). -/
def State.nextCue (s : State) : State :=
  let s1 := s.lampEvent fun s =>
    { s with lamps := { s.lamps with cues := s.lamps.cues.tail }.startHead }
  if s1.lamps.sounder.isSome then s1.reportActivity else s1

end Sys2Proof.Machine
end

