-- ==== Sys2Proof/Machine/Play.lean ====
section
/-!
DEFINITION. The Play Record: turns, the clock's run state, scores (R93 to R105).
-/

namespace Sys2Proof.Machine

open Sys2Proof

/-- The highest game clock value (R100). -/
def clockMax : Nat := 16777215

/-- The player who plays after `current` with `np` in play: (current mod np) + 1 (R96). -/
def nextPlayer (current np : Player) : Player := Fin.ofNat 5 (current.val % np.val + 1)

/-- The number of the turn after turn `t`: it wraps from 65,535 to 1 (R96). -/
def nextTurn (t : Nat) : Nat := if t ≥ 65535 then 1 else t + 1

/-- A turn ends: the TURN_END notice, then the next player, the next turn number and no moves (R96). -/
def State.endTurn (s : State) (byHost : Bool) : State :=
  let p := s.play
  let s1 := s.notify (.turnEnd p.current p.turnNumber p.moves byHost (nextPlayer p.current p.np))
  { s1 with
    play := { s1.play with current := nextPlayer p.current p.np, turnNumber := nextTurn p.turnNumber, moves := 0 } }

/-- A move taken: counted in TURNS mode, held at 255, and ending the turn when it reaches moves per turn (R95). -/
def State.takeMove (s : State) : State :=
  if s.play.turns then
    let moves := min 255 (s.play.moves + 1)
    let s1 := { s with play := { s.play with moves := moves } }
    if s.play.movesPerTurn ≠ 0 ∧ s.play.movesPerTurn ≤ moves then s1.endTurn false else s1
  else s

/-- A change of the clock's run state, with its CLOCK notice (R101). -/
def State.setClockRunning (s : State) (run byRest : Bool) : State :=
  { s with play := { s.play with clockRunning := run } }.notify (.clock run byRest)

/-- The highest value of a score counter (R104). -/
def scoreMax : Nat := 9999

/-- Points credited to a counter, held at 9,999 (R104). -/
def State.credit (s : State) (counter : Player) (points : Nat) : State :=
  { s with
    play :=
      { s.play with
        scores := Table.put s.play.scores counter (min scoreMax (Table.read s.play.scores counter + points)) } }

end Sys2Proof.Machine
end

