-- ==== Sys2Proof/Machine/Tag.lean ====
section
/-!
DEFINITION. What a lane makes of a tag reply: the windows (R23), the marks (R24), the decoding (R25, R174) and the raw result (R26).
Times are nanoseconds from the slot start. What the rules leave between the lines of a pulse is deduced (DEDUCED, assumption 11).
-/

namespace Sys2Proof.Machine

open Sys2Proof

/-- The answer window closes at 300 us (R23). -/
def answerWindow : Nat := 300000
/-- The base window closes at 700 us (R23). -/
def baseWindow : Nat := 700000
/-- A stretch lasts 100 us, and there are up to 4 (R23). -/
def stretch : Nat := 100000
/-- The end of the last stretch, 1,100 us: a reply still incomplete then is STALLED (R23). -/
def slotLimit : Nat := baseWindow + 4 * stretch
/-- The silence that ends a reply before its second mark, 100 us (R24). -/
def firstSilence : Nat := 100000
/-- The marks of a whole reply (section 2.2.2). -/
def replyMarks : Nat := 36

/-- The code a tag carries (R174). -/
structure TagCode where
  serial : Serial
  kind : Fin 64
  side : Side
  edition : Fin 32
  deriving DecidableEq, Repr

/-- The result kinds of a slot (R26). -/
inductive ResultKind where
  | decoded (t : TagCode)
  | absent
  | garbled
  | parity (symbol : Fin 4)
  | stalled
  deriving DecidableEq, Repr

/-- A raw result: its kind, the pad (absent when ABSENT) and the amplitude (R26). -/
structure RawResult where
  kind : ResultKind
  pad : Option (Fin 4)
  amplitude : Nat
  deriving DecidableEq, Repr

/-- How the marks of a reply ended. -/
inductive Ending where
  /-- all 36 marks arrived in time, with the bit-time -/
  | whole (bitTime : Nat)
  | garbled
  | stalled
  deriving DecidableEq, Repr

/-- The silence a reply may keep after a pulse: 2 bit-times, or 100 us while there is no bit-time (R24). -/
def silenceAllowed (bitTime : Option Nat) : Nat :=
  match bitTime with
  | some b => 2 * b
  | none => firstSilence

/-- A reply that falls silent: GARBLED if the silence is too long before the last stretch ends, else STALLED (R23, R24). -/
def silentEnding (limit : Nat) : Ending := if limit < slotLimit then .garbled else .stalled

/-- The marks received after the first on the reply's pad, newest first, and how the reply ended (R23, R24). A mark is received once its pulse has begun, even one that is not complete at 1,100 us (DESIGN CHOICE, assumption 31). -/
def listen (bitTime : Option Nat) (got : List Mark) (prev : Mark) : List Mark → List Mark × Ending
  | [] => (got, silentEnding (prev.start + prev.width + silenceAllowed bitTime))
  | m :: rest =>
    let limit := prev.start + prev.width + silenceAllowed bitTime
    if limit < m.start then (got, silentEnding limit)
    else if slotLimit < m.start then (got, .stalled)
    else if m.positive = prev.positive then (m :: got, .garbled)
    else
      let b := bitTime.getD (m.start - prev.start)
      if got.length + 1 = replyMarks then
        (m :: got, if m.start + b ≤ slotLimit then .whole b else .stalled)
      else listen (some b) (m :: got) m rest

/-- The first mark of a reply: the earliest within the answer window, the lowest-numbered pad among those that start together (R23, R24). -/
def firstMark (marks : List Mark) : Option Mark :=
  (marks.filter fun m => decide (m.start ≤ answerWindow)).foldl
    (fun best m =>
      match best with
      | none => some m
      | some f => if m.start < f.start ∨ (m.start = f.start ∧ m.pad < f.pad) then some m else some f)
    none

/-- A pulse that fills more than half of its mark period is a 1 (R24). -/
def markBit (bitTime : Nat) (m : Mark) : Bool := decide (bitTime < 2 * m.width)

/-- The amplitude of a reply: the mean of the heights of the marks received, held at 255 (R24). -/
def amplitudeOf (got : List Mark) : Nat := min 255 ((got.map (·.height)).sum / got.length)

/-- The bits of symbol `k`: eight data bits and the parity bit (R174). -/
def symbolBits (bits : List Bool) (k : Fin 4) : List Bool := (bits.drop (9 * k.val)).take 9

/-- A symbol holds an odd number of 1 bits for symbols 0 and 2, an even number for 1 and 3 (R25). -/
def symbolGood (bits : List Bool) (k : Fin 4) : Bool :=
  decide ((symbolBits bits k).count true % 2 = if k.val % 2 = 0 then 1 else 0)

/-- Bits as a number, the first sent least significant. -/
def bitsValue : List Bool → Nat
  | [] => 0
  | b :: rest => b.toNat + 2 * bitsValue rest

/-- The 32 data bits of a reply as a number, data bit 0 of symbol 0 least significant (R174). -/
def dataWord (bits : List Bool) : Nat :=
  bitsValue ((List.finRange 4).flatMap fun k => (symbolBits bits k).take 8)

/-- The code in the 32 data bits (R174). -/
def codeOf (w : Nat) : TagCode :=
  { serial := BitVec.ofNat 20 w
    kind := Fin.ofNat 64 (w / 2 ^ 20)
    side := if w / 2 ^ 26 % 2 = 0 then .a else .b
    edition := Fin.ofNat 32 (w / 2 ^ 27) }

/-- The serials that identify no tile (00_scope.md, section 4). -/
def reservedSerial (x : Serial) : Bool := decide (x = 0) || decide (x = BitVec.allOnes 20)

/-- The first case of R25 that applies to a reply of 36 marks; reserved serials are not tested in a CHECK slot. -/
def decodeReply (check : Bool) (bits : List Bool) : ResultKind :=
  let code := codeOf (dataWord bits)
  if !check && reservedSerial code.serial then .garbled
  else
    match (List.finRange 4).find? fun k => !symbolGood bits k with
    | some k => .parity k
    | none => .decoded code

/-- What a SENSE or CONFIRM slot (or with `check` a CHECK slot) makes of the marks on its four pads (R23 to R26). -/
def hear (check : Bool) (marks : List Mark) : RawResult :=
  match firstMark marks with
  | none => { kind := .absent, pad := none, amplitude := 0 }
  | some f =>
    let onPad := marks.filter fun m => decide (m.pad = f.pad) && decide (f.start < m.start)
    let (got, ending) := listen none [f] f onPad
    { kind :=
        match ending with
        | .garbled => .garbled
        | .stalled => .stalled
        | .whole b => decodeReply check (got.reverse.map (markBit b))
      pad := some f.pad
      amplitude := amplitudeOf got }

/-- The reference responder's code (R34). -/
def referenceCode : TagCode := { serial := BitVec.allOnes 20, kind := 63, side := .b, edition := 31 }

/-- The verdict of a lane check, `true` for PASS (R34). -/
def checkVerdict (r : RawResult) : Bool :=
  decide (r.kind = .decoded referenceCode) && decide (128 ≤ r.amplitude) && decide (r.amplitude ≤ 192)

end Sys2Proof.Machine
end

