-- ==== Sys2Proof/Machine/Tracker.lean ====
section
/-!
DEFINITION. The Cell Tracker: classification, the cell state machine, board changes, twins, faults, lane events (R36 to R58, R61, R63), and the roster's verdict it asks for (R58).
-/

namespace Sys2Proof.Machine

open Sys2Proof

/-! ### Verdict (R58) -/

/-- The roster entry of a serial. -/
def Roster.find (r : Roster) (x : Serial) : Option RosterEntry := r.entries.find? fun e => decide (e.serial = x)

/-- Whether a tile counts, and its owner (R58). -/
def Roster.verdict (r : Roster) (x : Serial) (edition : Fin 32) : Bool × Player :=
  match r.find x with
  | some e => (r.editions.getLsbD edition.val && !e.banned, e.owner)
  | none => (r.editions.getLsbD edition.val && !r.closed, 0)

/-! ### Board changes (R57) -/

/-- A board change committed: the epoch steps, its notice is queued, a pass is wanted, activity is reported (R57 steps 1 to 4). -/
def State.commit (s : State) (b : NoticeBody) : State :=
  (({ s with epoch := s.epoch + 1 }.notify b).wantPass).reportActivity

/-- The move of an ARRIVAL or SWAP, reported when the cell's lane is placed (R57 step 5). -/
def State.reportMove (s : State) (c : CellId) : State := if (s.position c).isSome then s.takeMove else s

/-- A confirm request: appended, merged if already listed, discarded while the lane is not RUNNING (R28, R42). -/
def State.requestConfirm (s : State) (c : CellId) : State :=
  let u := s.lane c.lane
  if u.state = .running ∧ c.slot ∉ u.confirms then s.setLane c.lane { u with confirms := u.confirms ++ [c.slot] }
  else s

/-- A cell holds serial `x` as incumbent. -/
def CellRec.holds (r : CellRec) (x : Serial) : Bool :=
  match r.incumbent with
  | some t => decide (t.tile.serial = x)
  | none => false

/-- The first cell, other than `c`, that holds serial `x` as incumbent (R44). -/
def State.otherHolder (s : State) (c : CellId) (x : Serial) : Option CellId :=
  allCells.find? fun d => decide (d ≠ c) && (s.cell d).holds x

/-- The incumbent a tile becomes when it is seated now on `c` (R11, R44, R58). -/
def State.seatedTile (s : State) (c : CellId) (t : TileRead) : Incumbent :=
  { tile := t
    facing := s.facingOf c.lane t.pad
    placedBy := s.play.current
    seatedAt := s.play.clock
    counting := (s.roster.verdict t.serial t.edition).1
    owner := (s.roster.verdict t.serial t.edition).2 }

/-- A VACANT cell that keeps its score and entries: no tile, counts and peak 0 (R39, R44, R47, R54, R56). -/
def CellRec.emptied (r : CellRec) : CellRec :=
  { r with state := .vacant, incumbent := none, candidate := none, lift := 0, absent := 0, peak := 0 }

/-- A tile seated on `c` as an ARRIVAL, promoted or not, with its move (R44, R53). -/
def State.seat (s : State) (c : CellId) (t : TileRead) (promoted : Bool) : State :=
  let inc := s.seatedTile c t
  let s1 := s.setCell c
    { s.cell c with state := .seated, incumbent := some inc, candidate := none, lift := 0, absent := 0 }
  (s1.commit (.arrival (s1.cellAt c) t inc.facing promoted)).reportMove c

/-- The first TWIN cell in board order whose twin tile has serial `x`, with that tile. -/
def State.firstTwin (s : State) (x : Serial) : Option (CellId × TileRead) :=
  allCells.findSome? fun d =>
    match (s.cell d).state, (s.cell d).candidate with
    | .twin, some t => if t.tile.serial = x then some (d, t.tile) else none
    | _, _ => none

/-- Twin promotion for a serial that a cell has stopped holding (R53). -/
def State.promote (s : State) (x : Serial) : State :=
  match s.firstTwin x with
  | some (d, t) => s.seat d t true
  | none => s

/-- The cell becomes TWIN with its candidate as twin tile and commits a TWIN change (R44, R46). -/
def State.becomeTwin (s : State) (c : CellId) (t : Candidate) (holder : CellId) : State :=
  let s1 := s.setCell c
    { s.cell c with state := .twin, incumbent := none, candidate := some t, lift := 0, absent := 0 }
  s1.commit (.twin (s1.cellAt c) t.tile.serial holder)

/-- A completed arrival: seated, or TWIN when another cell holds the serial (R44). -/
def State.completeArrival (s : State) (c : CellId) (t : Candidate) : State :=
  match s.otherHolder c t.tile.serial with
  | none => s.seat c t.tile false
  | some d => s.becomeTwin c t d

/-- A completed shift: ROTATE, SWAP, or a displacing LIFT and a TWIN (R46). `amplitude` is that of the committing read. -/
def State.completeShift (s : State) (c : CellId) (inc : Incumbent) (t : Candidate) (amplitude : Nat) : State :=
  if t.tile.serial = inc.tile.serial then
    let inc' : Incumbent :=
      { inc with
        tile := t.tile
        facing := s.facingOf c.lane t.tile.pad
        counting := (s.roster.verdict t.tile.serial t.tile.edition).1 }
    let s1 := s.setCell c { s.cell c with state := .seated, incumbent := some inc', candidate := none }
    s1.commit (.rotate (s1.cellAt c) t.tile inc'.facing)
  else
    match s.otherHolder c t.tile.serial with
    | none =>
      let inc' := s.seatedTile c t.tile
      let s1 := s.setCell c
        { s.cell c with state := .seated, incumbent := some inc', candidate := none, peak := amplitude }
      ((s1.commit (.swap (s1.cellAt c) t.tile inc'.facing)).reportMove c).promote inc.tile.serial
    | some d =>
      let s1 := s.setCell c { s.cell c with incumbent := none }
      let s2 := s1.commit (.lift (s1.cellAt c) inc.tile.serial .displaced)
      (s2.becomeTwin c t d).promote inc.tile.serial

/-- An incumbent found gone: VACANT, a LIFT with reason READ, promotion (R47). -/
def State.liftRead (s : State) (c : CellId) (x : Serial) : State :=
  let s1 := s.setCell c (s.cell c).emptied
  (s1.commit (.lift (s1.cellAt c) x .read)).promote x

/-! ### Entering ARRIVING, SHIFTING, LIFTING -/

/-- ARRIVING with a candidate made from the read; it completes at once when arrive_n is 1 (R43, R44, R48). -/
def State.enterArriving (s : State) (c : CellId) (t : TileRead) : State :=
  let cand : Candidate := { tile := t, arrive := 1 }
  let s1 := s.setCell c
    { s.cell c with state := .arriving, incumbent := none, candidate := some cand, lift := 0, absent := 0 }
  if s.sensing.arriveN ≤ 1 then s1.completeArrival c cand else s1.requestConfirm c

/-- SHIFTING with a candidate made from the read; it commits at once when arrive_n is 1 (R45 to R47). -/
def State.enterShifting (s : State) (c : CellId) (inc : Incumbent) (t : TileRead) (amplitude : Nat) : State :=
  let cand : Candidate := { tile := t, arrive := 1 }
  let s1 := s.setCell c { s.cell c with state := .shifting, candidate := some cand, lift := 0 }
  if s.sensing.arriveN ≤ 1 then s1.completeShift c inc cand amplitude else s1.requestConfirm c

/-- LIFTING with lift count 1; it commits at once when lift_n is 1 (R45, R46). -/
def State.enterLifting (s : State) (c : CellId) (x : Serial) : State :=
  let s1 := s.setCell c { s.cell c with state := .lifting, candidate := none, lift := 1 }
  if s.sensing.liftN ≤ 1 then s1.liftRead c x else s1.requestConfirm c

/-! ### Faults (R41, R49 to R51, R61) -/

/-- A cause posted: it fills an empty first-fault record, or adds 1 to its later faults, held at 255 (R61). -/
def State.postFault (s : State) (cause : FaultCause) (place : FaultPlace) (o : OutcomeKind) (score : Nat) : State :=
  match s.firstFault with
  | none =>
    { s with
      firstFault :=
        some { cause := cause, place := place, outcome := o, score := score, clock := s.play.clock, later := 0 } }
  | some f => { s with firstFault := some { f with later := min 255 (f.later + 1) } }

/-- Every cell of a lane is RETIRED. -/
def State.allRetired (s : State) (n : Lane) : Bool :=
  (laneCells n).all fun c => decide ((s.cell c).state = .retired)

/-- A slot of a lane may be read by the scan: its cell is not RETIRED. -/
def State.readable (s : State) (n : Lane) (i : Slot) : Bool := decide ((s.cell ⟨n, i⟩).state ≠ .retired)

/-- The first readable slot at or after number `i`, without wrapping: a sweep goes from 0 to 11 once (R31). -/
def State.sweepFrom (s : State) (n : Lane) (i : Nat) : Option Slot :=
  (List.finRange 12).find? fun j => decide (i ≤ j.val) && s.readable n j

/-- The scan of a lane whose cells are all RETIRED requests nothing (R30), and a sweep with no cell left to read is over (R31). (DEDUCED, assumption 22) -/
def State.stopDeadScan (s : State) (n : Lane) : State :=
  let u := s.lane n
  if s.allRetired n then s.setLane n { u with waiting := false, pace := none, sweep := none }
  else if u.mode = .sweep ∧ u.waiting ∧ (u.sweep.bind fun i => s.sweepFrom n i.val) = none then
    s.setLane n { u with waiting := false, sweep := none }
  else s

/-- The retirement steps of R51 on a cell that is not RETIRED. -/
def State.retire (s : State) (c : CellId) (auto : Bool) : State :=
  let r := s.cell c
  -- 1
  let s := s.notify (.retired (s.cellAt c) auto r.entries)
  -- 2
  let s :=
    match r.incumbent with
    | some t => (s.setCell c { s.cell c with incumbent := none }).commit (.lift (s.cellAt c) t.tile.serial .retired)
    | none => s
  -- 3
  let s :=
    match r.state, r.candidate with
    | .twin, some t => s.commit (.twinEnd (s.cellAt c) t.tile.serial .retired)
    | _, _ => s
  -- 4 and 5
  let s := s.lampEvent fun s => s.setCell c { (s.cell c).emptied with state := .retired }
  -- 6
  let s := (s.stopDeadScan c.lane).wantPass
  -- 7
  match r.incumbent with
  | some t => s.promote t.tile.serial
  | none => s

/-- SUSPECT entry, or retirement at what would be the third (R49). The score has been raised already. (DEDUCED, assumption 16) -/
def State.enterSuspect (s : State) (c : CellId) (o : OutcomeKind) : State :=
  let r := s.cell c
  if 2 ≤ r.entries then
    ((s.setCell c { r with entries := 3 }).postFault .autoRetire (.cell c) o r.score).retire c true
  else
    let s1 := s.setCell c
      { r with
        state := .suspect, candidate := none, absent := 0, entries := r.entries + 1
        lift := if r.state = .lifting then r.lift else 0 }
    let s2 :=
      match r.state, r.candidate with
      | .twin, some t => s1.commit (.twinEnd (s1.cellAt c) t.tile.serial .suspect)
      | _, _ => s1
    (s2.notify (.suspect (s2.cellAt c) r.score (r.entries + 1))).postFault .suspect (.cell c) o r.score

/-- A FAULTY outcome in a state that scores faults: nothing as CONFIRM; as SENSE the score rises by 2, saturating at 15, and at 12 or more the cell enters SUSPECT (R41). -/
def State.scoreFault (s : State) (c : CellId) (k : SlotKind) (o : OutcomeKind) : State :=
  match k with
  | .confirm => s
  | .sense =>
    let score := min 15 ((s.cell c).score + 2)
    let s1 := s.setCell c { s.cell c with score := score }
    if 12 ≤ score then s1.enterSuspect c o else s1

/-- A GOOD outcome matching the incumbent: the cell is SEATED, and as SENSE the score falls by 1 (R41, R45 to R47). -/
def State.matchIncumbent (s : State) (c : CellId) (k : SlotKind) : State :=
  let r := s.cell c
  s.setCell c
    { r with
      state := .seated, candidate := none, lift := 0
      score := if k = .sense then r.score - 1 else r.score }

/-- A SUSPECT cell leaves SUSPECT, with its RECOVERED notice (R50). -/
def State.recover (s : State) (c : CellId) : State :=
  let r := s.cell c
  match r.incumbent with
  | some _ =>
    let s1 := s.setCell c { r with state := .seated }
    s1.notify (.recovered (s1.cellAt c) r.score true)
  | none =>
    let s1 := s.setCell c r.emptied
    s1.notify (.recovered (s1.cellAt c) r.score false)

/-! ### Outcomes (R38 to R50) -/

/-- The outcome of one read, as the tracker classifies it: GOOD with the tile read, ABSENT, or a FAULTY kind. -/
inductive Outcome where
  | good (t : TileRead)
  | absent
  | faulty (o : OutcomeKind)
  deriving DecidableEq, Repr

/-- The kind of an outcome. -/
def Outcome.kind : Outcome → OutcomeKind
  | .good _ => .good
  | .absent => .absent
  | .faulty o => o

/-- The threshold T of a cell (R38). -/
def State.threshold (s : State) (c : CellId) : Nat :=
  max (Table.read s.sensing.floors c.lane) ((s.cell c).peak / 2)

/-- The classification of a raw result against a threshold (R38). -/
def classify (r : RawResult) (threshold : Nat) : Outcome :=
  match r.kind with
  | .decoded t =>
    if threshold ≤ r.amplitude then
      .good { serial := t.serial, kind := t.kind, side := t.side, edition := t.edition, pad := r.pad.getD 0 }
    else .faulty .weak
  | .absent => .absent
  | .garbled => .faulty .garbled
  | .parity _ => .faulty .parity
  | .stalled => .faulty .stalled

/-- The serial of a result that was decoded (R63). -/
def RawResult.serial (r : RawResult) : Option Serial :=
  match r.kind with
  | .decoded t => some t.serial
  | _ => none

/-- The peak after a GOOD outcome of amplitude `a` (R39). (DEDUCED, assumption 19) -/
def nextPeak (p a : Nat) : Nat := if p ≤ a then a else p - (p - a + 7) / 8

/-- R43. -/
def State.stepVacant (s : State) (c : CellId) (o : Outcome) : State :=
  match o with
  | .good t => s.enterArriving c t
  | .absent => s
  | .faulty _ => s

/-- R44. -/
def State.stepArriving (s : State) (c : CellId) (cand : Candidate) (k : SlotKind) (o : Outcome) : State :=
  match o with
  | .good t =>
    if t = cand.tile then
      let cand' : Candidate := { cand with arrive := cand.arrive + 1 }
      let s1 := s.setCell c { s.cell c with candidate := some cand', absent := 0 }
      if s.sensing.arriveN ≤ cand'.arrive then s1.completeArrival c cand' else s1.requestConfirm c
    else s.enterArriving c t
  | .absent =>
    if 2 ≤ (s.cell c).absent + 1 then s.setCell c (s.cell c).emptied
    else (s.setCell c { s.cell c with absent := (s.cell c).absent + 1 }).requestConfirm c
  | .faulty f => s.scoreFault c k f

/-- R45. -/
def State.stepSeated (s : State) (c : CellId) (inc : Incumbent) (k : SlotKind) (o : Outcome) (amplitude : Nat) :
    State :=
  match o with
  | .good t => if t = inc.tile then s.matchIncumbent c k else s.enterShifting c inc t amplitude
  | .absent => s.enterLifting c inc.tile.serial
  | .faulty f => s.scoreFault c k f

/-- R46. -/
def State.stepShifting (s : State) (c : CellId) (inc : Incumbent) (cand : Candidate) (k : SlotKind) (o : Outcome)
    (amplitude : Nat) : State :=
  match o with
  | .good t =>
    if t = cand.tile then
      let cand' : Candidate := { cand with arrive := cand.arrive + 1 }
      let s1 := s.setCell c { s.cell c with candidate := some cand' }
      if s.sensing.arriveN ≤ cand'.arrive then s1.completeShift c inc cand' amplitude else s1.requestConfirm c
    else if t = inc.tile then s.matchIncumbent c k
    else s.enterShifting c inc t amplitude
  | .absent => s.enterLifting c inc.tile.serial
  | .faulty f => s.scoreFault c k f

/-- R47. -/
def State.stepLifting (s : State) (c : CellId) (inc : Incumbent) (k : SlotKind) (o : Outcome) (amplitude : Nat) :
    State :=
  match o with
  | .good t => if t = inc.tile then s.matchIncumbent c k else s.enterShifting c inc t amplitude
  | .absent =>
    let lift := (s.cell c).lift + 1
    if s.sensing.liftN ≤ lift then s.liftRead c inc.tile.serial
    else (s.setCell c { s.cell c with lift := lift }).requestConfirm c
  | .faulty f => s.scoreFault c k f

/-- R48. -/
def State.stepTwin (s : State) (c : CellId) (cand : Candidate) (k : SlotKind) (o : Outcome) : State :=
  match o with
  | .good t =>
    if t = cand.tile then s.setCell c { s.cell c with lift := 0 }
    else (s.commit (.twinEnd (s.cellAt c) cand.tile.serial .read)).enterArriving c t
  | .absent =>
    let lift := (s.cell c).lift + 1
    if s.sensing.liftN ≤ lift then
      let s1 := s.setCell c (s.cell c).emptied
      s1.commit (.twinEnd (s1.cellAt c) cand.tile.serial .read)
    else s.setCell c { s.cell c with lift := lift }
  | .faulty f => s.scoreFault c k f

/-- R50. -/
def State.stepSuspect (s : State) (c : CellId) (k : SlotKind) (o : Outcome) : State :=
  match o with
  | .good _ =>
    match k with
    | .confirm => s
    | .sense =>
      let s1 := s.setCell c { s.cell c with score := (s.cell c).score - 1, lift := 0 }
      if (s.cell c).score - 1 ≤ 4 then s1.recover c else s1
  | .faulty _ =>
    match k with
    | .confirm => s
    | .sense => s.setCell c { s.cell c with score := min 15 ((s.cell c).score + 2) }
  | .absent =>
    match (s.cell c).incumbent with
    | none => s
    | some inc =>
      let lift := (s.cell c).lift + 1
      if s.sensing.liftN ≤ lift then
        let s1 := s.setCell c { s.cell c with incumbent := none, lift := 0 }
        (s1.commit (.lift (s1.cellAt c) inc.tile.serial .read)).promote inc.tile.serial
      else s.setCell c { s.cell c with lift := lift }

/-- The cell's state machine stepped by an outcome that passed the guard gate (R38 step 4). -/
def State.stepCell (s : State) (c : CellId) (k : SlotKind) (o : Outcome) (amplitude : Nat) : State :=
  match (s.cell c).state, (s.cell c).incumbent, (s.cell c).candidate with
  | .vacant, _, _ => s.stepVacant c o
  | .arriving, _, some cand => s.stepArriving c cand k o
  | .seated, some inc, _ => s.stepSeated c inc k o amplitude
  | .shifting, some inc, some cand => s.stepShifting c inc cand k o amplitude
  | .lifting, some inc, _ => s.stepLifting c inc k o amplitude
  | .twin, _, some cand => s.stepTwin c cand k o
  | .suspect, _, _ => s.stepSuspect c k o
  | _, _, _ => s

/-- The guard gate discards outcomes while the guard is HOLDING or SETTLING (R40). -/
def State.gateShut (s : State) : Bool := decide (s.lamps.guard = .holding ∨ s.lamps.guard = .settling)

/-- The most entries the watch trace holds (R63). -/
def traceRoom : Nat := 16

/-- An entry appended to the trace; a full trace loses its oldest entry and overruns (R63). -/
def Watch.append (w : Watch) (e : TraceEntry) : Watch :=
  if w.trace.length < traceRoom then { w with trace := w.trace ++ [e] }
  else { w with trace := w.trace.tail ++ [e], overrun := true }

/-- An outcome of the watched cell traced (R38 step 1, R63). -/
def State.traceOutcome (s : State) (c : CellId) (k : SlotKind) (r : RawResult) : State :=
  if s.watch.cell = some c then
    { s with
      watch :=
        s.watch.append
          { slotKind := k, outcome := (classify r (s.threshold c)).kind, amplitude := r.amplitude
            threshold := s.threshold c, guarded := s.gateShut, serial := r.serial, clock := s.play.clock } }
  else s

/-- The peak update of a GOOD outcome; HELD and RETIRED cells do not change (R38 step 3, R39, R48; DEDUCED, assumption 19). It moves in SUSPECT too, as SENSE and as CONFIRM, where R50 says that nothing changes (DESIGN CHOICE, assumption 32). -/
def State.updatePeak (s : State) (c : CellId) (o : Outcome) (amplitude : Nat) : State :=
  match o, (s.cell c).state with
  | .good _, .held => s
  | .good _, .retired => s
  | .good _, _ => s.setCell c { s.cell c with peak := nextPeak (s.cell c).peak amplitude }
  | _, _ => s

/-- A raw result taken by the tracker, up to its CONFIRM requests (R38 steps 1 to 5). -/
def State.takeOutcome (s : State) (c : CellId) (k : SlotKind) (r : RawResult) : State :=
  let o := classify r (s.threshold c)
  let s1 := s.traceOutcome c k r
  if s.gateShut then s1 else (s1.updatePeak c o r.amplitude).stepCell c k o r.amplitude

/-- What a step of a cell must change to be a wake cause: its state, a count or its fault score (R38 step 6). -/
def CellRec.wakeMark (r : CellRec) : CellState × Option Nat × Nat × Nat × Nat × Nat :=
  (r.state, r.candidate.map (·.arrive), r.lift, r.absent, r.score, r.entries)

/-- An outcome taken on `c` is a wake cause: it changed the cell's marks, or committed a board change, which passes through such a change (R38 step 6; DEDUCED, assumption 15). -/
def wakes (before after : State) (c : CellId) : Bool :=
  decide ((before.cell c).wakeMark ≠ (after.cell c).wakeMark) || decide (before.epoch ≠ after.epoch)

/-! ### Lane events (R54 to R56) -/

/-- A cell at a LOSS or PARK event (R54). -/
def CellRec.lose (r : CellRec) : CellRec :=
  match r.state, r.incumbent with
  | .seated, _ | .shifting, _ | .lifting, _ | .suspect, some _ =>
    { r with state := .held, candidate := none, lift := 0, absent := 0 }
  | .arriving, _ | .twin, _ => r.emptied
  | _, _ => r

/-- A LOSS or PARK event for a lane (R54). -/
def State.loseCells (s : State) (n : Lane) : State := s.mapCells fun c r => if c.lane = n then r.lose else r

/-- How many cells of a lane are HELD. -/
def State.heldCount (s : State) (n : Lane) : Nat := (laneCells n).countP fun c => decide ((s.cell c).state = .held)

/-- How many cells a LOSS or PARK event turns into HELD (R54). -/
def State.becomeHeldCount (s : State) (n : Lane) : Nat :=
  (laneCells n).countP fun c => decide ((s.cell c).state ≠ .held) && decide ((s.cell c).lose.state = .held)

/-- A RESUME event for a lane (R55). -/
def State.resumeCells (s : State) (n : Lane) : State :=
  s.mapCells fun c r => if c.lane = n ∧ r.state = .held then { r with state := .seated } else r

/-- The serials of a lane's HELD tiles in board order (R53). -/
def State.heldSerials (s : State) (n : Lane) : List Serial :=
  (laneCells n).filterMap fun c =>
    match (s.cell c).state, (s.cell c).incumbent with
    | .held, some t => some t.tile.serial
    | _, _ => none

/-- A CLEAR event for a lane: its HELD cells VACANT, one lane clear committed, then promotions (R56). -/
def State.clearCells (s : State) (n : Lane) : State :=
  let serials := s.heldSerials n
  let s1 := s.mapCells fun c r => if c.lane = n ∧ r.state = .held then r.emptied else r
  serials.foldl State.promote (s1.commit (.laneLost n serials.length))

/-! ### Recomputation (R58, R70) -/

/-- An incumbent with its verdict and owner computed afresh. -/
def Roster.rejudge (r : Roster) (t : Incumbent) : Incumbent :=
  { t with
    counting := (r.verdict t.tile.serial t.tile.edition).1
    owner := (r.verdict t.tile.serial t.tile.edition).2 }

/-- How many of the named incumbents a recomputation changes: those of serial `x`, or all for `none`. -/
def State.rejudgeCount (s : State) (x : Option Serial) : Nat :=
  allCells.countP fun c =>
    match (s.cell c).incumbent with
    | some t => (x.isNone || decide (x = some t.tile.serial)) && decide (s.roster.rejudge t ≠ t)
    | none => false

/-- A recomputation of the named incumbents; a change wants a pass (R70). -/
def State.rejudge (s : State) (x : Option Serial) : State :=
  let s1 := s.mapCells fun _ r =>
    { r with
      incumbent := r.incumbent.map fun t =>
        if x.isNone || decide (x = some t.tile.serial) then s.roster.rejudge t else t }
  if s.rejudgeCount x = 0 then s1 else s1.wantPass

end Sys2Proof.Machine
end

