-- ==== Sys2Proof/Machine/Quests.lean ====
section
/-!
DEFINITION. The Quest Engine: stage tests, passes, advances, tick duties (R106 to R128).
-/

namespace Sys2Proof.Machine

open Sys2Proof

/-! ### Stages -/

/-- The owner filter of a stage on a quest with the given owner (R107). -/
def StageFilter.toOwner (f : StageFilter) (o : Player) : OwnerFilter :=
  match f with
  | .any => .any
  | .questOwner => .owner o
  | .placedByOwner => .placed o

/-- The pattern a FORM or HOLD stage names. -/
def StageTest.pattern? (t : StageTest) : Option (Fin 32) :=
  match t with
  | .form p _ => some p
  | .hold p _ _ => some p
  | .collect _ _ => none
  | .clear _ _ => none

/-- A stage's test on a view: met, or for HOLD formed (R108). -/
def Stage.holds (st : Stage) (owner : Player) (v : View) (patterns : Table 32 (Option Pattern)) : Bool :=
  let f := st.filter.toOwner owner
  match st.test with
  | .form p m => decide (m ≤ matchCount (Table.read patterns p) v f)
  | .hold p m _ => decide (m ≤ matchCount (Table.read patterns p) v f)
  | .collect t m => decide (m ≤ collectedCount v t f)
  | .clear t m => decide (collectedCount v t f ≤ m)

/-- The current stage of a quest. -/
def Quest.current (r : Quest) : Option Stage := r.stages[r.progress.stage]?

/-- A quest has a FORM or HOLD stage that names pattern `p`, in any stage. -/
def Quest.names (r : Quest) (p : Fin 32) : Bool := r.stages.any fun st => decide (st.test.pattern? = some p)

/-- A quest is in play: RUNNING or PAUSED. -/
def Quest.inPlay (r : Quest) : Bool := decide (r.state = .running ∨ r.state = .paused)

/-- The lowest-numbered quest that holds pattern `p` in use (R78). -/
def State.usedBy (s : State) (p : Fin 32) : Option QuestId :=
  (List.finRange 24).find? fun q => (s.quest q).inPlay && (s.quest q).names p

/-- The lowest pattern a quest names that is not DEFINED (R112, R116). -/
def State.missingPattern (s : State) (r : Quest) : Option (Fin 32) :=
  (List.finRange 32).find? fun p => r.names p && (Table.read s.patterns p).isNone

/-- A deadline for a time limit from a clock, held at the clock's end; none for no limit (R112). -/
def deadlineFrom (clock limit : Nat) : Option Nat := if limit = 0 then none else some (min clockMax (clock + limit))

/-- A stage's time limit, 0 for a stage that does not exist. -/
def Quest.limitOf (r : Quest) (stage : Nat) : Nat := ((r.stages[stage]?).map (·.limit)).getD 0

/-- The hint region of a stage, if it has one. -/
def Quest.hintOf (r : Quest) (stage : Nat) : Option Region := (r.stages[stage]?).bind (·.hint)

/-! ### The pass (R119, R120) -/

/-- A quest leaves the evaluated set of the pass in flight (R120). -/
def State.leaveSet (s : State) (q : QuestId) : State :=
  { s with
    quests :=
      { s.quests with
        pass := s.quests.pass.map fun p => { p with evaluated := p.evaluated.filter fun e => decide (e.1 ≠ q) } } }

/-- Every RUNNING quest with its stage index, in quest order (R119). -/
def State.runningSet (s : State) : List (QuestId × Nat) :=
  (List.finRange 24).filterMap fun q =>
    if (s.quest q).state = .running then some (q, (s.quest q).progress.stage) else none

/-- The patterns named by the current stages of an evaluated set (R91, R119). -/
def State.copiedPatterns (s : State) (evaluated : List (QuestId × Nat)) : Table 32 (Option Pattern) :=
  Table.each s.patterns fun p d =>
    if evaluated.any fun e => decide (((s.quest e.1).current.bind fun st => st.test.pattern?) = some p) then d else none

/-- A pass starts when one is wanted and none is in flight: the flag is cleared and the snapshot taken (R119). -/
def State.startPass (s : State) : State :=
  if s.quests.passWanted ∧ s.quests.pass = none then
    { s with
      quests :=
        { s.quests with
          passWanted := false
          pass :=
            some
              { epoch := s.epoch, view := s.view, evaluated := s.runningSet
                patterns := s.copiedPatterns s.runningSet } } }
  else s

/-! ### Advancing (R122, R123) -/

/-- The time bonus of a stage met with the given deadline (R123). (DESIGN CHOICE, assumption 29) -/
def timeBonus (reward limit : Nat) (deadline : Option Nat) (clock : Nat) : Nat :=
  if limit = 0 then 0 else reward * min limit (deadline.getD 0 - clock) / (2 * limit)

/-- The progress of a quest whose stage `stage` has become current, or which is done, at a clock (R122 step 6). -/
def Quest.advanced (r : Quest) (points clock : Nat) : Quest :=
  let stage := r.progress.stage + 1
  let earned := min 1500 (r.progress.earned + points)
  if stage = r.stages.length then
    { r with
      state := .done
      progress :=
        { r.progress with stage := stage, earned := earned, deadline := none, remaining := none, holdSince := none } }
  else
    { r with
      progress :=
        { r.progress with
          stage := stage, earned := earned, started := some clock
          deadline := deadlineFrom clock (r.limitOf stage), holdSince := none } }

/-- A quest advances from its current stage `st`, by a commit or by a tick, with the reference epoch of its notice (R122). -/
def State.advance (s : State) (q : QuestId) (st : Stage) (byTick : Bool) (epoch : BitVec 16) : State :=
  let r := s.quest q
  let clock := s.play.clock
  -- 1
  let points := st.reward + timeBonus st.reward st.limit r.progress.deadline clock
  let stage := r.progress.stage
  let last := decide (stage + 1 = r.stages.length)
  -- 2
  let s := s.credit r.owner points
  -- 3
  let s := s.notify
    (if last then .questDone q stage points r.owner byTick epoch else .stageDone q stage points r.owner byTick epoch)
  -- 4
  let s := match st.cue with | some c => s.offerCue c | none => s
  -- 5
  let s := match st.hint with | some g => s.postFlash q g | none => s
  -- 6
  let s := (s.setQuest q (r.advanced points clock)).leaveSet q
  let s := s.setHint q (if last then none else r.hintOf (stage + 1))
  -- 7, and R128
  s.wantPass.reportActivity

/-- A quest becomes FAILED (R115, R124): its notice, its hint withdrawn, out of the evaluated set, activity (R128). -/
def State.failQuest (s : State) (q : QuestId) (why : FailReason) : State :=
  let r := s.quest q
  let s := s.setQuest q
    { r with
      state := .failed
      progress := { r.progress with deadline := none, remaining := none, holdSince := none, failReason := some why } }
  let s := s.notify (.questFailed q r.progress.stage why r.progress.earned)
  ((s.setHint q none).leaveSet q).reportActivity

/-! ### The commit (R121) -/

/-- `hold_since` of a quest written. -/
def State.setHoldSince (s : State) (q : QuestId) (v : Option Nat) : State :=
  s.setQuest q { s.quest q with progress := { (s.quest q).progress with holdSince := v } }

/-- The result of one quest of a committing pass applied (R121). -/
def State.applyResult (p : Pass) (s : State) (e : QuestId × Nat) : State :=
  let r := s.quest e.1
  match r.current with
  | none => s
  | some st =>
    let met := st.holds r.owner p.view p.patterns
    match st.test, r.progress.holdSince with
    | .hold _ _ _, none => if met then s.setHoldSince e.1 (some s.play.clock) else s
    | .hold _ _ _, some since =>
      if met then s
      else
        (s.setHoldSince e.1 none).notify
          (.holdBroken e.1 r.progress.stage (min 65535 (s.play.clock - since)) p.epoch)
    | _, _ => if met then s.advance e.1 st false p.epoch else s

/-- The commit of the pass in flight, in quest order (R121). -/
def State.commitPass (s : State) : State :=
  match s.quests.pass with
  | none => s
  | some p => p.evaluated.foldl (State.applyResult p) { s with quests := { s.quests with pass := none } }

/-! ### Tick duties (R124) -/

/-- The current stage of a RUNNING quest whose hold has lasted its d ticks at the clock (R124 test 1). -/
def State.holdDue (s : State) (q : QuestId) : Option Stage :=
  let r := s.quest q
  match r.state, r.current, r.progress.holdSince with
  | .running, some st, some since =>
    match st.test with
    | .hold _ _ d => if since ≤ s.play.clock ∧ d ≤ s.play.clock - since then some st else none
    | _ => none
  | _, _, _ => none

/-- A RUNNING quest whose deadline the clock has reached (R124 test 2). -/
def State.deadlineDue (s : State) (q : QuestId) : Bool :=
  let r := s.quest q
  match r.state, r.progress.deadline with
  | .running, some d => decide (d ≤ s.play.clock)
  | _, _ => false

/-- The two tests of a running tick for one quest, in order (R124). -/
def State.dutiesOf (s : State) (q : QuestId) : State :=
  match s.holdDue q with
  | some st => s.advance q st true s.epoch
  | none => if s.deadlineDue q then s.failQuest q .time else s

/-- The tick duties of all quests in quest order (R124). -/
def State.tickDuties (s : State) : State := (List.finRange 24).foldl State.dutiesOf s

/-- A tick at the game clock (R103): a running clock rises, held at its end, and hands a running tick on. -/
def State.tickClock (s : State) : State :=
  if s.play.clockRunning then
    State.tickDuties { s with play := { s.play with clock := min clockMax (s.play.clock + 1) } }
  else s

end Sys2Proof.Machine
end

