-- ==== Sys2Proof/Machine/Lanes.lean ====
section
/-!
DEFINITION. The lane units: the slot arbiter and the scan (R27 to R32), the end of an event, and the lane transitions (R16 to R21); with them the Rest Controller's moves between READY and RESTING, which switch the scan mode (R169, R170).
-/

namespace Sys2Proof.Machine

open Sys2Proof

/-! ### The scan (R30, R31) -/

/-- The first readable slot at or after `i`, wrapping (R30). -/
def State.scanFrom (s : State) (n : Lane) (i : Slot) : Option Slot :=
  ((List.finRange 12).map fun k => i + k).find? fun j => s.readable n j

/-- The slot the scan asks for, if it is waiting and there is one to read. -/
def State.scanTarget (s : State) (n : Lane) : Option Slot :=
  let u := s.lane n
  if u.waiting then
    match u.mode with
    | .normal => s.scanFrom n u.pointer
    | .sweep => u.sweep.bind fun i => s.sweepFrom n i.val
  else none

/-- The scan begins waiting, unless every cell of the lane is RETIRED; the fairness count is that of the new request (R29, R30; DEDUCED, assumption 10). -/
def State.beginWaiting (s : State) (n : Lane) : State :=
  if s.allRetired n then s
  else s.setLane n { s.lane n with waiting := true, fairness := 0 }

/-- A lane's scan after its SENSE grant for slot `i` (R29 to R31). The grant settles which slot a sweep asks for next: a cell below it that is reinstated afterward waits for the next sweep (DESIGN CHOICE, assumption 30). -/
def State.afterSense (s : State) (n : Lane) (i : Slot) : LaneUnit :=
  let u := s.lane n
  match u.mode with
  | .normal =>
    { u with slot := some (.sense i), pointer := i + 1, waiting := false, pace := some 800, fairness := 0 }
  | .sweep =>
    let next := s.sweepFrom n (i.val + 1)
    { u with slot := some (.sense i), sweep := next, waiting := next.isSome, fairness := 0 }

/-! ### The slot arbiter (R27 to R29) -/

/-- A cell whose CONFIRM request still stands at its grant (R28). -/
def State.confirmable (s : State) (n : Lane) (i : Slot) : Bool :=
  match (s.cell ⟨n, i⟩).state with
  | .arriving => true
  | .shifting => true
  | .lifting => true
  | _ => false

/-- The fairness limit bars CONFIRM: the count is 2 and the scan is waiting (R29). -/
def LaneUnit.barred (u : LaneUnit) : Bool := decide (2 ≤ u.fairness) && u.waiting

/-- The grant below CONFIRM: LAMP then SCAN, or SCAN first while CONFIRM is barred (R27). -/
def State.grantLower (s : State) (n : Lane) : State :=
  let u := s.lane n
  match s.scanTarget n with
  | some i =>
    if u.stale && !u.barred then
      s.setLane n { u with slot := some (.lamp (s.laneDrive n)), stale := false }
    else s.setLane n (s.afterSense n i)
  | none => if u.stale then s.setLane n { u with slot := some (.lamp (s.laneDrive n)), stale := false } else s

/-- The grant of a CONFIRM to the first listed cell that still wants one, those before it dropped without a slot; below it if there is none (R27, R28). -/
def State.grantConfirm (s : State) (n : Lane) : State :=
  let u := s.lane n
  match u.confirms.dropWhile fun i => !s.confirmable n i with
  | i :: rest =>
    s.setLane n
      { u with
        confirms := rest, slot := some (.confirm i)
        fairness := if u.waiting then u.fairness + 1 else 0 }
  | [] => (s.setLane n { u with confirms := [] }).grantLower n

/-- A lane that may be granted a slot: RUNNING, no slot in flight, no park waiting (R20, R27). -/
def LaneUnit.grantable (u : LaneUnit) : Bool := decide (u.state = .running) && u.slot.isNone && !u.parkWaiting

/-- The arbiter's grant to a lane (R27). -/
def State.grant (s : State) (n : Lane) : State :=
  let u := s.lane n
  if u.grantable then
    if u.checkPending then s.setLane n { u with slot := some .check }
    else if u.barred then s.grantLower n
    else s.grantConfirm n
  else s

/-- Every lane's arbiter looks for a grant (R27: at the end of each slot, and when a request is made to an idle lane). -/
def State.grantAll (s : State) : State := (List.finRange 8).foldl State.grant s

/-- The end of an event: the arbiters grant, and a wanted pass starts once the event has been taken whole (R119; DESIGN CHOICE, assumption 9). -/
def State.finish (s : State) : State := s.grantAll.startPass

/-! ### Rest and wake (R169, R170) -/

/-- A lane's scan switched to SWEEP (R31). -/
def LaneUnit.toSweep (u : LaneUnit) : LaneUnit :=
  { u with
    mode := .sweep, waiting := false, pace := none, sweep := none
    sweepTimer := if u.state = .running then some 250 else none }

/-- A lane's scan switched to NORMAL (R31): it goes on from where an abandoned sweep stood. -/
def State.toNormal (s : State) (n : Lane) (u : LaneUnit) : LaneUnit :=
  let pointer := if u.waiting then u.sweep.getD 0 else 0
  if u.state = .running ∧ s.allRetired n = false then
    { u with
      mode := .normal, sweepTimer := none, sweep := none, pointer := pointer, waiting := true, pace := none
      fairness := 0 }
  else { u with mode := .normal, sweepTimer := none, sweep := none, pointer := pointer, waiting := false, pace := none }

/-- The part state becomes RESTING and every lamp goes dark, one load change (R169 steps 1 and 2). -/
def State.goDark (s : State) : State :=
  s.lampEvent fun s => { s with rest := { s.rest with part := .resting, activity := .stopped } }

/-- Every lane's scan switched to SWEEP (R169 step 3). -/
def State.allSweep (s : State) : State := s.mapLanes fun _ u => u.toSweep

/-- A rest entered now pauses the clock (R169 step 4). -/
def State.restPauses (s : State) : Bool := s.rest.autoPause && s.play.clockRunning

/-- The clock paused by a rest, if it is to be (R169 step 4). -/
def State.pauseForRest (s : State) : State :=
  if s.restPauses then State.setClockRunning { s with rest := { s.rest with autoPaused := true } } false true else s

/-- The part enters RESTING (R169 steps 1 to 5). -/
def State.enterRest (s : State) : State :=
  let s1 := s.goDark.allSweep
  s1.pauseForRest.notify (.rest s1.rest.delay s1.rest.autoPause s1.restPauses)

/-- The part rests when its activity timer has expired in READY and the sounder is idle (R169). -/
def State.restIfDue (s : State) : State :=
  if s.rest.part = .ready ∧ s.rest.activity = .expired ∧ s.lamps.sounder = none then s.enterRest else s

/-- Every lane's scan switched to NORMAL (R170 step 2). -/
def State.allNormal (s : State) : State := s.mapLanes fun n u => s.toNormal n u

/-- The part state becomes READY with its activity timer full, and every lamp returns to its settings, one load change (R170 steps 1 and 3). -/
def State.lightUp (s : State) : State :=
  s.lampEvent fun s => { s with rest := { s.rest with part := .ready, activity := fullActivity s.rest.delay } }

/-- A clock that a rest has paused runs again (R170 step 4). -/
def State.rerunClock (s : State) : State :=
  if s.rest.autoPaused then State.setClockRunning { s with rest := { s.rest with autoPaused := false } } true true
  else s

/-- A RESTING part wakes (R170 steps 1 to 5). -/
def State.wake (s : State) (cause : WakeCause) : State :=
  if s.rest.part = .resting then
    s.allNormal.lightUp.rerunClock.notify (.wake cause s.rest.autoPaused)
  else s

/-- A frame received, reported at its start byte (R159): activity in READY, the wake cause FRAME in RESTING. The activity restarts an expired timer too, so a part that waits to rest no longer does (R169; DESIGN CHOICE, assumption 36). -/
def State.frameReceived (s : State) : State :=
  if s.rest.part = .resting then (s.wake .frame).finish else s.reportActivity

/-! ### Lane transitions (R16 to R21) -/

/-- A lane that has left RUNNING: unpowered, nothing requested, no slot in flight (R18, R20). -/
def LaneUnit.stopped (u : LaneUnit) (state : LaneState) : LaneUnit :=
  { u with
    state := state, slot := none, confirms := [], fairness := 0, waiting := false, pace := none, sweepTimer := none
    sweep := none, latch := Table.full 12 .off }

/-- A lane that has entered RUNNING (R17, R31). -/
def State.startedLane (s : State) (n : Lane) : LaneUnit :=
  let u := s.lane n
  { u with
    state := .running, returnState := none, settle := none, hold := none, stale := true, pointer := 0, fairness := 0
    waiting := decide (u.mode = .normal) && !s.allRetired n
    pace := none, sweep := none
    sweepTimer := if u.mode = .sweep then some 250 else none }

/-- The hold timer of a lane runs out: its tiles are cleared, and the lane is ABSENT or goes on LINKING from ABSENT (R19). (DEDUCED, assumption 18) -/
def State.expireHold (s : State) (n : Lane) : State :=
  let u := s.lane n
  let s1 := (s.setLane n { u with hold := none }).clearCells n
  let u1 := s1.lane n
  match u1.state with
  | .lost => s1.setLane n { u1 with state := .absent }
  | .linking => s1.setLane n { u1 with returnState := some .absent }
  | _ => s1

/-- A fresh hold timer starts at the full hold time in a LOST lane; at 0.0 s it runs out as it starts (R18, R19). -/
def State.startHold (s : State) (n : Lane) : State :=
  if s.sensing.hold = 0 then s.expireHold n
  else s.setLane n { s.lane n with hold := some s.sensing.hold }

/-- Section 12.2 and R163: the reply kind of a request kind. -/
def replyKind (k : Byte) : Byte := k + 0x80

/-- Section 12.3: outcome and result kind codes. -/
def OutcomeKind.code : OutcomeKind → Byte
  | .good => 0
  | .weak => 1
  | .absent => 2
  | .garbled => 3
  | .parity => 4
  | .stalled => 5

/-- The outcome kind of a result kind, for the first-fault record and the check's reply. -/
def ResultKind.outcome : ResultKind → OutcomeKind
  | .decoded _ => .good
  | .absent => .absent
  | .garbled => .garbled
  | .parity _ => .parity
  | .stalled => .stalled

/-- An optional one-byte field: a presence byte, then the field or 0 (R173). -/
def optByte (v : Option Byte) : List Byte :=
  match v with
  | some b => [1, b]
  | none => [0, 0]

/-- The data of a LANE_CHECK reply: verdict, result kind, amplitude, pad if any, failing symbol if any (R34, R173). R173 gives the symbol's number no width: it takes one byte (DESIGN CHOICE, assumption 35). -/
def checkData (verdict : Bool) (r : RawResult) : List Byte :=
  [Config.checkVerdictCode verdict, r.kind.outcome.code, BitVec.ofNat 8 r.amplitude] ++
    optByte (r.pad.map fun p => BitVec.ofNat 8 p.val) ++
    optByte (match r.kind with | .parity k => some (BitVec.ofNat 8 k.val) | _ => none)

/-- A lane check ends with a verdict: its reply, and a FAIL posted to the first-fault record (R33, R34). -/
def State.endCheck (s : State) (n : Lane) (verdict : Bool) (r : RawResult) : State :=
  let s1 := s.setLane n { s.lane n with checkPending := false }
  let s2 := { s1 with link := { s1.link with inHand := none } }
  let s3 := s2.pushReply { kind := replyKind 0x1A, status := .success, data := checkData verdict r }
  if verdict then s3 else s3.postFault .laneCheck (.lane n) r.kind.outcome 0

/-- Section 12.3: lane state codes. -/
def LaneState.code : LaneState → Byte
  | .absent => 0
  | .linking => 1
  | .running => 2
  | .lost => 3
  | .parked => 4

/-- The data of a PARK_LANE reply: the lane state before the request, and the HELD cells after it (R20). -/
def State.parkData (s : State) (n : Lane) (before : LaneState) : List Byte :=
  [before.code, BitVec.ofNat 8 (s.heldCount n)]

/-- The lane becomes PARKED, from whatever state it is in (R20). -/
def State.park (s : State) (n : Lane) : State :=
  let u := s.lane n
  match u.state with
  | .running => (s.lampEvent fun s => s.setLane n (u.stopped .parked)).loseCells n
  | .parked => s
  | _ => s.setLane n { u with state := .parked, settle := none, hold := none, returnState := none
                              latch := Table.full 12 .off }

/-- A park that waited completes: the lane PARKED, the request out of hand, its reply formed (R20, R162). -/
def State.completePark (s : State) (n : Lane) : State :=
  let s1 := (s.setLane n { s.lane n with parkWaiting := false }).park n
  let s2 := { s1 with link := { s1.link with inHand := none } }
  s2.pushReply { kind := replyKind 0x18, status := .success, data := s2.parkData n .running }

/-- A connector lost in RUNNING (R18 steps 1 to 5), with a pending check aborted (R35) and a waiting park completed (R20). -/
def State.loseLane (s : State) (n : Lane) : State :=
  let u := s.lane n
  -- the lane leaves RUNNING; a slot in flight is abandoned, the list emptied, the line unpowered
  let s := s.lampEvent fun s => s.setLane n ((s.lane n).stopped .lost)
  let s := if u.checkPending then s.endCheck n false { kind := .absent, pad := none, amplitude := 0 } else s
  let held := s.becomeHeldCount n
  let s := (s.loseCells n).notify (.laneGone n held)
  let s := s.startHold n
  if u.parkWaiting then s.completePark n else s

/-- A connector lost in LINKING: back to the return state (R17). -/
def State.unlinkLane (s : State) (n : Lane) : State :=
  let u := s.lane n
  match u.returnState with
  | some .lost =>
    let s1 := s.setLane n { u with state := .lost, returnState := none, settle := none, latch := Table.full 12 .off }
    if u.hold.isNone then s1.startHold n else s1
  | _ => s.setLane n { u with state := .absent, returnState := none, settle := none, latch := Table.full 12 .off }

/-- The settle of a LINKING lane ends: it enters RUNNING, resuming its tiles if it came from LOST (R17). -/
def State.linkLane (s : State) (n : Lane) : State :=
  let back := (s.lane n).returnState
  let s1 := s.lampEvent fun s => s.setLane n (s.startedLane n)
  match back with
  | some .lost =>
    let held := s1.heldCount n
    (s1.resumeCells n).notify (.laneBack n held)
  | _ => s1

end Sys2Proof.Machine
end

