-- ==== Sys2Proof/Machine/Codes.lean ====
section
/-!
DEFINITION. The bytes the host sees: value codes (section 12.3), cell and position bytes, tile words, notice records (sections 12.7 and 12.8) and reply frames (sections 10.6 and 12.1), under the widths of R173 (DEDUCED, assumption 13).
-/

namespace Sys2Proof.Machine

open Sys2Proof

/-- One byte of a number. -/
def byte (n : Nat) : Byte := BitVec.ofNat 8 n
/-- A flag: 1 when it holds. -/
def flag (b : Bool) : Byte := if b then 1 else 0
/-- Two bytes of a number, least significant first. -/
def two (n : Nat) : List Byte := bytes16 (BitVec.ofNat 16 n)
/-- Three bytes of a number, least significant first. -/
def three (n : Nat) : List Byte := bytes24 (BitVec.ofNat 24 n)
/-- Four bytes of a number, least significant first. -/
def four (n : Nat) : List Byte := bytes32 (BitVec.ofNat 32 n)
/-- An optional three-byte field: a presence byte, then the field or zeros (R173). -/
def optThree (v : Option Nat) : List Byte :=
  match v with
  | some n => 1 :: three n
  | none => [0, 0, 0, 0]
/-- A set of lanes as one byte, bit n for lane n (section 12.8). -/
def laneMask (t : Table 8 Bool) : Byte :=
  byte (((List.finRange 8).map fun n => if Table.read t n then 2 ^ n.val else 0).sum)

/-! ### Section 12.3 -/

def CellState.code : CellState → Byte
  | .vacant => 0
  | .arriving => 1
  | .seated => 2
  | .shifting => 3
  | .lifting => 4
  | .twin => 5
  | .suspect => 6
  | .held => 7
  | .retired => 8

def PartState.code : PartState → Byte
  | .starting => 0
  | .ready => 1
  | .resting => 2

def Guard.code : Guard → Byte
  | .settling => 0
  | .clear => 1
  | .dimmed => 2
  | .holding => 3

def ClassMode.code : ClassMode → Byte
  | .off => 0
  | .quiet => 1
  | .loud => 2

def LampSetting.code : LampSetting → Byte
  | .free => 0
  | .off => 1
  | .dim => 2
  | .bright => 3
  | .blinkDim => 4
  | .blinkBright => 5

def Drive.code : Drive → Byte
  | .off => 0
  | .dim => 1
  | .bright => 2

def Side.bit : Side → Nat
  | .a => 0
  | .b => 1

def QuestState.code : QuestState → Byte
  | .empty => 0
  | .dormant => 1
  | .running => 2
  | .paused => 3
  | .done => 4
  | .failed => 5

def StartReason.code : StartReason → Byte
  | .power => 0
  | .pin => 1
  | .restart => 2

def FailReason.code : FailReason → Byte
  | .time => 0
  | .abandoned => 1

def FaultCause.code (c : FaultCause) : Byte :=
  Config.faultCauseCode (match c with | .suspect => 0 | .autoRetire => 1 | .laneCheck => 2)

/-- The cell byte: slot in bits 0 to 3, lane in bits 4 to 6, bit 7 set when the cell has a board position. -/
def CellAt.cellByte (a : CellAt) : Byte :=
  byte (a.cell.slot.val + 16 * a.cell.lane.val + if a.pos.isSome then 128 else 0)

/-- A position byte: x in bits 0 to 3, y in bits 4 to 7. -/
def Pos.byte (b : Pos) : Byte := Machine.byte (b.x.val + 16 * b.y.val)

/-- The position byte of a cell, 0 when it has no position. -/
def CellAt.posByte (a : CellAt) : Byte := (a.pos.map Pos.byte).getD 0

/-- A tile word: serial, kind, side, facing, and flags in bits 29 to 31 (section 12.7). -/
def tileWord (serial : Serial) (kind : Nat) (side : Side) (facing flags : Nat) : List Byte :=
  four (serial.toNat + kind * 2 ^ 20 + side.bit * 2 ^ 26 + facing * 2 ^ 27 + flags * 2 ^ 29)

/-- The tile word of a tile with its facing. -/
def TileRead.word (t : TileRead) (facing flags : Nat) : List Byte := tileWord t.serial t.kind.val t.side facing flags

/-! ### Section 12.8 -/

def NoticeClass.code : NoticeClass → Nat
  | .fault => 0
  | .quest => 1
  | .play => 2
  | .board => 3

def NoticeBody.kindCode : NoticeBody → Nat
  | .started .. => 1
  | .suspect .. => 2
  | .recovered .. => 3
  | .retired .. => 4
  | .laneGone .. => 5
  | .laneBack .. => 6
  | .laneLost .. => 7
  | .stageDone .. => 8
  | .questDone .. => 9
  | .questFailed .. => 10
  | .holdBroken .. => 11
  | .turnEnd .. => 12
  | .clock .. => 13
  | .guard .. => 14
  | .rest .. => 15
  | .wake .. => 16
  | .arrival .. => 17
  | .lift .. => 18
  | .swap .. => 19
  | .rotate .. => 20
  | .twin .. => 21
  | .twinEnd .. => 22

def LiftReason.code : LiftReason → Nat
  | .read => 0
  | .displaced => 1
  | .retired => 2

def TwinEndReason.code : TwinEndReason → Nat
  | .read => 0
  | .suspect => 1
  | .retired => 2

/-- The payload bytes of STAGE_DONE and QUEST_DONE. -/
def donePayload (quest : QuestId) (stage points : Nat) (counter : Player) (byTick : Bool) (epoch : BitVec 16) :
    List Byte :=
  byte (quest.val + 32 * stage + if byTick then 128 else 0) :: two (points + 4096 * counter.val) ++ bytes16 epoch

/-- The payload bytes a kind carries, before the zeros that fill the record. -/
def NoticeBody.fields : NoticeBody → List Byte
  | .started r c u => [r.code, laneMask c, laneMask u]
  | .suspect a score entries => [a.cellByte, byte score, byte entries]
  | .recovered a score seated => [a.cellByte, byte score, if seated then 0 else 1]
  | .retired a auto entries => [a.cellByte, flag auto, byte entries]
  | .laneGone n k => [byte n.val, byte k]
  | .laneBack n k => [byte n.val, byte k]
  | .laneLost n k => [byte n.val, byte k]
  | .stageDone q st p c t e => donePayload q st p c t e
  | .questDone q st p c t e => donePayload q st p c t e
  | .questFailed q st why earned => [byte q.val, byte st, why.code] ++ two earned
  | .holdBroken q st held e => [byte q.val, byte st] ++ two held ++ bytes16 e
  | .turnEnd p t m byHost next => [byte p.val] ++ two t ++ [byte m, flag byHost, byte next.val]
  | .clock run byRest => [flag run, flag byRest]
  | .guard b a ln ld limit => [b.code, a.code, byte ln, byte ld, byte limit]
  | .rest delay auto paused => two delay ++ [flag auto, flag paused]
  | .wake .frame run => [0, 0, 0, flag run]
  | .wake (.tracker c) run => [1, byte c.lane.val, byte c.slot.val, flag run]
  | .wake (.connector n) run => [2, byte n.val, 0, flag run]
  | .arrival a t f promoted => [a.cellByte, a.posByte] ++ t.word f.val (if promoted then 1 else 0)
  | .lift a x why => [a.cellByte, a.posByte] ++ tileWord x 0 .a 0 why.code
  | .swap a t f => [a.cellByte, a.posByte] ++ t.word f.val 0
  | .rotate a t f => [a.cellByte, a.posByte] ++ t.word f.val 0
  | .twin a x h => [a.cellByte, a.posByte] ++ four (x.toNat + (h.slot.val + 16 * h.lane.val) * 2 ^ 20)
  | .twinEnd a x why => [a.cellByte, 0] ++ tileWord x 0 .a 0 why.code

/-- A list of bytes filled with zeros to a length (R173: bytes that carry no field are 0). -/
def fill (n : Nat) (l : List Byte) : List Byte := l ++ List.replicate (n - l.length) 0

/-- The 14 bytes of a notice record. -/
def Notice.bytes (n : Notice) : List Byte :=
  bytes16 n.seq ++ [byte (n.body.class.code * 64 + n.body.kindCode)] ++ bytes16 n.epoch ++ three n.clock ++
    fill 6 n.body.fields

/-! ### Reply frames -/

/-- Section 12.1: status codes. -/
def Status.code : Status → Byte
  | .success => 0
  | .badFrame => 1
  | .starting => 2
  | .busy => 3
  | .unknownKind => 4
  | .badLength => 5
  | .badValue => 6
  | .refused => 7
  | .full => 8
  | .void => 9

/-- The body of a reply: kind, status, data (section 10.6). -/
def Reply.body (r : Reply) : List Byte := r.kind :: r.status.code :: r.data

/-- The frame that goes out on TXD (section 10.6, R158). -/
def Reply.frame (r : Reply) : List Byte := frameBytes replyStart r.body

end Sys2Proof.Machine
end

