-- ==== Sys2Proof/Machine/BoardPlan.lean ====
section
/-!
DEFINITION. The requests of the Board Plan (R3 to R7) and of the lane units (R20, R21, R33).
-/

namespace Sys2Proof.Machine

open Sys2Proof

/-- The lowest-numbered other placed lane whose footprint a placement shares (R4). -/
def State.overlapLane (s : State) (n : Lane) (p : Placement) : Option Lane :=
  (List.finRange 8).find? fun m =>
    decide (m ≠ n) &&
      match Table.read s.plan m with
      | some q => p.overlaps q
      | none => false

/-- The footprint bounds x0, y0, x1, y1 (R5). R173 gives a grid coordinate no width: each takes one byte, and the bounds are four bytes and not two position bytes (DESIGN CHOICE, assumption 35). -/
def Placement.bounds (p : Placement) : List Byte :=
  [byte p.ox.val, byte p.oy.val, byte (p.ox.val + footprintWidth p.h - 1), byte (p.oy.val + footprintHeight p.h - 1)]

/-- A lane's placement record changed, with what R5 and R6 say follows. -/
def State.replace (s : State) (n : Lane) (p : Option Placement) : State :=
  (s.lampEvent fun s => { s with plan := Table.put s.plan n p }.refaceLane n).wantPass

/-- PLACE_SEGMENT (R3 to R5). -/
def takePlaceSegment (lane ox oy h : Byte) (s : State) : Taken :=
  match below 8 lane, below 16 ox, below 16 oy, below 4 h with
  | some n, some x, some y, some t =>
    let p : Placement := { ox := x, oy := y, h := t }
    if p.onGrid then
      match s.overlapLane n p with
      | some m => refused s .overlap [byte m.val]
      | none => success (s.replace n (some p)).finish p.bounds
    else refused s .offgrid []
  | _, _, _, _ => badValue s

/-- UNPLACE_SEGMENT (R6). -/
def takeUnplaceSegment (lane : Byte) (s : State) : Taken :=
  match below 8 lane with
  | none => badValue s
  | some n =>
    if (Table.read s.plan n).isSome then success (s.replace n none).finish [1] else success s [0]

/-- One lane's entry in the plan's reply (R7). The placed field is the entry's presence byte (DESIGN CHOICE, assumption 33), and origin and heading, to which R173 gives no width, take one byte each (DESIGN CHOICE, assumption 35). -/
def planEntry (p : Option Placement) : List Byte :=
  match p with
  | some p => [1, byte p.ox.val, byte p.oy.val, byte p.h.val] ++ p.bounds
  | none => [0, 0, 0, 0, 0, 0, 0, 0]

/-- GET_PLAN (R7). -/
def takeGetPlan (s : State) : Taken :=
  success s
    (byte ((List.finRange 8).countP fun n => (Table.read s.plan n).isSome) ::
      (List.finRange 8).flatMap fun n => planEntry (Table.read s.plan n))

/-- PARK_LANE (R20): a RUNNING lane with a slot in flight waits for it, with the request in hand (R162). -/
def takeParkLane (lane : Byte) (s : State) : Taken :=
  match below 8 lane with
  | none => badValue s
  | some n =>
    let u := s.lane n
    if u.state = .running ∧ u.slot.isSome then
      let s1 := s.setLane n { u with parkWaiting := true }
      ({ s1 with link := { s1.link with inHand := some (.parkLane n) } }, none)
    else
      let s1 := s.park n
      success s1.finish (s1.parkData n u.state)

/-- RUN_LANE (R21). -/
def takeRunLane (lane : Byte) (s : State) : Taken :=
  match below 8 lane with
  | none => badValue s
  | some n =>
    let u := s.lane n
    if u.state ≠ .parked then refused s .laneState [u.state.code]
    else if u.connector then
      success (s.setLane n { u with state := .linking, returnState := some .lost, settle := some 200, hold := none })
        [LaneState.linking.code]
    else
      success ((s.setLane n { u with state := .lost, returnState := none, hold := none }).startHold n).finish
        [LaneState.lost.code]

/-- LANE_CHECK (R33): pending on a RUNNING lane, with the request in hand until the check ends. -/
def takeLaneCheck (lane : Byte) (s : State) : Taken :=
  match below 8 lane with
  | none => badValue s
  | some n =>
    let u := s.lane n
    if u.state ≠ .running then refused s .laneState [u.state.code]
    else
      let s1 := s.setLane n { u with checkPending := true }
      ({ s1 with link := { s1.link with inHand := some (.laneCheck n) } }.finish, none)

end Sys2Proof.Machine
end

