-- ==== Sys2Proof/Machine/MapRequests.lean ====
section
/-!
DEFINITION. The requests of the Cell Tracker (R37, R51, R52, R59 to R64) and of the Tile Roster (R66 to R71).
-/

namespace Sys2Proof.Machine

open Sys2Proof

/-! ### Cell Tracker -/

/-- A cell named by two bytes, lane and slot, if both are in range. -/
def cellOf (lane slot : Byte) : Option CellId :=
  match below 8 lane, below 12 slot with
  | some n, some i => some ⟨n, i⟩
  | _, _ => none

/-- The incumbent's bytes in a GET_CELL reply: offsets 4 to 15 (section 12.7). -/
def incumbentBytes (t : Option Incumbent) : List Byte :=
  match t with
  | some t =>
    t.tile.word t.facing.val 0 ++ [byte t.tile.edition.val, byte t.tile.pad.val, byte t.placedBy.val] ++
      three t.seatedAt ++ [flag t.counting, byte t.owner.val]
  | none => List.replicate 12 0

/-- The candidate's bytes in a GET_CELL reply: offsets 16 to 22 (section 12.7). -/
def candidateBytes (t : Option Candidate) : List Byte :=
  match t with
  | some t => t.tile.word 0 0 ++ [byte t.tile.edition.val, byte t.tile.pad.val, byte t.arrive]
  | none => List.replicate 7 0

/-- GET_CELL success data, 29 bytes (section 12.7). -/
def State.cellData (s : State) (c : CellId) : List Byte :=
  let r := s.cell c
  [(s.cellAt c).cellByte, (s.cellAt c).posByte, r.state.code,
    byte ((if r.incumbent.isSome then 1 else 0) + if r.candidate.isSome then 2 else 0)] ++
    incumbentBytes r.incumbent ++ candidateBytes r.candidate ++
    [byte r.lift, byte r.absent, byte r.score, byte r.entries, byte r.peak, byte (s.threshold c)]

/-- GET_CELL (R59). -/
def takeGetCell (form a b : Byte) (s : State) : Taken :=
  if form = 0 then
    match cellOf a b with
    | some c => success s (s.cellData c)
    | none => badValue s
  else if form = 1 then
    match below 16 a, below 16 b with
    | some x, some y =>
      match s.liveCell ⟨x, y⟩ with
      | some c => success s (s.cellData c)
      | none => answered s .void []
    | _, _ => badValue s
  else badValue s

/-- GET_BOARD (R60). -/
def takeGetBoard (s : State) : Taken :=
  success s ((allCells.map fun c => (s.cell c).state.code) ++ bytes16 s.epoch)

/-- RETIRE_CELL (R51). -/
def takeRetireCell (lane slot : Byte) (s : State) : Taken :=
  match cellOf lane slot with
  | none => badValue s
  | some c =>
    if (s.cell c).state = .retired then success s [CellState.retired.code]
    else success (s.retire c false).finish [(s.cell c).state.code]

/-- A RETIRED cell made VACANT again (R52): its lamp follows its settings, a pass is wanted, and a scan that had no cell to read begins waiting (R30). -/
def State.reinstate (s : State) (c : CellId) : State :=
  let s1 := (s.lampEvent fun s => s.setCell c CellRec.reset).wantPass
  if s.allRetired c.lane ∧ (s.lane c.lane).state = .running ∧ (s.lane c.lane).mode = .normal then
    s1.beginWaiting c.lane
  else s1

/-- REINSTATE_CELL (R52). -/
def takeReinstateCell (lane slot : Byte) (s : State) : Taken :=
  match cellOf lane slot with
  | none => badValue s
  | some c => if (s.cell c).state = .retired then success (s.reinstate c).finish [1] else success s [0]

/-- The first-fault record in a reply (R61, R62): its present field, which is its presence byte (DESIGN CHOICE, assumption 33), then its fields, zeros when it is empty. The fault score takes one byte, as in the GET_CELL table, R173's two-byte scores being read as the score counters (DESIGN CHOICE, assumption 35). -/
def State.faultData (s : State) : List Byte :=
  match s.firstFault with
  | none => List.replicate 9 0
  | some f =>
    [1, f.cause.code,
      match f.place with
      | .cell c => (s.cellAt c).cellByte
      | .lane n => byte n.val,
      f.outcome.code, byte f.score] ++ three f.clock ++ [byte f.later]

/-- GET_FIRST_FAULT (R62). -/
def takeGetFirstFault (s : State) : Taken := success s s.faultData

/-- CLEAR_FIRST_FAULT (R62). -/
def takeClearFirstFault (s : State) : Taken := success { s with firstFault := none } s.faultData

/-- A watched cell, or none, as an optional field (R63, R64). -/
def State.watchedBytes (s : State) : List Byte := optByte (s.watch.cell.map fun c => (s.cellAt c).cellByte)

/-- The watch set to a selection: another selection empties the trace and clears the overrun flag (R63). -/
def State.select (s : State) (c : Option CellId) : State :=
  if s.watch.cell = c then s else { s with watch := { cell := c, trace := [], overrun := false } }

/-- WATCH_CELL (R63). -/
def takeWatchCell (lane slot : Byte) (s : State) : Taken :=
  if lane = 0xFF then success (s.select none) (s.select none).watchedBytes
  else
    match cellOf lane slot with
    | some c => success (s.select (some c)) (s.select (some c)).watchedBytes
    | none => badValue s

/-- A trace entry in a reply (R63, R173; DEDUCED, assumption 13). -/
def TraceEntry.bytes (e : TraceEntry) : List Byte :=
  [Config.slotKindCode (decide (e.slotKind = .confirm)), e.outcome.code, byte e.amplitude, byte e.threshold,
    flag e.guarded] ++ optThree (e.serial.map (·.toNat)) ++ three e.clock

/-- GET_WATCH (R64). -/
def takeGetWatch (s : State) : Taken :=
  let out := s.watch.trace.take 4
  let left := s.watch.trace.drop 4
  success { s with watch := { s.watch with trace := left, overrun := false } }
    (out.flatMap TraceEntry.bytes ++ s.watchedBytes ++ [byte out.length, byte left.length, flag s.watch.overrun])

/-- The sensing parameters in force, as SET_SENSING answers them (R37), one byte each as in the request (DEDUCED, assumption 13). -/
def Sensing.bytes (v : Sensing) : List Byte :=
  [byte v.arriveN, byte v.liftN, byte v.hold] ++ (List.finRange 8).map fun n => byte (Table.read v.floors n)

/-- SET_SENSING (R37). -/
def takeSetSensing (arriveN liftN hold floor target : Byte) (s : State) : Taken :=
  if 8 < target.toNat then badValue s
  else
    let f := clamp 8 96 floor.toNat
    let v : Sensing :=
      { arriveN := clamp 1 8 arriveN.toNat
        liftN := clamp 1 15 liftN.toNat
        hold := hold.toNat
        floors := Table.each s.sensing.floors fun n old => if target.toNat = 8 ∨ target.toNat = n.val then f else old }
    success { s with sensing := v } v.bytes

/-! ### Tile Roster -/

/-- The most entries the roster holds (R65). -/
def rosterRoom : Nat := 192

/-- A serial given to a roster request, if it identifies a tile (R66). -/
def serialOf (x : BitVec 24) : Option Serial :=
  if 1 ≤ x.toNat ∧ x.toNat ≤ 1048574 then some (BitVec.ofNat 20 x.toNat) else none

/-- An entry added, or its fields replaced, the list kept in rising order of serial. -/
def insertEntry (e : RosterEntry) : List RosterEntry → List RosterEntry
  | [] => [e]
  | d :: rest =>
    if e.serial = d.serial then e :: rest
    else if e.serial.toNat < d.serial.toNat then e :: d :: rest
    else d :: insertEntry e rest

/-- ENROLL (R66, R67). -/
def takeEnroll (serial : BitVec 24) (owner banned : Byte) (s : State) : Taken :=
  match serialOf serial, below 5 owner, below 2 banned with
  | some x, some o, some b =>
    let known := (s.roster.find x).isSome
    if !known && decide (rosterRoom ≤ s.roster.entries.length) then answered s .full []
    else
      let entry : RosterEntry := { serial := x, owner := o, banned := decide (b = 1) }
      let s1 := { s with roster := { s.roster with entries := insertEntry entry s.roster.entries } }
      success (s1.rejudge (some x)).finish
        [Config.enrollResultCode (!known), byte s1.roster.entries.length, byte (s1.rejudgeCount (some x))]
  | _, _, _ => badValue s

/-- WITHDRAW (R66, R68). -/
def takeWithdraw (serial : BitVec 24) (s : State) : Taken :=
  match serialOf serial with
  | none => badValue s
  | some x =>
    match s.roster.find x with
    | none => refused s .notEnrolled []
    | some e =>
      let s1 := { s with
        roster := { s.roster with entries := s.roster.entries.filter fun d => decide (d.serial ≠ x) } }
      success (s1.rejudge (some x)).finish
        [byte e.owner.val, flag e.banned, byte s1.roster.entries.length, byte (s1.rejudgeCount (some x))]

/-- The policy and the accepted editions in a reply. -/
def Roster.settings (r : Roster) : List Byte := flag r.closed :: bytes32 r.editions

/-- The first cell that holds a serial as incumbent. -/
def State.holder (s : State) (x : Serial) : Option CellId := allCells.find? fun c => (s.cell c).holds x

/-- How many TWIN cells carry a serial (R71). -/
def State.twinCount (s : State) (x : Serial) : Nat :=
  allCells.countP fun c =>
    match (s.cell c).state, (s.cell c).candidate with
    | .twin, some t => decide (t.tile.serial = x)
    | _, _ => false

/-- What GET_TILE says of the incumbent (R71): its flag is the presence byte of all the fields that follow (DESIGN CHOICE, assumption 33). -/
def State.holderBytes (s : State) (x : Serial) : List Byte :=
  match s.holder x with
  | some c =>
    match (s.cell c).incumbent with
    | some t => [1, (s.cellAt c).cellByte, (s.cell c).state.code, flag t.counting, byte t.owner.val]
    | none => List.replicate 5 0
  | none => List.replicate 5 0

/-- GET_TILE (R66, R71). The enrolled flag is the presence byte of owner and banned (DESIGN CHOICE, assumption 33). -/
def takeGetTile (serial : BitVec 24) (s : State) : Taken :=
  match serialOf serial with
  | none => badValue s
  | some x =>
    success s
      ((match s.roster.find x with
        | some e => [1, byte e.owner.val, flag e.banned]
        | none => [0, 0, 0]) ++
        s.holderBytes x ++ [byte (s.twinCount x), byte s.roster.entries.length] ++ s.roster.settings)

/-- SET_ROSTER_POLICY (R69). -/
def takeSetRosterPolicy (policy : Byte) (editions : BitVec 32) (s : State) : Taken :=
  match below 2 policy with
  | none => badValue s
  | some p =>
    let s1 := { s with roster := { s.roster with closed := decide (p = 1), editions := editions } }
    success (s1.rejudge none).finish (s.roster.settings ++ [byte (s1.rejudgeCount none)])

end Sys2Proof.Machine
end

