-- ==== Sys2Proof/Machine/PartRequests.lean ====
section
/-!
DEFINITION. The requests of the Link Interface, the Notice Unit and the Rest Controller, and NEW_GAME (R129, R148, R153, R154, R165, R166, R169).
-/

namespace Sys2Proof.Machine

open Sys2Proof

/-- HELLO (R165): part code 0x0896, revision 0x12, start reason, STARTING or READY. Nothing gives the part code and the revision a width: two bytes, the low one first, and one (DESIGN CHOICE, assumption 35). -/
def takeHello (s : State) : Taken :=
  success s
    (two 0x0896 ++
      [0x12, s.rest.startReason.code, if s.rest.part = .starting then PartState.starting.code else PartState.ready.code])

/-- The classes with a notice in the queue, bit c for the class of code c. -/
def NoticeUnit.classMask (u : NoticeUnit) : Byte :=
  byte (([.fault, .quest, .play, .board] : List NoticeClass).map fun c =>
    if u.queue.any fun n => decide (n.body.class = c) then 2 ^ c.code else 0).sum

/-- The four class modes in a reply. -/
def Modes.bytes (m : Modes) : List Byte := [m.fault.code, m.quest.code, m.play.code, m.board.code]

/-- STATUS (R154). -/
def takeStatus (s : State) : Taken :=
  success s
    ([byte s.notices.queue.length, s.notices.classMask, flag s.attn, byte s.notices.dropped] ++
      bytes16 s.notices.next ++ s.notices.modes.bytes ++ [s.rest.part.code, s.lamps.guard.code] ++
      ((List.finRange 8).map fun n => (s.lane n).state.code) ++ [flag s.quests.pass.isSome])

/-- RESTART (R166, R168): the assembler ignores every byte from here on; the reset follows the last queued reply. -/
def takeRestart (s : State) : Taken := success { s with link := { s.link with ignoring := true } } []

/-! ### NEW_GAME -/

/-- A quest at a new game: not EMPTY becomes DORMANT with its progress reset (R129). -/
def Quest.renewed (r : Quest) : Quest :=
  if r.state = .empty then r else { r with state := .dormant, progress := Progress.fresh }

/-- The Quest Engine at a new game (R129). -/
def QuestEngine.renewed (e : QuestEngine) : QuestEngine :=
  { records := Table.each e.records fun _ r => r.renewed, passWanted := false, pass := none }

/-- The Play Record at a new game (R93). -/
def PlayRecord.renewed (p : PlayRecord) : PlayRecord :=
  { p with
    current := if p.turns then 1 else 0, turnNumber := 1, moves := 0, clock := 0, clockRunning := false
    scores := Table.full 5 0 }

/-- The Lamp and Sound Unit at a new game (R131). -/
def LampUnit.renewed (u : LampUnit) : LampUnit :=
  { u with hints := Table.full 24 none, flashes := Table.full 24 none, cues := [], sounder := none }

/-- The Notice Unit at a new game: the queue emptied, the dropped count 0 (R146, R155). -/
def NoticeUnit.renewed (u : NoticeUnit) : NoticeUnit := { u with queue := [], dropped := 0 }

/-- NEW_GAME: every block acts, the lamps as one load change, and the Notice Unit last (R129, R93, R131, R145, R155; DEDUCED, assumption 23). A timer still expired rests the part as STOP_CUES does (DESIGN CHOICE, assumption 36). -/
def State.newGame (s : State) : State :=
  let s := { s with quests := s.quests.renewed, play := s.play.renewed }
  let s := (s.lampEvent fun s => { s with lamps := s.lamps.renewed }).restIfDue
  { s with notices := s.notices.renewed }

/-- NEW_GAME (R129). -/
def takeNewGame (s : State) : Taken := success s.newGame.finish []

/-! ### The Rest Controller and the Notice Unit -/

/-- The rest delay a request's value gives: 0, or clamped into 10 to 3,600 (R169). -/
def restDelay (v : Nat) : Nat := if v = 0 then 0 else clamp 10 3600 v

/-- The rest delay and auto-pause in a reply. -/
def RestController.settings (r : RestController) : List Byte := two r.delay ++ [flag r.autoPause]

/-- SET_REST (R169). -/
def takeSetRest (delay : BitVec 16) (autoPause : Byte) (s : State) : Taken :=
  match below 2 autoPause with
  | none => badValue s
  | some a =>
    let d := restDelay delay.toNat
    let r :=
      { s.rest with
        delay := d, autoPause := decide (a = 1)
        activity := if s.rest.part = .ready then fullActivity d else s.rest.activity }
    success { s with rest := r } (s.rest.settings ++ r.settings)

/-- FETCH (R153). -/
def takeFetch (k : Byte) (s : State) : Taken :=
  if k.toNat = 0 ∨ 4 < k.toNat then badValue s
  else
    let out := s.notices.queue.take k.toNat
    let left := s.notices.queue.drop k.toNat
    success { s with notices := { s.notices with queue := left, dropped := 0 } }
      (byte out.length :: (out.flatMap Notice.bytes ++ [byte left.length, byte s.notices.dropped]))

/-- A class mode from its code (section 12.3). -/
def modeOf (b : Byte) : Option ClassMode :=
  match b.toNat with
  | 0 => some .off
  | 1 => some .quiet
  | 2 => some .loud
  | _ => none

/-- SET_NOTICE_MODES (R148). -/
def takeSetNoticeModes (fault quest play board : Byte) (s : State) : Taken :=
  match modeOf fault, modeOf quest, modeOf play, modeOf board with
  | some f, some q, some p, some b =>
    success { s with notices := { s.notices with modes := { fault := f, quest := q, play := p, board := b } } }
      s.notices.modes.bytes
  | _, _, _, _ => badValue s

end Sys2Proof.Machine
end

