-- ==== Sys2Proof/Machine/PlayRequests.lean ====
section
/-!
DEFINITION. The requests of the Play Record (R94, R97, R99, R101, R102, R105) and of the Lamp and Sound Unit (R132, R141, R142, R144, R145).
-/

namespace Sys2Proof.Machine

open Sys2Proof

/-! ### Play Record -/

/-- The turn record in a reply, in the order of R99. -/
def PlayRecord.turnBytes (p : PlayRecord) : List Byte :=
  [flag p.turns, byte p.np.val, byte p.current.val] ++ two p.turnNumber ++ [byte p.moves, byte p.movesPerTurn]

/-- GET_TURN (R99). -/
def takeGetTurn (s : State) : Taken := success s s.play.turnBytes

/-- The parameters of SET_TURN in range: players in play and current player (R94). -/
def turnSetting (mode np current movesPerTurn : Byte) : Option (Bool × Player × Player) :=
  match below 2 mode, below 5 np with
  | some m, some k =>
    if k = 0 ∨ 9 < movesPerTurn.toNat then none
    else if m = 0 then some (false, k, 0)
    else
      match below 5 current with
      | some c => if c = 0 ∨ k < c then none else some (true, k, c)
      | none => none
  | _, _ => none

/-- SET_TURN (R94). -/
def takeSetTurn (mode np current movesPerTurn : Byte) (s : State) : Taken :=
  match turnSetting mode np current movesPerTurn with
  | none => badValue s
  | some (turns, k, c) =>
    let p := { s.play with
      turns := turns, np := k, current := c, turnNumber := 1, moves := 0, movesPerTurn := movesPerTurn.toNat }
    success { s with play := p } (s.play.turnBytes ++ p.turnBytes)

/-- END_TURN (R96, R97). -/
def takeEndTurn (s : State) : Taken :=
  if s.play.turns then
    let s1 := s.endTurn true
    success s1
      ([byte s.play.current.val] ++ two s.play.turnNumber ++
        [byte s.play.moves, byte (nextPlayer s.play.current s.play.np).val] ++ two s1.play.turnNumber)
  else refused s .freeMode []

/-- The clock's run state before a request, and its value (R101). -/
def PlayRecord.clockBytes (p : PlayRecord) : List Byte := flag p.clockRunning :: three p.clock

/-- CLOCK_RUN (R101). -/
def takeClockRun (s : State) : Taken :=
  success (if s.play.clockRunning then s else s.setClockRunning true false) s.play.clockBytes

/-- CLOCK_PAUSE (R101). -/
def takeClockPause (s : State) : Taken :=
  success (if s.play.clockRunning then s.setClockRunning false false else s) s.play.clockBytes

/-- SET_CLOCK (R102). Every three-byte value is in range. -/
def takeSetClock (value : BitVec 24) (s : State) : Taken :=
  if s.play.clockRunning then refused s .clockRunning []
  else success { s with play := { s.play with clock := value.toNat } } (three s.play.clock)

/-- The five counters in a reply: players 1 to 4, then the team (R105). -/
def PlayRecord.scoreBytes (p : PlayRecord) : List Byte :=
  ([1, 2, 3, 4, 0] : List Player).flatMap fun k => two (Table.read p.scores k)

/-- GET_SCORES (R105). -/
def takeGetScores (s : State) : Taken := success s s.play.scoreBytes

/-- SET_SCORES (R105). -/
def takeSetScores (p1 p2 p3 p4 team : BitVec 16) (s : State) : Taken :=
  let held (v : BitVec 16) : Nat := min scoreMax v.toNat
  let p := { s.play with scores := #v[held team, held p1, held p2, held p3, held p4] }
  success { s with play := p } p.scoreBytes

/-! ### Lamp and Sound Unit -/

/-- A lamp setting from its code (section 12.3). -/
def settingOf (b : Byte) : Option LampSetting :=
  match b.toNat with
  | 0 => some .free
  | 1 => some .off
  | 2 => some .dim
  | 3 => some .bright
  | 4 => some .blinkDim
  | 5 => some .blinkBright
  | _ => none

/-- The cells SET_LAMPS reaches: the live positions of the rectangle clipped to the grid, in board order (R132). -/
def State.lampCells (s : State) (x0 y0 x1 y1 : Byte) : List CellId :=
  allPositions.filterMap fun b =>
    if x0.toNat ≤ b.x.val ∧ b.x.val ≤ x1.toNat ∧ y0.toNat ≤ b.y.val ∧ b.y.val ≤ y1.toNat then s.liveCell b else none

/-- The host setting of every listed cell written (R132). -/
def State.setHost (s : State) (cells : List CellId) (v : LampSetting) : State :=
  { s with lamps := { s.lamps with host := cells.foldl (fun t c => putCell t c v) s.lamps.host } }

/-- SET_LAMPS (R132). -/
def takeSetLamps (x0 y0 x1 y1 setting : Byte) (s : State) : Taken :=
  match settingOf setting with
  | none => badValue s
  | some v =>
    if x1.toNat < x0.toNat ∨ y1.toNat < y0.toNat then badValue s
    else
      let cells := s.lampCells x0 y0 x1 y1
      success (s.lampEvent fun s => s.setHost cells v).finish
        [byte cells.length, byte (cells.countP fun c => decide (s.hostSetting c ≠ v))]

/-- One cell's entry in a GET_LAMPS reply (R142): one presence byte covers the quest layer's value and the quest that supplies it (DESIGN CHOICE, assumption 33). -/
def State.lampEntry (s : State) (c : CellId) : List Byte :=
  (s.hostSetting c).code ::
    ((match s.questLayer c with
      | some (bright, q) => [1, if bright then LampSetting.bright.code else LampSetting.blinkDim.code, byte q.val]
      | none => [0, 0, 0]) ++
      [(s.effective c).code, (s.drive c).code])

/-- GET_LAMPS (R142). The eight stale flags take a byte each, and one presence byte says both that the sounder plays and that the cue follows (DESIGN CHOICE, assumption 33). -/
def takeGetLamps (lane : Byte) (s : State) : Taken :=
  match below 8 lane with
  | none => badValue s
  | some n =>
    success s
      ((laneCells n).flatMap s.lampEntry ++ ((List.finRange 8).map fun m => flag (s.lane m).stale) ++
        [Config.blinkPhaseCode s.lamps.phaseOn, s.lamps.guard.code, byte s.ln, byte s.ld, byte s.lamps.limit] ++
        optByte (if s.lamps.sounder.isSome then s.lamps.cues.head?.map fun c => byte c.val else none) ++
        [byte s.lamps.cues.length])

/-- PLAY_CUE (R144). -/
def takePlayCue (cue : Byte) (s : State) : Taken :=
  match below 16 cue with
  | none => badValue s
  | some c =>
    if cueRoom ≤ s.lamps.cues.length then answered s .full []
    else
      success (s.enqueueCue c).finish [byte (s.lamps.cues.length + 1), flag (decide (s.lamps.cues = []))]

/-- The cue queue emptied and the sounder silenced; a part that still waits for the sounder to rest now rests (R145, R169). A STOP_CUES whose own start byte has restarted the timer finds it running, and does not rest the part (DESIGN CHOICE, assumption 36). -/
def State.stopCues (s : State) : State :=
  if s.lamps.cues = [] ∧ s.lamps.sounder = none then s else s.silence.restIfDue

/-- STOP_CUES (R145). -/
def takeStopCues (s : State) : Taken :=
  success s.stopCues.finish [byte s.lamps.cues.length, flag s.lamps.sounder.isSome]

/-- SET_LOAD_LIMIT (R141). -/
def takeSetLoadLimit (limit : Byte) (s : State) : Taken :=
  let l := clamp 16 200 limit.toNat
  let s1 := { s with lamps := { s.lamps with limit := l } }.evalGuard
  success s1.finish [byte s.lamps.limit, byte l, s1.lamps.guard.code]

end Sys2Proof.Machine
end

