-- ==== Sys2Proof/Machine/PatternRequests.lean ====
section
/-!
DEFINITION. The requests of the Pattern Table (R76 to R80, R89), with the checks of a definition.
-/

namespace Sys2Proof.Machine

open Sys2Proof

/-- What can be wrong with a definition (R76, R77, R109). -/
inductive DefinitionFault where
  | fieldRange
  | anchorOffset
  | anchorEmpty
  | anchorFacing
  | emptyRequirement
  | duplicateOffset
  | hintOrder
  | coopFilter
  deriving DecidableEq, Repr

/-- Section 12.1: fault codes. -/
def DefinitionFault.code : DefinitionFault → Byte
  | .fieldRange => 1
  | .anchorOffset => 2
  | .anchorEmpty => 3
  | .anchorFacing => 4
  | .emptyRequirement => 5
  | .duplicateOffset => 6
  | .hintOrder => 7
  | .coopFilter => 8

/-- A faulty definition answered: BAD_VALUE, the fault code, the piece or stage (R76, R109). Nothing gives the piece or stage number a width here: it takes one byte (DESIGN CHOICE, assumption 35). -/
def faulty (s : State) (f : DefinitionFault) (place : Nat) : Taken := answered s .badValue [f.code, byte place]

/-! ### Reading a piece (R75, section 12.3) -/

/-- A kind test byte (section 12.3). -/
def pieceTestOf (b : Byte) : Option PieceTest :=
  if b.toNat < 64 then some (.tile (.exact (Fin.ofNat 64 b.toNat)))
  else if b.toNat < 72 then some (.tile (.family (Fin.ofNat 8 (b.toNat - 64))))
  else if b = 0x80 then some (.tile .anyTile)
  else if b = 0xC0 then some .empty
  else none

/-- An offset byte, −7 to +7 in two's complement (R172). -/
def offsetOf (b : Byte) : Option Int := if -7 ≤ b.toInt ∧ b.toInt ≤ 7 then some b.toInt else none

/-- A facing requirement byte: 0xFF is ANY (section 12.3). -/
def facingTestOf (b : Byte) : Option (Option (Fin 4)) := if b = 0xFF then some none else (below 4 b).map some

/-- A side requirement byte: ANY 0, A 1, B 2 (section 12.3). -/
def sideTestOf (b : Byte) : Option (Option Side) :=
  match b.toNat with
  | 0 => some none
  | 1 => some (some .a)
  | 2 => some (some .b)
  | _ => none

/-- A rotation mode byte (section 12.3). -/
def rotationOf (b : Byte) : Option Rotation :=
  match b.toNat with
  | 0 => some .fixed
  | 1 => some .turning
  | 2 => some .any
  | _ => none

/-- The anchor mode and position bytes: FREE, whose position is not checked, or AT (R76). -/
def anchorOf (mode ax ay : Byte) : Option (Option Pos) :=
  match mode.toNat with
  | 0 => some none
  | 1 =>
    match below 16 ax, below 16 ay with
    | some x, some y => some (some ⟨x, y⟩)
    | _, _ => none
  | _ => none

/-- A piece record, if every field is in range (R76). -/
def pieceOf (p : PieceBytes) : Option Piece :=
  match offsetOf p.dx, offsetOf p.dy, pieceTestOf p.kindTest, facingTestOf p.facing, sideTestOf p.side with
  | some dx, some dy, some t, some f, some d => some { dx := dx, dy := dy, test := t, facing := f, side := d }
  | _, _, _, _, _ => none

/-- The piece records from number `i`, or the number of the first with a field out of range (R76). -/
def readPieces (i : Nat) : List PieceBytes → Except Nat (List Piece)
  | [] => .ok []
  | b :: rest =>
    match pieceOf b with
    | none => .error i
    | some p =>
      match readPieces (i + 1) rest with
      | .ok ps => .ok (p :: ps)
      | .error j => .error j

/-! ### Consistency (R77) -/

/-- The first fault of piece 0. -/
def anchorFault (r : Rotation) (p : Piece) : Option DefinitionFault :=
  if p.dx ≠ 0 ∨ p.dy ≠ 0 then some .anchorOffset
  else if p.test = .empty then some .anchorEmpty
  else if r = .turning ∧ p.facing ≠ none ∧ p.facing ≠ some 0 then some .anchorFacing
  else none

/-- The first fault of a piece after the pieces `before`. -/
def pieceFault (before : List Piece) (p : Piece) : Option DefinitionFault :=
  if p.test = .empty ∧ (p.facing ≠ none ∨ p.side ≠ none) then some .emptyRequirement
  else if before.any fun q => decide (q.dx = p.dx ∧ q.dy = p.dy) then some .duplicateOffset
  else none

/-- The first fault of the pieces from number `i` with the piece it names. -/
def laterFault (i : Nat) (before : List Piece) : List Piece → Option (DefinitionFault × Nat)
  | [] => none
  | p :: rest =>
    match pieceFault before p with
    | some f => some (f, i)
    | none => laterFault (i + 1) (before ++ [p]) rest

/-- The first fault of a pattern with the piece it names (R77), two faults of one piece in the order of R77's table (DEDUCED, assumption 20). -/
def Pattern.inconsistency (d : Pattern) : Option (DefinitionFault × Nat) :=
  match d.pieces with
  | [] => none
  | p :: rest =>
    match anchorFault d.rotation p with
    | some f => some (f, 0)
    | none => laterFault 1 [p] rest

/-- A pattern record replaced. -/
def State.setPattern (s : State) (p : Fin 32) (d : Option Pattern) : State :=
  { s with patterns := Table.put s.patterns p d }

/-- A pattern defined or erased, unless a RUNNING or PAUSED quest holds it in use; the reply carries was-defined (R78, R79). -/
def State.changePattern (s : State) (p : Fin 32) (d : Option Pattern) : Taken :=
  match s.usedBy p with
  | some q => refused s .inUse [byte q.val]
  | none => success (s.setPattern p d) [flag (Table.read s.patterns p).isSome]

/-- DEFINE_PATTERN (R76 to R78). -/
def takeDefinePattern (pattern n rotation anchor ax ay : Byte) (pieces : Table 6 PieceBytes) (s : State) : Taken :=
  match below 32 pattern, rotationOf rotation, anchorOf anchor ax ay with
  | some p, some r, some a =>
    if n.toNat = 0 ∨ 6 < n.toNat then faulty s .fieldRange 0
    else
      match readPieces 0 (pieces.toList.take n.toNat) with
      | .error i => faulty s .fieldRange i
      | .ok ps =>
        let d : Pattern := { rotation := r, anchor := a, pieces := ps }
        match d.inconsistency with
        | some (f, i) => faulty s f i
        | none => s.changePattern p (some d)
  | _, _, _ => faulty s .fieldRange 0

/-- ERASE_PATTERN (R79). -/
def takeErasePattern (pattern : Byte) (s : State) : Taken :=
  match below 32 pattern with
  | none => badValue s
  | some p => s.changePattern p none

/-! ### Replies -/

/-- The byte of a tile's kind test (section 12.3). -/
def TileTest.code : TileTest → Byte
  | .anyTile => 0x80
  | .exact k => byte k.val
  | .family f => byte (64 + f.val)

/-- The byte of a piece's kind test (section 12.3). -/
def PieceTest.code : PieceTest → Byte
  | .tile t => t.code
  | .empty => 0xC0

def Rotation.code : Rotation → Byte
  | .fixed => 0
  | .turning => 1
  | .any => 2

/-- A signed offset as a byte. -/
def offsetByte (v : Int) : Byte := BitVec.ofInt 8 v

/-- The five bytes of a kept piece. -/
def Piece.bytes (p : Piece) : List Byte :=
  [offsetByte p.dx, offsetByte p.dy, p.test.code, (p.facing.map fun f => byte f.val).getD 0xFF,
    (p.side.map fun d => byte (d.bit + 1)).getD 0]

/-- A kept definition in the layout of the request body from its second byte (section 12.6, R173). -/
def Pattern.bytes (d : Pattern) (p : Fin 32) : List Byte :=
  fill 36
    ([byte p.val, byte d.pieces.length, d.rotation.code, flag d.anchor.isSome,
      (d.anchor.map fun b => byte b.x.val).getD 0, (d.anchor.map fun b => byte b.y.val).getD 0] ++
      d.pieces.flatMap Piece.bytes)

/-- How many quests that are not EMPTY name a pattern (R80). -/
def State.namedBy (s : State) (p : Fin 32) : Nat :=
  (List.finRange 24).countP fun q => decide ((s.quest q).state ≠ .empty) && (s.quest q).names p

/-- GET_PATTERN (R80). The defined flag is the presence byte of the definition, and the in-use flag that of the quest (DESIGN CHOICE, assumption 33). -/
def takeGetPattern (pattern : Byte) (s : State) : Taken :=
  match below 32 pattern with
  | none => badValue s
  | some p =>
    success s
      ((match Table.read s.patterns p with
        | some d => 1 :: d.bytes p
        | none => List.replicate 37 0) ++
        [byte (s.namedBy p)] ++ optByte ((s.usedBy p).map fun q => byte q.val))

/-- The owner filter of COUNT_PATTERN; the player is not checked with ANY (R89, R172). -/
def filterOf (form player : Byte) : Option OwnerFilter :=
  match form.toNat with
  | 0 => some .any
  | 1 => (below 5 player).map .owner
  | 2 => (below 5 player).map .placed
  | _ => none

/-- One listed anchor: its position, its cell and its first passing rotation (R89), to which R173 gives no width: it takes one byte (DESIGN CHOICE, assumption 35). -/
def anchorBytes (a : Pos × CellId × Fin 4) : List Byte :=
  [a.1.byte, CellAt.cellByte ⟨a.2.1, some a.1⟩, byte a.2.2.val]

/-- COUNT_PATTERN (R89, R90). -/
def takeCountPattern (pattern form player : Byte) (s : State) : Taken :=
  match below 32 pattern, filterOf form player with
  | some p, some f =>
    match Table.read s.patterns p with
    | none => refused s .noPattern [byte p.val]
    | some d =>
      let found := d.anchors s.view f
      success s
        ([byte found.length, byte (min 4 found.length)] ++ (found.take 4).flatMap anchorBytes ++ bytes16 s.epoch)
  | _, _ => badValue s

end Sys2Proof.Machine
end

