-- ==== Sys2Proof/Machine/QuestRequests.lean ====
section
/-!
DEFINITION. The requests of the Quest Engine (R109 to R117), with the checks of a quest definition.
-/

namespace Sys2Proof.Machine

open Sys2Proof

/-! ### Reading a definition (R107, R109) -/

/-- A value that must be in range, else FIELD_RANGE. -/
def ranged {α : Type} (v : Option α) : Except DefinitionFault α :=
  match v with
  | some a => .ok a
  | none => .error .fieldRange

/-- A number between bounds. -/
def within (lo hi v : Nat) : Option Nat := if lo ≤ v ∧ v ≤ hi then some v else none

/-- The kind test of COLLECT and CLEAR, where EMPTY is out of range (section 12.6). -/
def tileTestOf (b : Byte) : Option TileTest :=
  match pieceTestOf b with
  | some (.tile t) => some t
  | _ => none

/-- A stage's kind with the fields that kind uses, each in its range (R107). -/
def stageTestOf (t : StageBytes) : Option StageTest :=
  match t.kind.toNat with
  | 0 =>
    match below 32 t.pattern, within 1 8 t.m.toNat with
    | some p, some m => some (.form p m)
    | _, _ => none
  | 1 =>
    match below 32 t.pattern, within 1 8 t.m.toNat, within 1 2400 t.d.toNat with
    | some p, some m, some d => some (.hold p m d)
    | _, _, _ => none
  | 2 =>
    match tileTestOf t.kindTest, within 1 32 t.m.toNat with
    | some k, some m => some (.collect k m)
    | _, _ => none
  | 3 =>
    match tileTestOf t.kindTest, within 0 32 t.m.toNat with
    | some k, some m => some (.clear k m)
    | _, _ => none
  | _ => none

/-- A stage filter byte (section 12.3). -/
def stageFilterOf (b : Byte) : Option StageFilter :=
  match b.toNat with
  | 0 => some .any
  | 1 => some .questOwner
  | 2 => some .placedByOwner
  | _ => none

/-- A stage's filter on a quest with the given owner: a cooperative quest uses ANY (R107, R109). -/
def readFilter (owner : Player) (b : Byte) : Except DefinitionFault StageFilter :=
  match stageFilterOf b with
  | none => .error .fieldRange
  | some f => if owner = 0 ∧ f ≠ .any then .error .coopFilter else .ok f

/-- A stage's hint region: x0 of 0xFF is none, and then the other three bytes are not used (R109, R172). -/
def readHint (t : StageBytes) : Except DefinitionFault (Option Region) :=
  if t.x0 = 0xFF then .ok none
  else
    match below 16 t.x0, below 16 t.y0, below 16 t.x1, below 16 t.y1 with
    | some x0, some y0, some x1, some y1 =>
      if x0 ≤ x1 ∧ y0 ≤ y1 then .ok (some { x0 := x0, y0 := y0, x1 := x1, y1 := y1 }) else .error .hintOrder
    | _, _, _, _ => .error .fieldRange

/-- A stage's cue byte: 0xFF is none (section 12.6). -/
def cueOf (b : Byte) : Option (Option (Fin 16)) := if b = 0xFF then some none else (below 16 b).map some

/-- A stage record checked field by field in the order of R107 (R109; DEDUCED, assumption 20). -/
def readStage (owner : Player) (t : StageBytes) : Except DefinitionFault Stage := do
  let test ← ranged (stageTestOf t)
  let filter ← readFilter owner t.filter
  let reward ← ranged (within 0 250 t.reward.toNat)
  let limit ← ranged (within 0 4800 t.limit.toNat)
  let hint ← readHint t
  let cue ← ranged (cueOf t.cue)
  pure { test := test, filter := filter, reward := reward, limit := limit, hint := hint, cue := cue }

/-- The stage records from number `j`, or the first fault with the stage it names (R109). -/
def readStages (owner : Player) (j : Nat) : List StageBytes → Except (DefinitionFault × Nat) (List Stage)
  | [] => .ok []
  | b :: rest =>
    match readStage owner b with
    | .error f => .error (f, j)
    | .ok st =>
      match readStages owner (j + 1) rest with
      | .ok sts => .ok (st :: sts)
      | .error e => .error e

/-! ### Requests -/

/-- DEFINE_QUEST (R109, R110). -/
def takeDefineQuest (quest owner count : Byte) (stages : Table 4 StageBytes) (s : State) : Taken :=
  match below 24 quest with
  | none => faulty s .fieldRange 0
  | some q =>
    match below 5 owner with
    | none => faulty s .fieldRange 0
    | some o =>
      if count.toNat = 0 ∨ 4 < count.toNat then faulty s .fieldRange 0
      else
        match readStages o 0 (stages.toList.take count.toNat) with
        | .error (f, j) => faulty s f j
        | .ok sts =>
          if (s.quest q).inPlay then refused s .inPlay [(s.quest q).state.code]
          else
            success (s.setQuest q { state := .dormant, owner := o, stages := sts, progress := Progress.fresh })
              [(s.quest q).state.code]

/-- ERASE_QUEST (R111). -/
def takeEraseQuest (quest : Byte) (s : State) : Taken :=
  match below 24 quest with
  | none => badValue s
  | some q =>
    if (s.quest q).state = .running then refused s .inPlay [(s.quest q).state.code]
    else success ((s.setQuest q Quest.blank).leaveSet q) [(s.quest q).state.code]

/-- The first six bytes of a kept stage: its kind and the fields its kind uses, the others zeros (R109, section 12.6). -/
def StageTest.bytes (t : StageTest) : List Byte :=
  match t with
  | .form p m => [0, byte p.val, 0, byte m] ++ two 0
  | .hold p m d => [1, byte p.val, 0, byte m] ++ two d
  | .collect k m => [2, 0, k.code, byte m] ++ two 0
  | .clear k m => [3, 0, k.code, byte m] ++ two 0

/-- Section 12.3: stage filter codes. -/
def StageFilter.code : StageFilter → Byte
  | .any => 0
  | .questOwner => 1
  | .placedByOwner => 2

/-- The four bytes of a kept hint region. -/
def hintBytes (r : Option Region) : List Byte :=
  match r with
  | some r => [byte r.x0.val, byte r.y0.val, byte r.x1.val, byte r.y1.val]
  | none => [0xFF, 0, 0, 0]

/-- The fifteen bytes of a kept stage (section 12.6). -/
def Stage.bytes (st : Stage) : List Byte :=
  st.test.bytes ++ [st.filter.code, byte st.reward] ++ two st.limit ++ hintBytes st.hint ++
    [(st.cue.map fun c => byte c.val).getD 0xFF]

/-- A kept definition in the layout of the request body from its second byte (section 12.6, R173). -/
def Quest.definitionBytes (r : Quest) (q : QuestId) : List Byte :=
  fill 63 ([byte q.val, byte r.owner.val, byte r.stages.length] ++ r.stages.flatMap Stage.bytes)

/-- The progress record in a reply, in the order of R106. R173 gives a stage index no width: it takes one byte, as in SET_PROGRESS and the notices (DESIGN CHOICE, assumption 35). -/
def Progress.bytes (p : Progress) : List Byte :=
  byte p.stage :: (optThree p.started ++ optThree p.deadline ++ optThree p.remaining ++ optThree p.holdSince ++
    two p.earned ++ optByte (p.failReason.map FailReason.code))

/-- The ticks left of a RUNNING quest with a deadline (R117). -/
def State.ticksLeft (s : State) (q : QuestId) : Option Nat :=
  if (s.quest q).state = .running then (s.quest q).progress.deadline.map fun d => d - s.play.clock else none

/-- The ticks held of a RUNNING HOLD stage with hold_since present (R117). -/
def State.ticksHeld (s : State) (q : QuestId) : Option Nat :=
  match (s.quest q).state, (s.quest q).current.map Stage.test with
  | .running, some (.hold _ _ _) => (s.quest q).progress.holdSince.map fun h => s.play.clock - h
  | _, _ => none

/-- A quest is in the evaluated set of the pass in flight. -/
def State.inSet (s : State) (q : QuestId) : Bool :=
  match s.quests.pass with
  | some p => p.evaluated.any fun e => decide (e.1 = q)
  | none => false

/-- GET_QUEST (R117). -/
def takeGetQuest (quest : Byte) (s : State) : Taken :=
  match below 24 quest with
  | none => badValue s
  | some q =>
    let r := s.quest q
    if r.state = .empty then success s [r.state.code]
    else
      success s
        (r.state.code :: (r.definitionBytes q ++ r.progress.bytes ++ optThree (s.ticksLeft q) ++
          optThree (s.ticksHeld q) ++ [flag (s.inSet q)]))

/-- A quest with its progress rewritten and its state set. -/
def Quest.goes (r : Quest) (st : QuestState) (p : Progress) : Quest := { r with state := st, progress := p }

/-- A hint region, if any, posted for a quest (R126). -/
def State.postHint (s : State) (q : QuestId) (r : Option Region) : State :=
  match r with
  | some _ => s.setHint q r
  | none => s

/-- The progress of a quest started at a clock (R112). -/
def Quest.startProgress (r : Quest) (clock : Nat) : Progress :=
  { r.progress with
    stage := 0, started := some clock, deadline := deadlineFrom clock (r.limitOf 0), holdSince := none
    remaining := none }

/-- START_QUEST (R112). -/
def takeStartQuest (quest : Byte) (s : State) : Taken :=
  match below 24 quest with
  | none => badValue s
  | some q =>
    let r := s.quest q
    if r.state ≠ .dormant then refused s .questState [r.state.code]
    else
      match s.missingPattern r with
      | some p => refused s .noPattern [byte p.val]
      | none =>
        let s1 := (s.setQuest q (r.goes .running (r.startProgress s.play.clock))).wantPass
        success ((s1.postHint q (r.hintOf 0)).reportActivity).finish []

/-- The progress of a quest paused at a clock (R113). -/
def Quest.pauseProgress (r : Quest) (clock : Nat) : Progress :=
  { r.progress with
    remaining := r.progress.deadline.map fun d => d - clock, deadline := none, holdSince := none }

/-- PAUSE_QUEST (R113). Its reply carries the stage index in one byte (DESIGN CHOICE, assumption 35). -/
def takePauseQuest (quest : Byte) (s : State) : Taken :=
  match below 24 quest with
  | none => badValue s
  | some q =>
    let r := s.quest q
    if r.state ≠ .running then refused s .questState [r.state.code]
    else
      let p := r.pauseProgress s.play.clock
      let s1 := ((s.setQuest q (r.goes .paused p)).setHint q none).leaveSet q
      success s1.reportActivity.finish (byte p.stage :: optThree p.remaining)

/-- The progress of a quest resumed at a clock (R114). -/
def Quest.resumeProgress (r : Quest) (clock : Nat) : Progress :=
  match r.progress.remaining with
  | some t => { r.progress with deadline := some (min clockMax (clock + t)), remaining := none }
  | none => r.progress

/-- RESUME_QUEST (R114). -/
def takeResumeQuest (quest : Byte) (s : State) : Taken :=
  match below 24 quest with
  | none => badValue s
  | some q =>
    let r := s.quest q
    if r.state ≠ .paused then refused s .questState [r.state.code]
    else
      let s1 := (s.setQuest q (r.goes .running (r.resumeProgress s.play.clock))).wantPass
      success ((s1.postHint q (r.hintOf r.progress.stage)).reportActivity).finish []

/-- ABANDON_QUEST (R115). -/
def takeAbandonQuest (quest : Byte) (s : State) : Taken :=
  match below 24 quest with
  | none => badValue s
  | some q =>
    if (s.quest q).inPlay then success (s.failQuest q .abandoned).finish []
    else refused s .questState [(s.quest q).state.code]

/-- The progress of a quest put back to a stage at a clock (R116). -/
def Quest.setProgress (r : Quest) (stage earned clock : Nat) : Progress :=
  { stage := stage, started := some clock, deadline := none
    remaining := if r.limitOf stage = 0 then none else some (r.limitOf stage)
    holdSince := none, earned := earned, failReason := none }

/-- SET_PROGRESS (R116). -/
def takeSetProgress (quest stage : Byte) (earned : BitVec 16) (s : State) : Taken :=
  match below 24 quest with
  | none => badValue s
  | some q =>
    let r := s.quest q
    if 3 < stage.toNat ∨ 1500 < earned.toNat then badValue s
    else if r.state ≠ .empty ∧ r.stages.length ≤ stage.toNat then badValue s
    else if r.state = .empty then refused s .questState [r.state.code]
    else if r.inPlay then refused s .inPlay [r.state.code]
    else
      match s.missingPattern r with
      | some p => refused s .noPattern [byte p.val]
      | none =>
        success
          ((s.setQuest q (r.goes .paused (r.setProgress stage.toNat earned.toNat s.play.clock))).reportActivity) []

end Sys2Proof.Machine
end

