-- ==== Sys2Proof/Machine/Link.lean ====
section
/-!
DEFINITION. The Link Interface: frame assembly (R159), the judging of a complete frame (R160, R161), requests in hand (R162) and their replies (R163, R164).
-/

namespace Sys2Proof.Machine

open Sys2Proof

/-! ### Judging a frame -/

/-- The replies waiting, plus one when a request is in hand (R160 test 1). -/
def LinkUnit.owed (u : LinkUnit) : Nat := u.replies.length + if u.inHand.isSome then 1 else 0

/-- The most replies the transmitter's queue holds (R164). -/
def replyRoom : Nat := 8

/-- A reply of the Link Interface itself, without data (R160, R161). -/
def State.answer (s : State) (kind : Byte) (st : Status) : State :=
  s.pushReply { kind := kind, status := st, data := [] }

/-- A request handed to its owning block, and the block's answer appended as a reply; a request that stays in hand has none yet (R161, R162). -/
def State.take (s : State) (kind : Byte) (block : State → Taken) : State :=
  match block s with
  | (s1, some (st, data)) => s1.pushReply { kind := replyKind kind, status := st, data := data }
  | (s1, none) => s1

/-- The kind byte of HELLO (section 12.2). -/
def helloKind : Byte := 0x01

/-- The five tests of R160 on a complete frame with the given kind byte. -/
def State.judge (s : State) (matching : Bool) (kind : Byte) (block : State → Taken) : State :=
  if replyRoom ≤ s.link.owed then s
  else if !matching then s.answer 0x80 .badFrame
  else if s.rest.part = .starting ∧ kind ≠ helloKind then s.answer (replyKind kind) .starting
  else if s.link.inHand.isSome then s.answer (replyKind kind) .busy
  else s.take kind block

/-! ### The owning blocks (R161) -/

/-- A request handed to its owning block. No event comes out of a frame; its arm leaves the state as it is. -/
def takeRequest : Instr → State → Taken
  | .hello => takeHello
  | .status => takeStatus
  | .restart => takeRestart
  | .newGame => takeNewGame
  | .setRest d a => takeSetRest d a
  | .fetch k => takeFetch k
  | .setNoticeModes f q p b => takeSetNoticeModes f q p b
  | .placeSegment n ox oy h => takePlaceSegment n ox oy h
  | .unplaceSegment n => takeUnplaceSegment n
  | .getPlan => takeGetPlan
  | .parkLane n => takeParkLane n
  | .runLane n => takeRunLane n
  | .laneCheck n => takeLaneCheck n
  | .getCell f a b => takeGetCell f a b
  | .watchCell n c => takeWatchCell n c
  | .getWatch => takeGetWatch
  | .getBoard => takeGetBoard
  | .retireCell n c => takeRetireCell n c
  | .reinstateCell n c => takeReinstateCell n c
  | .getFirstFault => takeGetFirstFault
  | .clearFirstFault => takeClearFirstFault
  | .setSensing a l h f t => takeSetSensing a l h f t
  | .enroll x o b => takeEnroll x o b
  | .withdraw x => takeWithdraw x
  | .getTile x => takeGetTile x
  | .setRosterPolicy p e => takeSetRosterPolicy p e
  | .getTurn => takeGetTurn
  | .setTurn m n c k => takeSetTurn m n c k
  | .endTurn => takeEndTurn
  | .clockRun => takeClockRun
  | .clockPause => takeClockPause
  | .setClock v => takeSetClock v
  | .getScores => takeGetScores
  | .setScores a b c d t => takeSetScores a b c d t
  | .definePattern p n r a ax ay ps => takeDefinePattern p n r a ax ay ps
  | .erasePattern p => takeErasePattern p
  | .getPattern p => takeGetPattern p
  | .countPattern p f x => takeCountPattern p f x
  | .defineQuest q o n ts => takeDefineQuest q o n ts
  | .eraseQuest q => takeEraseQuest q
  | .getQuest q => takeGetQuest q
  | .startQuest q => takeStartQuest q
  | .pauseQuest q => takePauseQuest q
  | .resumeQuest q => takeResumeQuest q
  | .abandonQuest q => takeAbandonQuest q
  | .setProgress q t e => takeSetProgress q t e
  | .setLamps a b c d t => takeSetLamps a b c d t
  | .getLamps n => takeGetLamps n
  | .playCue c => takePlayCue c
  | .stopCues => takeStopCues
  | .setLoadLimit l => takeSetLoadLimit l
  | .receiveByte _ => fun s => (s, none)
  | .gapTimerExpiry => fun s => (s, none)
  | .replySent => fun s => (s, none)
  | .restartReset => fun s => (s, none)
  | .powerUp => fun s => (s, none)
  | .resetnAssert => fun s => (s, none)
  | .resetEnd => fun s => (s, none)
  | .startUpEnd => fun s => (s, none)
  | .guardSettleEnd => fun s => (s, none)
  | .tick _ => fun s => (s, none)
  | .holdComplete _ => fun s => (s, none)
  | .deadlineExpiry _ => fun s => (s, none)
  | .flashExpiry _ => fun s => (s, none)
  | .blinkPhaseChange => fun s => (s, none)
  | .cueEnd => fun s => (s, none)
  | .connectorSeen _ => fun s => (s, none)
  | .connectorLost _ => fun s => (s, none)
  | .linkSettleEnd _ => fun s => (s, none)
  | .holdTimerExpiry _ => fun s => (s, none)
  | .parkComplete _ => fun s => (s, none)
  | .scanPaceExpiry _ => fun s => (s, none)
  | .sweepTimer _ => fun s => (s, none)
  | .readSlotEnd _ _ => fun s => (s, none)
  | .lampSlotEnd _ => fun s => (s, none)
  | .checkSlotEnd _ _ => fun s => (s, none)
  | .passCommit => fun s => (s, none)
  | .activityTimerExpiry => fun s => (s, none)
  | .restEntry => fun s => (s, none)
  | .supplyLoss => fun s => (s, none)

/-- The owning block a frame's body goes to, after steps 1 and 2 of R161. -/
def blockOf (body : List Byte) : State → Taken :=
  match decodeBody body with
  | .ok i => takeRequest i
  | .error .unknownKind => fun s => answered s .unknownKind []
  | .error .badLength => fun s => answered s .badLength []

/-! ### Frame assembly (R159) -/

/-- The gap timer's time, ms (R159). -/
def gapTime : Nat := 20

/-- The assembler and its gap timer set. -/
def State.setAsm (s : State) (a : Assembler) (gap : Option Nat) : State :=
  { s with link := { s.link with asm := a, gap := gap } }

/-- A frame discarded: HUNTING, no bytes held, the gap timer stopped. -/
def State.hunt (s : State) : State := s.setAsm .hunting none

/-- A start byte: LENGTH, and a frame received reported to the Rest Controller. -/
def State.beginFrame (s : State) : State := (s.setAsm .length (some gapTime)).frameReceived

/-- A body and its check byte sum with LEN to a multiple of 256 (R158). -/
def frameMatches (len : Nat) (body : List Byte) (check : Byte) : Bool :=
  decide ((len + (body.map (·.toNat)).sum + check.toNat) % 256 = 0)

/-- A complete frame: the assembler HUNTING, the frame judged (R159, R160). -/
def State.completeFrame (s : State) (len : Nat) (body : List Byte) (check : Byte) : State :=
  s.hunt.judge (frameMatches len body check) (byteAt body 0) (blockOf body)

/-- One byte at the assembler: the table of R159. -/
def State.assemble (s : State) (b : RxByte) : State :=
  match s.link.asm, b with
  | .hunting, .good v => if v = requestStart then s.beginFrame else s
  | .hunting, .corrupt => s
  | .length, .good v =>
    if v = requestStart then s.beginFrame
    else if 1 ≤ v.toNat ∧ v.toNat ≤ 64 then s.setAsm (.body v.toNat []) (some gapTime)
    else s.hunt
  | .body len got, .good v =>
    s.setAsm (if len ≤ got.length + 1 then .check len (got ++ [v]) else .body len (got ++ [v])) (some gapTime)
  | .check len got, .good v => s.completeFrame len got v
  | .length, .corrupt => s.hunt
  | .body _ _, .corrupt => s.hunt
  | .check _ _, .corrupt => s.hunt

/-- A byte received: ignored once RESTART has been taken (R166). (DEDUCED, assumption 25) -/
def State.receive (s : State) (b : RxByte) : State := if s.link.ignoring then s else s.assemble b

/-! ### A request command (DESIGN CHOICE, assumption 1) -/

/-- The bytes of a request's frame on RXD. -/
def requestBytes (i : Instr) : List Byte := frameBytes requestStart ((encodeBody i).getD [])

/-- A request's kind byte. -/
def kindOf (i : Instr) : Byte := byteAt ((encodeBody i).getD []) 0

/-- A whole request frame arrives. With the assembler HUNTING it is reported at its start byte and judged at its check byte; in the middle of another frame its bytes are gathered one by one (DESIGN CHOICE, assumption 1). What the start byte reports comes before the request is taken, for STOP_CUES too (DESIGN CHOICE, assumption 36). -/
def State.request (s : State) (i : Instr) (block : State → Taken) : State :=
  if s.link.ignoring then s
  else if s.link.asm = .hunting then s.frameReceived.judge true (kindOf i) block
  else (requestBytes i).foldl (fun s b => s.receive (.good b)) s

end Sys2Proof.Machine
end

