-- ==== Sys2Proof/Machine/Events.lean ====
section
/-!
DEFINITION. The meanings of the 29 event commands: the line, reset and start-up, the tick and its parts, the lanes, the pass, rest.
An event whose condition does not hold cannot have happened and changes nothing (DESIGN CHOICE, assumption 4); none but POWER_UP, RESETN_ASSERT, SUPPLY_LOSS and RESET_END reaches a part held in reset (R168).
-/

namespace Sys2Proof.Machine

open Sys2Proof

/-! ### The line -/

/-- RECEIVE_BYTE (R159). -/
def execReceiveByte (b : RxByte) (s : State) : Host.Outcome State Fault Refusal := .next (s.live fun s => s.receive b)

/-- GAP_TIMER_EXPIRY (R159). -/
def execGapTimerExpiry (s : State) : Host.Outcome State Fault Refusal :=
  .next (s.live fun s => if s.link.gap.isSome then s.hunt else s)

/-- REPLY_SENT (R164): the head reply's last byte has been sent. That of the RESTART reply does not itself reset the part: RESTART_RESET is the event that does (R166; DESIGN CHOICE, assumption 37). -/
def execReplySent (s : State) : Host.Outcome State Fault Refusal :=
  .next (s.live fun s => { s with link := { s.link with replies := s.link.replies.tail } })

/-! ### Reset and start-up -/

/-- RESTART_RESET (R166, R168): RESTART taken and every queued reply sent; the reset and its end are one moment (DEDUCED, assumption 5). It is an event of its own, after the last REPLY_SENT, and other events may be taken between the two (DESIGN CHOICE, assumption 37). -/
def execRestartReset (s : State) : Host.Outcome State Fault Refusal :=
  .next (s.live fun s => if s.link.ignoring ∧ s.link.replies = [] then State.afterReset .restart s.pending else s)

/-- POWER_UP (R168): the supply has risen; the part is held in reset with cause POWER. -/
def execPowerUp (s : State) : Host.Outcome State Fault Refusal := .next { s with chip := .held .power }

/-- RESETN_ASSERT (R168): a part out of reset is held in reset with cause PIN; one already held keeps its cause (DEDUCED, assumption 5). -/
def execResetnAssert (s : State) : Host.Outcome State Fault Refusal :=
  .next (s.live fun s => { s with chip := .held .pin })

/-- SUPPLY_LOSS (R168): the supply is out of range until POWER_UP. -/
def execSupplyLoss (s : State) : Host.Outcome State Fault Refusal := .next { s with chip := .noSupply }

/-- RESET_END (R168): a part held in reset takes its reset values, with the cause as start reason. -/
def execResetEnd (s : State) : Host.Outcome State Fault Refusal :=
  .next
    (match s.chip with
      | .held cause => State.afterReset cause s.pending
      | .running => s
      | .noSupply => s)

/-- The lanes whose connector is present (R168). -/
def State.connectors (s : State) : Table 8 Bool := Table.each s.lanes fun _ u => u.connector

/-- The lanes that are RUNNING (R168). -/
def State.runningLanes (s : State) : Table 8 Bool := Table.each s.lanes fun _ u => decide (u.state = .running)

/-- The part becomes READY (R168 steps 1 to 3): the STARTED notice opens the Notice Unit (R155). -/
def State.becomeReady (s : State) : State :=
  let s1 :=
    { s with
      rest := { s.rest with part := .ready, startUp := none, activity := fullActivity s.rest.delay }
      notices := { s.notices with opened := true } }
  s1.notify (.started s.rest.startReason s.connectors s.runningLanes)

/-- START_UP_END (R168). -/
def execStartUpEnd (s : State) : Host.Outcome State Fault Refusal :=
  .next (s.live fun s => if s.rest.part = .starting ∧ s.rest.startUp.isSome then s.becomeReady else s)

/-- The guard's settle ends: evaluated as though HOLDING (R139). -/
def State.endSettle (s : State) : State :=
  { s with lamps := { s.lamps with settle := none } }.guardTo (guardNext .holding s.ln s.ld s.lamps.limit)

/-- GUARD_SETTLE_END (R139). -/
def execGuardSettleEnd (s : State) : Host.Outcome State Fault Refusal :=
  .next (s.live fun s => if s.lamps.guard = .settling ∧ s.lamps.settle.isSome then s.endSettle.finish else s)

/-! ### The tick and its parts -/

/-- The head cue's ticks run out; a part that waited for the sounder to rest now rests (R143, R169). -/
def State.endCue (s : State) : State := s.nextCue.restIfDue

/-- The head cue takes a tick (R143). -/
def State.tickCue (s : State) : State :=
  match s.lamps.sounder with
  | none => s
  | some n => if n ≤ 1 then s.endCue else { s with lamps := { s.lamps with sounder := some (n - 1) } }

/-- A tick at the Lamp and Sound Unit: flashes, blink, cue (R100, R133, R136, R143; DEDUCED, assumption 7). -/
def State.tickLamps (s : State) : State := s.tickFlashes.tickBlink.tickCue

/-- The tick generator's period timer starts again at 125 ms (R100). -/
def State.restartTick (s : State) : State := { s with play := { s.play with tickTimer := 125 } }

/-- TICK (R100): its two paths in the order given. (DEDUCED, assumption 7) -/
def execTick (order : TickOrder) (s : State) : Host.Outcome State Fault Refusal :=
  .next
    (s.live fun s =>
      match order with
      | .clockFirst => s.restartTick.tickClock.tickLamps.finish
      | .lampsFirst => s.restartTick.tickLamps.tickClock.finish)

/-- HOLD_COMPLETE (R124 test 1). (DEDUCED, assumption 8) -/
def execHoldComplete (quest : QuestId) (s : State) : Host.Outcome State Fault Refusal :=
  .next
    (s.live fun s =>
      match s.play.clockRunning, s.holdDue quest with
      | true, some st => (s.advance quest st true s.epoch).finish
      | _, _ => s)

/-- DEADLINE_EXPIRY (R124 test 2). (DEDUCED, assumption 8) -/
def execDeadlineExpiry (quest : QuestId) (s : State) : Host.Outcome State Fault Refusal :=
  .next
    (s.live fun s =>
      if s.play.clockRunning ∧ s.holdDue quest = none ∧ s.deadlineDue quest then (s.failQuest quest .time).finish else s)

/-- A quest's flash has one tick left, or none. -/
def State.flashDue (s : State) (q : QuestId) : Bool :=
  match Table.read s.lamps.flashes q with
  | some f => decide (f.left ≤ 1)
  | none => false

/-- A quest's flash removed, as one event at the lamps (R133). -/
def State.removeFlash (s : State) (q : QuestId) : State :=
  s.lampEvent fun s => { s with lamps := { s.lamps with flashes := Table.put s.lamps.flashes q none } }

/-- FLASH_EXPIRY (R133). (DEDUCED, assumption 8) -/
def execFlashExpiry (quest : QuestId) (s : State) : Host.Outcome State Fault Refusal :=
  .next (s.live fun s => if s.flashDue quest then (s.removeFlash quest).finish else s)

/-- BLINK_PHASE_CHANGE (R136). (DEDUCED, assumption 8) -/
def execBlinkPhaseChange (s : State) : Host.Outcome State Fault Refusal :=
  .next (s.live fun s => if 2 ≤ s.lamps.blinkCount + 1 then s.toggleBlink.finish else s)

/-- CUE_END (R143). (DEDUCED, assumption 8) -/
def execCueEnd (s : State) : Host.Outcome State Fault Refusal :=
  .next
    (s.live fun s =>
      match s.lamps.sounder with
      | some n => if n ≤ 1 then s.endCue.finish else s
      | none => s)

/-! ### The lanes -/

/-- The connector level of a lane as held for 2 ms (R15). -/
def State.setConnector (s : State) (n : Lane) (present : Bool) : State :=
  s.setLane n { s.lane n with connector := present }

/-- A lane put into LINKING from the given state, its hold timer going on (R16). -/
def State.beginLink (s : State) (n : Lane) (from_ : ReturnState) : State :=
  s.setLane n { s.lane n with state := .linking, returnState := some from_, settle := some 200 }

/-- A connector-seen event on a lane, by its state (R15, R16). -/
def State.seeConnector (s : State) (n : Lane) : State :=
  match (s.lane n).state with
  | .absent => (s.beginLink n .absent).wake (.connector n)
  | .lost => (s.beginLink n .lost).wake (.connector n)
  | .linking => s
  | .running => s
  | .parked => s

/-- CONNECTOR_SEEN (R16). -/
def execConnectorSeen (lane : Lane) (s : State) : Host.Outcome State Fault Refusal :=
  .next (s.live fun s => ((s.setConnector lane true).seeConnector lane).finish)

/-- A connector-lost event on a lane, by its state (R15, R17, R18). -/
def State.dropConnector (s : State) (n : Lane) : State :=
  match (s.lane n).state with
  | .running => (s.loseLane n).wake (.connector n)
  | .linking => (s.unlinkLane n).wake (.connector n)
  | .absent => s
  | .lost => s
  | .parked => s

/-- CONNECTOR_LOST (R18). -/
def execConnectorLost (lane : Lane) (s : State) : Host.Outcome State Fault Refusal :=
  .next (s.live fun s => ((s.setConnector lane false).dropConnector lane).finish)

/-- LINK_SETTLE_END (R17). -/
def execLinkSettleEnd (lane : Lane) (s : State) : Host.Outcome State Fault Refusal :=
  .next
    (s.live fun s =>
      if (s.lane lane).state = .linking ∧ (s.lane lane).settle.isSome then (s.linkLane lane).finish else s)

/-- HOLD_TIMER_EXPIRY (R19). -/
def execHoldTimerExpiry (lane : Lane) (s : State) : Host.Outcome State Fault Refusal :=
  .next (s.live fun s => if (s.lane lane).hold.isSome then (s.expireHold lane).finish else s)

/-- A park waits on the lane and its slot in flight has ended (R20). -/
def LaneUnit.parkDue (u : LaneUnit) : Bool := decide (u.state = .running) && u.parkWaiting && u.slot.isNone

/-- PARK_COMPLETE (R20). (DEDUCED, assumption 26) -/
def execParkComplete (lane : Lane) (s : State) : Host.Outcome State Fault Refusal :=
  .next (s.live fun s => if (s.lane lane).parkDue then (s.completePark lane).finish else s)

/-- The pace timer of a lane runs out: its scan begins waiting (R30). -/
def State.endPace (s : State) (n : Lane) : State := (s.setLane n { s.lane n with pace := none }).beginWaiting n

/-- SCAN_PACE_EXPIRY (R30). -/
def execScanPaceExpiry (lane : Lane) (s : State) : Host.Outcome State Fault Refusal :=
  .next
    (s.live fun s =>
      if (s.lane lane).state = .running ∧ (s.lane lane).mode = .normal ∧ (s.lane lane).pace.isSome then
        (s.endPace lane).finish
      else s)

/-- The sweep timer fires: it runs on, and a sweep starts unless one is in progress (R31). -/
def State.beginSweep (s : State) (n : Lane) : State :=
  let u := s.lane n
  if u.waiting then s.setLane n { u with sweepTimer := some 250 }
  else
    s.setLane n
      { u with
        sweepTimer := some 250, sweep := s.sweepFrom n 0, waiting := (s.sweepFrom n 0).isSome, fairness := 0 }

/-- SWEEP_TIMER (R31). -/
def execSweepTimer (lane : Lane) (s : State) : Host.Outcome State Fault Refusal :=
  .next
    (s.live fun s =>
      if (s.lane lane).state = .running ∧ (s.lane lane).sweepTimer.isSome then (s.beginSweep lane).finish else s)

/-- The cell and kind of the SENSE or CONFIRM slot in flight on a lane. -/
def State.readInFlight (s : State) (n : Lane) : Option (CellId × SlotKind) :=
  if (s.lane n).state = .running then
    match (s.lane n).slot with
    | some (.sense i) => some (⟨n, i⟩, .sense)
    | some (.confirm i) => some (⟨n, i⟩, .confirm)
    | some (.lamp _) => none
    | some .check => none
    | none => none
  else none

/-- A read slot ends: its raw result is delivered, the lane grants again, and a change of the cell wakes a RESTING part (R26, R38, R170). -/
def State.endRead (s : State) (c : CellId) (k : SlotKind) (r : RawResult) : State :=
  let s1 := s.setLane c.lane { s.lane c.lane with slot := none }
  let s2 := s1.takeOutcome c k r
  let s3 := s2.grant c.lane
  if wakes s1 s2 c then s3.wake (.tracker c) else s3

/-- READ_SLOT_END (R26): what the lane makes of the marks it heard goes to the tracker. -/
def execReadSlotEnd (lane : Lane) (marks : List Mark) (s : State) : Host.Outcome State Fault Refusal :=
  .next
    (s.live fun s =>
      match s.readInFlight lane with
      | some (c, k) => (s.endRead c k (hear false marks)).finish
      | none => s)

/-- The copied drives of the LAMP slot in flight on a lane. -/
def State.lampInFlight (s : State) (n : Lane) : Option (Table 12 Drive) :=
  if (s.lane n).state = .running then
    match (s.lane n).slot with
    | some (.lamp copy) => some copy
    | some (.sense _) => none
    | some (.confirm _) => none
    | some .check => none
    | none => none
  else none

/-- LAMP_SLOT_END (R32): the segment latch holds the copy. -/
def execLampSlotEnd (lane : Lane) (s : State) : Host.Outcome State Fault Refusal :=
  .next
    (s.live fun s =>
      match s.lampInFlight lane with
      | some copy => (s.setLane lane { s.lane lane with slot := none, latch := copy }).finish
      | none => s)

/-- A CHECK slot ends with its verdict (R34). -/
def State.endCheckSlot (s : State) (n : Lane) (r : RawResult) : State :=
  (s.setLane n { s.lane n with slot := none }).endCheck n (checkVerdict r) r

/-- CHECK_SLOT_END (R34). -/
def execCheckSlotEnd (lane : Lane) (marks : List Mark) (s : State) : Host.Outcome State Fault Refusal :=
  .next
    (s.live fun s =>
      if (s.lane lane).state = .running ∧ (s.lane lane).slot = some .check then
        (s.endCheckSlot lane (hear true marks)).finish
      else s)

/-! ### The evaluation pass and rest -/

/-- PASS_COMMIT (R121): the pass in flight commits, and a wanted pass starts (R119). -/
def execPassCommit (s : State) : Host.Outcome State Fault Refusal :=
  .next (s.live fun s => if s.quests.pass.isSome then s.commitPass.finish else s)

/-- A running activity timer. -/
def ActivityTimer.runs : ActivityTimer → Bool
  | .running _ => true
  | .stopped => false
  | .expired => false

/-- ACTIVITY_TIMER_EXPIRY (R169): the part rests at once if the sounder is idle. -/
def execActivityTimerExpiry (s : State) : Host.Outcome State Fault Refusal :=
  .next
    (s.live fun s =>
      if s.rest.activity.runs then { s with rest := { s.rest with activity := .expired } }.restIfDue.finish else s)

/-- REST_ENTRY (R169): a part whose activity timer has expired rests once its sounder is idle. (DEDUCED, assumption 8) -/
def execRestEntry (s : State) : Host.Outcome State Fault Refusal := .next (s.live fun s => s.restIfDue.finish)

end Sys2Proof.Machine
end

