-- ==== Sys2Proof/Machine/Requests.lean ====
section
/-!
DEFINITION. The meanings of the 51 request commands: each is its whole frame arriving at the Link Interface, with the block that owns it (R160 to R162).
-/

namespace Sys2Proof.Machine

open Sys2Proof

/-- HELLO (R165). -/
def execHello (s : State) : Host.Outcome State Fault Refusal :=
  .next (s.live fun s => s.request .hello takeHello)

/-- STATUS (R154). -/
def execStatus (s : State) : Host.Outcome State Fault Refusal :=
  .next (s.live fun s => s.request .status takeStatus)

/-- RESTART (R166). -/
def execRestart (s : State) : Host.Outcome State Fault Refusal :=
  .next (s.live fun s => s.request .restart takeRestart)

/-- NEW_GAME (R129). -/
def execNewGame (s : State) : Host.Outcome State Fault Refusal :=
  .next (s.live fun s => s.request .newGame takeNewGame)

/-- SET_REST (R169). -/
def execSetRest (delay : BitVec 16) (autoPause : Byte) (s : State) : Host.Outcome State Fault Refusal :=
  .next (s.live fun s => s.request (.setRest delay autoPause) (takeSetRest delay autoPause))

/-- FETCH (R153). -/
def execFetch (k : Byte) (s : State) : Host.Outcome State Fault Refusal :=
  .next (s.live fun s => s.request (.fetch k) (takeFetch k))

/-- SET_NOTICE_MODES (R148). -/
def execSetNoticeModes (fault : Byte) (quest : Byte) (play : Byte) (board : Byte) (s : State) :
    Host.Outcome State Fault Refusal :=
  .next
    (s.live fun s =>
      s.request (.setNoticeModes fault quest play board)
        (takeSetNoticeModes fault quest play board))

/-- PLACE_SEGMENT (R5). -/
def execPlaceSegment (lane : Byte) (ox : Byte) (oy : Byte) (h : Byte) (s : State) :
    Host.Outcome State Fault Refusal :=
  .next (s.live fun s => s.request (.placeSegment lane ox oy h) (takePlaceSegment lane ox oy h))

/-- UNPLACE_SEGMENT (R6). -/
def execUnplaceSegment (lane : Byte) (s : State) : Host.Outcome State Fault Refusal :=
  .next (s.live fun s => s.request (.unplaceSegment lane) (takeUnplaceSegment lane))

/-- GET_PLAN (R7). -/
def execGetPlan (s : State) : Host.Outcome State Fault Refusal :=
  .next (s.live fun s => s.request .getPlan takeGetPlan)

/-- PARK_LANE (R20). -/
def execParkLane (lane : Byte) (s : State) : Host.Outcome State Fault Refusal :=
  .next (s.live fun s => s.request (.parkLane lane) (takeParkLane lane))

/-- RUN_LANE (R21). -/
def execRunLane (lane : Byte) (s : State) : Host.Outcome State Fault Refusal :=
  .next (s.live fun s => s.request (.runLane lane) (takeRunLane lane))

/-- LANE_CHECK (R33). -/
def execLaneCheck (lane : Byte) (s : State) : Host.Outcome State Fault Refusal :=
  .next (s.live fun s => s.request (.laneCheck lane) (takeLaneCheck lane))

/-- GET_CELL (R59). -/
def execGetCell (form : Byte) (a : Byte) (b : Byte) (s : State) : Host.Outcome State Fault Refusal :=
  .next (s.live fun s => s.request (.getCell form a b) (takeGetCell form a b))

/-- WATCH_CELL (R63). -/
def execWatchCell (lane : Byte) (slot : Byte) (s : State) : Host.Outcome State Fault Refusal :=
  .next (s.live fun s => s.request (.watchCell lane slot) (takeWatchCell lane slot))

/-- GET_WATCH (R64). -/
def execGetWatch (s : State) : Host.Outcome State Fault Refusal :=
  .next (s.live fun s => s.request .getWatch takeGetWatch)

/-- GET_BOARD (R60). -/
def execGetBoard (s : State) : Host.Outcome State Fault Refusal :=
  .next (s.live fun s => s.request .getBoard takeGetBoard)

/-- RETIRE_CELL (R51). -/
def execRetireCell (lane : Byte) (slot : Byte) (s : State) : Host.Outcome State Fault Refusal :=
  .next (s.live fun s => s.request (.retireCell lane slot) (takeRetireCell lane slot))

/-- REINSTATE_CELL (R52). -/
def execReinstateCell (lane : Byte) (slot : Byte) (s : State) : Host.Outcome State Fault Refusal :=
  .next (s.live fun s => s.request (.reinstateCell lane slot) (takeReinstateCell lane slot))

/-- GET_FIRST_FAULT (R62). -/
def execGetFirstFault (s : State) : Host.Outcome State Fault Refusal :=
  .next (s.live fun s => s.request .getFirstFault takeGetFirstFault)

/-- CLEAR_FIRST_FAULT (R62). -/
def execClearFirstFault (s : State) : Host.Outcome State Fault Refusal :=
  .next (s.live fun s => s.request .clearFirstFault takeClearFirstFault)

/-- SET_SENSING (R37). -/
def execSetSensing (arriveN : Byte) (liftN : Byte) (hold : Byte) (floor : Byte) (target : Byte) (s : State) :
    Host.Outcome State Fault Refusal :=
  .next
    (s.live fun s =>
      s.request (.setSensing arriveN liftN hold floor target)
        (takeSetSensing arriveN liftN hold floor target))

/-- ENROLL (R67). -/
def execEnroll (serial : BitVec 24) (owner : Byte) (banned : Byte) (s : State) : Host.Outcome State Fault Refusal :=
  .next (s.live fun s => s.request (.enroll serial owner banned) (takeEnroll serial owner banned))

/-- WITHDRAW (R68). -/
def execWithdraw (serial : BitVec 24) (s : State) : Host.Outcome State Fault Refusal :=
  .next (s.live fun s => s.request (.withdraw serial) (takeWithdraw serial))

/-- GET_TILE (R71). -/
def execGetTile (serial : BitVec 24) (s : State) : Host.Outcome State Fault Refusal :=
  .next (s.live fun s => s.request (.getTile serial) (takeGetTile serial))

/-- SET_ROSTER_POLICY (R69). -/
def execSetRosterPolicy (policy : Byte) (editions : BitVec 32) (s : State) : Host.Outcome State Fault Refusal :=
  .next (s.live fun s => s.request (.setRosterPolicy policy editions) (takeSetRosterPolicy policy editions))

/-- GET_TURN (R99). -/
def execGetTurn (s : State) : Host.Outcome State Fault Refusal :=
  .next (s.live fun s => s.request .getTurn takeGetTurn)

/-- SET_TURN (R94). -/
def execSetTurn (mode : Byte) (np : Byte) (current : Byte) (movesPerTurn : Byte) (s : State) :
    Host.Outcome State Fault Refusal :=
  .next (s.live fun s => s.request (.setTurn mode np current movesPerTurn) (takeSetTurn mode np current movesPerTurn))

/-- END_TURN (R97). -/
def execEndTurn (s : State) : Host.Outcome State Fault Refusal :=
  .next (s.live fun s => s.request .endTurn takeEndTurn)

/-- CLOCK_RUN (R101). -/
def execClockRun (s : State) : Host.Outcome State Fault Refusal :=
  .next (s.live fun s => s.request .clockRun takeClockRun)

/-- CLOCK_PAUSE (R101). -/
def execClockPause (s : State) : Host.Outcome State Fault Refusal :=
  .next (s.live fun s => s.request .clockPause takeClockPause)

/-- SET_CLOCK (R102). -/
def execSetClock (value : BitVec 24) (s : State) : Host.Outcome State Fault Refusal :=
  .next (s.live fun s => s.request (.setClock value) (takeSetClock value))

/-- GET_SCORES (R105). -/
def execGetScores (s : State) : Host.Outcome State Fault Refusal :=
  .next (s.live fun s => s.request .getScores takeGetScores)

/-- SET_SCORES (R105). -/
def execSetScores (p1 : BitVec 16) (p2 : BitVec 16) (p3 : BitVec 16) (p4 : BitVec 16) (team : BitVec 16) (s : State) :
    Host.Outcome State Fault Refusal :=
  .next (s.live fun s => s.request (.setScores p1 p2 p3 p4 team) (takeSetScores p1 p2 p3 p4 team))

/-- DEFINE_PATTERN (R78). -/
def execDefinePattern (pattern : Byte) (n : Byte) (rotation : Byte) (anchor : Byte) (ax : Byte) (ay : Byte) (pieces : Table 6 PieceBytes) (s : State) :
    Host.Outcome State Fault Refusal :=
  .next
    (s.live fun s =>
      s.request (.definePattern pattern n rotation anchor ax ay pieces)
        (takeDefinePattern pattern n rotation anchor ax ay pieces))

/-- ERASE_PATTERN (R79). -/
def execErasePattern (pattern : Byte) (s : State) : Host.Outcome State Fault Refusal :=
  .next (s.live fun s => s.request (.erasePattern pattern) (takeErasePattern pattern))

/-- GET_PATTERN (R80). -/
def execGetPattern (pattern : Byte) (s : State) : Host.Outcome State Fault Refusal :=
  .next (s.live fun s => s.request (.getPattern pattern) (takeGetPattern pattern))

/-- COUNT_PATTERN (R89). -/
def execCountPattern (pattern : Byte) (form : Byte) (player : Byte) (s : State) : Host.Outcome State Fault Refusal :=
  .next (s.live fun s => s.request (.countPattern pattern form player) (takeCountPattern pattern form player))

/-- DEFINE_QUEST (R110). -/
def execDefineQuest (quest : Byte) (owner : Byte) (count : Byte) (stages : Table 4 StageBytes) (s : State) :
    Host.Outcome State Fault Refusal :=
  .next (s.live fun s => s.request (.defineQuest quest owner count stages) (takeDefineQuest quest owner count stages))

/-- ERASE_QUEST (R111). -/
def execEraseQuest (quest : Byte) (s : State) : Host.Outcome State Fault Refusal :=
  .next (s.live fun s => s.request (.eraseQuest quest) (takeEraseQuest quest))

/-- GET_QUEST (R117). -/
def execGetQuest (quest : Byte) (s : State) : Host.Outcome State Fault Refusal :=
  .next (s.live fun s => s.request (.getQuest quest) (takeGetQuest quest))

/-- START_QUEST (R112). -/
def execStartQuest (quest : Byte) (s : State) : Host.Outcome State Fault Refusal :=
  .next (s.live fun s => s.request (.startQuest quest) (takeStartQuest quest))

/-- PAUSE_QUEST (R113). -/
def execPauseQuest (quest : Byte) (s : State) : Host.Outcome State Fault Refusal :=
  .next (s.live fun s => s.request (.pauseQuest quest) (takePauseQuest quest))

/-- RESUME_QUEST (R114). -/
def execResumeQuest (quest : Byte) (s : State) : Host.Outcome State Fault Refusal :=
  .next (s.live fun s => s.request (.resumeQuest quest) (takeResumeQuest quest))

/-- ABANDON_QUEST (R115). -/
def execAbandonQuest (quest : Byte) (s : State) : Host.Outcome State Fault Refusal :=
  .next (s.live fun s => s.request (.abandonQuest quest) (takeAbandonQuest quest))

/-- SET_PROGRESS (R116). -/
def execSetProgress (quest : Byte) (stage : Byte) (earned : BitVec 16) (s : State) :
    Host.Outcome State Fault Refusal :=
  .next (s.live fun s => s.request (.setProgress quest stage earned) (takeSetProgress quest stage earned))

/-- SET_LAMPS (R132). -/
def execSetLamps (x0 : Byte) (y0 : Byte) (x1 : Byte) (y1 : Byte) (setting : Byte) (s : State) :
    Host.Outcome State Fault Refusal :=
  .next (s.live fun s => s.request (.setLamps x0 y0 x1 y1 setting) (takeSetLamps x0 y0 x1 y1 setting))

/-- GET_LAMPS (R142). -/
def execGetLamps (lane : Byte) (s : State) : Host.Outcome State Fault Refusal :=
  .next (s.live fun s => s.request (.getLamps lane) (takeGetLamps lane))

/-- PLAY_CUE (R144). -/
def execPlayCue (cue : Byte) (s : State) : Host.Outcome State Fault Refusal :=
  .next (s.live fun s => s.request (.playCue cue) (takePlayCue cue))

/-- STOP_CUES (R145). -/
def execStopCues (s : State) : Host.Outcome State Fault Refusal :=
  .next (s.live fun s => s.request .stopCues takeStopCues)

/-- SET_LOAD_LIMIT (R141). -/
def execSetLoadLimit (limit : Byte) (s : State) : Host.Outcome State Fault Refusal :=
  .next (s.live fun s => s.request (.setLoadLimit limit) (takeSetLoadLimit limit))

end Sys2Proof.Machine
end

