-- ==== Sys2Proof/Machine/Dispatch.lean ====
section
/-!
DEFINITION. One arm per command: each is one direct call of its meaning.
-/

namespace Sys2Proof.Machine

open Sys2Proof

/-- The effect of a command on everything but the queue. -/
def exec (i : Instr) (s : State) : Host.Outcome State Fault Refusal :=
  match i with
  | .hello => Sys2Proof.Machine.execHello s
  | .status => Sys2Proof.Machine.execStatus s
  | .restart => Sys2Proof.Machine.execRestart s
  | .newGame => Sys2Proof.Machine.execNewGame s
  | .setRest delay autoPause => Sys2Proof.Machine.execSetRest delay autoPause s
  | .fetch k => Sys2Proof.Machine.execFetch k s
  | .setNoticeModes fault quest play board => Sys2Proof.Machine.execSetNoticeModes fault quest play board s
  | .placeSegment lane ox oy h => Sys2Proof.Machine.execPlaceSegment lane ox oy h s
  | .unplaceSegment lane => Sys2Proof.Machine.execUnplaceSegment lane s
  | .getPlan => Sys2Proof.Machine.execGetPlan s
  | .parkLane lane => Sys2Proof.Machine.execParkLane lane s
  | .runLane lane => Sys2Proof.Machine.execRunLane lane s
  | .laneCheck lane => Sys2Proof.Machine.execLaneCheck lane s
  | .getCell form a b => Sys2Proof.Machine.execGetCell form a b s
  | .watchCell lane slot => Sys2Proof.Machine.execWatchCell lane slot s
  | .getWatch => Sys2Proof.Machine.execGetWatch s
  | .getBoard => Sys2Proof.Machine.execGetBoard s
  | .retireCell lane slot => Sys2Proof.Machine.execRetireCell lane slot s
  | .reinstateCell lane slot => Sys2Proof.Machine.execReinstateCell lane slot s
  | .getFirstFault => Sys2Proof.Machine.execGetFirstFault s
  | .clearFirstFault => Sys2Proof.Machine.execClearFirstFault s
  | .setSensing arriveN liftN hold floor target => Sys2Proof.Machine.execSetSensing arriveN liftN hold floor target s
  | .enroll serial owner banned => Sys2Proof.Machine.execEnroll serial owner banned s
  | .withdraw serial => Sys2Proof.Machine.execWithdraw serial s
  | .getTile serial => Sys2Proof.Machine.execGetTile serial s
  | .setRosterPolicy policy editions => Sys2Proof.Machine.execSetRosterPolicy policy editions s
  | .getTurn => Sys2Proof.Machine.execGetTurn s
  | .setTurn mode np current movesPerTurn => Sys2Proof.Machine.execSetTurn mode np current movesPerTurn s
  | .endTurn => Sys2Proof.Machine.execEndTurn s
  | .clockRun => Sys2Proof.Machine.execClockRun s
  | .clockPause => Sys2Proof.Machine.execClockPause s
  | .setClock value => Sys2Proof.Machine.execSetClock value s
  | .getScores => Sys2Proof.Machine.execGetScores s
  | .setScores p1 p2 p3 p4 team => Sys2Proof.Machine.execSetScores p1 p2 p3 p4 team s
  | .definePattern pattern n rotation anchor ax ay pieces => Sys2Proof.Machine.execDefinePattern pattern n rotation anchor ax ay pieces s
  | .erasePattern pattern => Sys2Proof.Machine.execErasePattern pattern s
  | .getPattern pattern => Sys2Proof.Machine.execGetPattern pattern s
  | .countPattern pattern form player => Sys2Proof.Machine.execCountPattern pattern form player s
  | .defineQuest quest owner count stages => Sys2Proof.Machine.execDefineQuest quest owner count stages s
  | .eraseQuest quest => Sys2Proof.Machine.execEraseQuest quest s
  | .getQuest quest => Sys2Proof.Machine.execGetQuest quest s
  | .startQuest quest => Sys2Proof.Machine.execStartQuest quest s
  | .pauseQuest quest => Sys2Proof.Machine.execPauseQuest quest s
  | .resumeQuest quest => Sys2Proof.Machine.execResumeQuest quest s
  | .abandonQuest quest => Sys2Proof.Machine.execAbandonQuest quest s
  | .setProgress quest stage earned => Sys2Proof.Machine.execSetProgress quest stage earned s
  | .setLamps x0 y0 x1 y1 setting => Sys2Proof.Machine.execSetLamps x0 y0 x1 y1 setting s
  | .getLamps lane => Sys2Proof.Machine.execGetLamps lane s
  | .playCue cue => Sys2Proof.Machine.execPlayCue cue s
  | .stopCues => Sys2Proof.Machine.execStopCues s
  | .setLoadLimit limit => Sys2Proof.Machine.execSetLoadLimit limit s
  | .receiveByte b => Sys2Proof.Machine.execReceiveByte b s
  | .gapTimerExpiry => Sys2Proof.Machine.execGapTimerExpiry s
  | .replySent => Sys2Proof.Machine.execReplySent s
  | .restartReset => Sys2Proof.Machine.execRestartReset s
  | .powerUp => Sys2Proof.Machine.execPowerUp s
  | .resetnAssert => Sys2Proof.Machine.execResetnAssert s
  | .resetEnd => Sys2Proof.Machine.execResetEnd s
  | .startUpEnd => Sys2Proof.Machine.execStartUpEnd s
  | .guardSettleEnd => Sys2Proof.Machine.execGuardSettleEnd s
  | .tick order => Sys2Proof.Machine.execTick order s
  | .holdComplete quest => Sys2Proof.Machine.execHoldComplete quest s
  | .deadlineExpiry quest => Sys2Proof.Machine.execDeadlineExpiry quest s
  | .flashExpiry quest => Sys2Proof.Machine.execFlashExpiry quest s
  | .blinkPhaseChange => Sys2Proof.Machine.execBlinkPhaseChange s
  | .cueEnd => Sys2Proof.Machine.execCueEnd s
  | .connectorSeen lane => Sys2Proof.Machine.execConnectorSeen lane s
  | .connectorLost lane => Sys2Proof.Machine.execConnectorLost lane s
  | .linkSettleEnd lane => Sys2Proof.Machine.execLinkSettleEnd lane s
  | .holdTimerExpiry lane => Sys2Proof.Machine.execHoldTimerExpiry lane s
  | .parkComplete lane => Sys2Proof.Machine.execParkComplete lane s
  | .scanPaceExpiry lane => Sys2Proof.Machine.execScanPaceExpiry lane s
  | .sweepTimer lane => Sys2Proof.Machine.execSweepTimer lane s
  | .readSlotEnd lane marks => Sys2Proof.Machine.execReadSlotEnd lane marks s
  | .lampSlotEnd lane => Sys2Proof.Machine.execLampSlotEnd lane s
  | .checkSlotEnd lane marks => Sys2Proof.Machine.execCheckSlotEnd lane marks s
  | .passCommit => Sys2Proof.Machine.execPassCommit s
  | .activityTimerExpiry => Sys2Proof.Machine.execActivityTimerExpiry s
  | .restEntry => Sys2Proof.Machine.execRestEntry s
  | .supplyLoss => Sys2Proof.Machine.execSupplyLoss s

end Sys2Proof.Machine
end

