-- ==== Sys2Proof/Machine/Outputs.lean ====
section
/-!
DEFINITION. What the part's lines show, as functions of its state: TXD, the lane power lines LDn with the lamps they feed, and SND. ATTN is `State.attn`.
-/

namespace Sys2Proof.Machine

open Sys2Proof

/-- TXD stands at its idle high level: while the part is held in reset, and while no reply waits (R157, R164, R168). A waiting reply is taken as being sent: how soon it begins is timing (DESIGN CHOICE, assumption 34). -/
def State.txdIdle (s : State) : Bool := decide (s.chip ≠ .running) || s.link.replies.isEmpty

/-- The bytes of the reply that TXD is sending: the frame of the head reply (R158, R164). -/
def State.txFrame (s : State) : List Byte :=
  if s.txdIdle then [] else (s.link.replies.head?.map Reply.frame).getD []

/-- What TXD has carried of the reply being sent once `k` of its bytes have gone whole. REPLY_SENT is the event at which all of them have; a reset that comes before it cuts the reply off after these (R164, R166). Which `k` a reset finds is timing (DESIGN CHOICE, assumption 34). -/
def State.txSent (s : State) (k : Nat) : List Byte := s.txFrame.take k

/-- Lane `n` supplies power on LDn: in LINKING and RUNNING, and never while the part is held in reset (R14, R168). -/
def State.lanePowered (s : State) (n : Lane) : Bool :=
  decide (s.chip = .running) && decide ((s.lane n).state = .linking ∨ (s.lane n).state = .running)

/-- The drives the lamps of lane `n`'s segment show: what its latch holds, and all off while the line is unpowered (section 2.6, R16, R32, R168). -/
def State.segmentLamps (s : State) (n : Lane) : Table 12 Drive :=
  if s.lanePowered n then (s.lane n).latch else Table.full 12 .off

/-- The cue whose sound SND carries: the head of the cue queue while the sounder plays, and none while the part is held in reset (R143, R168). -/
def State.sound (s : State) : Option (Fin 16) :=
  if s.chip = .running ∧ s.lamps.sounder.isSome then s.lamps.cues.head? else none

end Sys2Proof.Machine
end

