-- ==== Sys2Proof/Safety.lean ====
section
/-!
DEFINITION. What the rules say holds at all times, each a property of one state, in the terms the statements use; and the state in which a request is heard and taken.
-/

namespace Sys2Proof.Machine

open Sys2Proof

/-! ### The Board Plan -/

/-- Every placed lane lies on the grid, and no board position lies in two footprints (R3, R4). -/
def State.planLawful (s : State) : Prop :=
  (∀ n p, Table.read s.plan n = some p → p.onGrid = true) ∧
    ∀ n m p q b, Table.read s.plan n = some p → Table.read s.plan m = some q →
      p.covers b = true → q.covers b = true → n = m

/-! ### The map -/

/-- Incumbent and candidate are present by state as the second table of R36 says. -/
def CellRec.present (r : CellRec) : Bool :=
  match r.state with
  | .vacant => r.incumbent.isNone && r.candidate.isNone
  | .arriving => r.incumbent.isNone && r.candidate.isSome
  | .seated => r.incumbent.isSome && r.candidate.isNone
  | .shifting => r.incumbent.isSome && r.candidate.isSome
  | .lifting => r.incumbent.isSome && r.candidate.isNone
  | .twin => r.incumbent.isNone && r.candidate.isSome
  | .suspect => r.candidate.isNone
  | .held => r.incumbent.isSome && r.candidate.isNone
  | .retired => r.incumbent.isNone && r.candidate.isNone

/-- The arrive count lies in 1 to 8, and below 8 while it is still counting (R36, R37, R44, R46). -/
def CellRec.arriveInRange (r : CellRec) : Bool :=
  match r.candidate with
  | none => true
  | some c => decide (1 ≤ c.arrive) && decide (c.arrive ≤ if r.state = .twin then 8 else 7)

/-- The counts of a cell lie in their ranges, and suspect entries are 3 in a RETIRED cell alone (R36). -/
def CellRec.counted (r : CellRec) : Bool :=
  r.arriveInRange && decide (r.lift ≤ 15) && decide (r.absent ≤ 2) && decide (r.score ≤ 15) &&
    decide (r.entries ≤ 3) && decide (r.entries = 3 → r.state = .retired) && decide (r.peak ≤ 255)

/-- The sensing parameters lie in their ranges (R37). -/
def Sensing.inRange (v : Sensing) : Prop :=
  1 ≤ v.arriveN ∧ v.arriveN ≤ 8 ∧ 1 ≤ v.liftN ∧ v.liftN ≤ 15 ∧ v.hold ≤ 255 ∧
    ∀ n, 8 ≤ Table.read v.floors n ∧ Table.read v.floors n ≤ 96

/-- The sensing parameters and every cell record are as R36 and R37 say. -/
def State.cellsLawful (s : State) : Prop :=
  s.sensing.inRange ∧ ∀ c, (s.cell c).present = true ∧ (s.cell c).counted = true

/-- A given serial is the incumbent of at most one cell (R44). -/
def State.serialsUnique (s : State) : Prop :=
  ∀ c d x, (s.cell c).holds x = true → (s.cell d).holds x = true → c = d

/-! ### The Tile Roster -/

/-- At most 192 entries, no two with one serial, in rising order (R65; the order is DESIGN CHOICE, assumption 24). -/
def Roster.lawful (r : Roster) : Prop :=
  r.entries.length ≤ rosterRoom ∧ r.entries.Pairwise fun d e => d.serial.toNat < e.serial.toNat

/-! ### The Quest Engine -/

/-- A quest record's state, stages and progress agree (R106, R112 to R116). -/
def Quest.lawful (r : Quest) : Prop :=
  (r.state = .empty → r.stages = []) ∧
    (r.state ≠ .empty → 1 ≤ r.stages.length ∧ r.stages.length ≤ 4 ∧ r.progress.stage ≤ r.stages.length ∧
      (r.progress.stage = r.stages.length ↔ r.state = .done)) ∧
    r.progress.earned ≤ 1500 ∧
    (r.progress.failReason.isSome = true ↔ r.state = .failed) ∧
    (r.progress.deadline.isSome = true → r.state = .running) ∧
    (r.progress.remaining.isSome = true → r.state = .paused) ∧
    (r.progress.holdSince.isSome = true → r.state = .running)

/-- Quests, the pass in flight, the patterns in use and the posted hints agree (R106, R108, R120, R126). -/
def State.questsLawful (s : State) : Prop :=
  (∀ q, (s.quest q).lawful) ∧
    (∀ p, s.quests.pass = some p → ∀ e ∈ p.evaluated,
      (s.quest e.1).state = .running ∧ (s.quest e.1).progress.stage = e.2) ∧
    (∀ q, (s.quest q).inPlay = true → s.missingPattern (s.quest q) = none) ∧
    ∀ q, Table.read s.lamps.hints q =
      if (s.quest q).state = .running then (s.quest q).hintOf (s.quest q).progress.stage else none

/-- With pass-wanted set a pass is in flight (R119). -/
def State.passLawful (s : State) : Prop := s.quests.passWanted = true → s.quests.pass.isSome = true

/-! ### Ranges -/

/-- The turn record, the clock and the scores lie in their ranges (R93). -/
def PlayRecord.inRange (p : PlayRecord) : Prop :=
  1 ≤ p.np ∧ (if p.turns = true then 1 ≤ p.current ∧ p.current ≤ p.np else p.current = 0) ∧
    1 ≤ p.turnNumber ∧ p.turnNumber ≤ 65535 ∧ p.moves ≤ 255 ∧ p.movesPerTurn ≤ 9 ∧ p.clock ≤ clockMax ∧
    ∀ k, Table.read p.scores k ≤ scoreMax

/-- Flashes, the blink count, the load limit, the cue queue and the sounder lie in their ranges, and the sounder plays exactly while the queue holds a cue (R131, R143). -/
def LampUnit.inRange (u : LampUnit) : Prop :=
  (∀ q f, Table.read u.flashes q = some f → 1 ≤ f.left ∧ f.left ≤ 8) ∧ u.blinkCount ≤ 1 ∧
    16 ≤ u.limit ∧ u.limit ≤ 200 ∧ u.cues.length ≤ cueRoom ∧ (u.sounder.isSome = true ↔ u.cues ≠ [])

/-- The notice queue holds at most 32 notices, and the dropped count at most 255 (R146). -/
def NoticeUnit.inRange (u : NoticeUnit) : Prop := u.queue.length ≤ noticeRoom ∧ u.dropped ≤ 255

/-! ### The lanes -/

/-- What a lane holds agrees with its state (R14, R16 to R22, R27 to R31, R33). -/
def LaneUnit.lawful (u : LaneUnit) : Prop :=
  (u.returnState.isSome = true ↔ u.state = .linking) ∧ (u.settle.isSome = true ↔ u.state = .linking) ∧
    (u.hold.isSome = true → u.state = .lost ∨ u.state = .linking ∧ u.returnState = some .lost) ∧
    (u.state ≠ .running → u.slot = none ∧ u.confirms = [] ∧ u.waiting = false ∧ u.pace = none ∧
      u.sweepTimer = none ∧ u.checkPending = false ∧ u.parkWaiting = false ∧ u.latch = Table.full 12 .off) ∧
    u.confirms.Nodup ∧ u.fairness ≤ 2

/-! ### The link -/

/-- The assembler holds what its state says, and its gap timer runs exactly while it is in a frame (R159). -/
def LinkUnit.assembling (u : LinkUnit) : Prop :=
  (u.asm = .hunting ↔ u.gap = none) ∧
    match u.asm with
    | .hunting => True
    | .length => True
    | .body len got => got.length < len ∧ len ≤ 64
    | .check len got => got.length = len ∧ 1 ≤ len ∧ len ≤ 64

/-- The transmitter never owes more than 8 replies, and a lane's pending check or waiting park is the request in hand (R33, R162, R164). -/
def State.linkLawful (s : State) : Prop :=
  s.link.owed ≤ replyRoom ∧ s.link.assembling ∧
    ∀ n, (((s.lane n).checkPending = true ∨ (s.lane n).slot = some .check) → s.link.inHand = some (.laneCheck n)) ∧
      ((s.lane n).parkWaiting = true → s.link.inHand = some (.parkLane n))

/-! ### Rest and start-up -/

/-- The part state agrees with the start-up timer, the activity timer, the auto-paused flag and the Notice Unit (R155, R167). -/
def State.restLawful (s : State) : Prop :=
  (s.rest.part = .starting ↔ s.rest.startUp.isSome = true) ∧
    (s.notices.opened = true ↔ s.rest.part ≠ .starting) ∧
    (s.rest.activity ≠ .stopped → s.rest.part = .ready ∧ s.rest.delay ≠ 0) ∧
    (s.rest.autoPaused = true → s.rest.part = .resting) ∧
    (s.rest.delay = 0 ∨ 10 ≤ s.rest.delay ∧ s.rest.delay ≤ 3600)

/-! ### A request heard -/

/-- A request frame that arrives now is assembled whole and taken: the part runs, hears, is between frames, and has neither a request in hand nor a full reply queue (R159, R160). -/
def State.hearing (s : State) : Prop :=
  s.chip = .running ∧ s.link.ignoring = false ∧ s.link.asm = .hunting ∧ s.link.inHand = none ∧
    s.link.replies.length < replyRoom

/-- The part is READY and takes requests. -/
def State.listening (s : State) : Prop := s.hearing ∧ s.rest.part = .ready

/-- A request of kind `k` answered SUCCESS with the given data: its reply at the tail of the transmitter's queue (R163, R164). -/
def State.replied (s : State) (k : Byte) (data : List Byte) : State :=
  s.pushReply { kind := replyKind k, status := .success, data := data }

/-- A request of kind `k` answered with the given status and data. -/
def State.repliedWith (s : State) (k : Byte) (st : Status) (data : List Byte) : State :=
  s.pushReply { kind := replyKind k, status := st, data := data }

/-! ### What an event leaves alone -/

/-- The parts of the state, for statements of what an event leaves unchanged. -/
inductive Component where
  | chip
  | rest
  | plan
  | lanes
  | cells
  | epoch
  | sensing
  | firstFault
  | watch
  | roster
  | patterns
  | quests
  | play
  | lamps
  | notices
  | link
  | pending
  deriving DecidableEq, Repr

/-- A part is the same in two states. -/
def Component.same (k : Component) (s t : State) : Prop :=
  match k with
  | .chip => t.chip = s.chip
  | .rest => t.rest = s.rest
  | .plan => t.plan = s.plan
  | .lanes => t.lanes = s.lanes
  | .cells => t.cells = s.cells
  | .epoch => t.epoch = s.epoch
  | .sensing => t.sensing = s.sensing
  | .firstFault => t.firstFault = s.firstFault
  | .watch => t.watch = s.watch
  | .roster => t.roster = s.roster
  | .patterns => t.patterns = s.patterns
  | .quests => t.quests = s.quests
  | .play => t.play = s.play
  | .lamps => t.lamps = s.lamps
  | .notices => t.notices = s.notices
  | .link => t.link = s.link
  | .pending => t.pending = s.pending

/-- `t` is `s` in every part but those listed. -/
def State.sameBut (s t : State) (changed : List Component) : Prop := ∀ k, k ∉ changed → k.same s t

/-- What a lane transition or a request changes of a lane, and a grant of the arbiter or a lamp does not (R14). -/
def LaneUnit.steady (u v : LaneUnit) : Prop :=
  v.state = u.state ∧ v.returnState = u.returnState ∧ v.settle = u.settle ∧ v.hold = u.hold ∧ v.mode = u.mode ∧
    v.sweepTimer = u.sweepTimer ∧ v.checkPending = u.checkPending ∧ v.parkWaiting = u.parkWaiting ∧
    v.connector = u.connector ∧ v.latch = u.latch

/-- Every lane is steady. -/
def State.lanesSteady (s t : State) : Prop := ∀ n, (s.lane n).steady (t.lane n)

/-- Every lane but `n` is steady. -/
def State.otherLanesSteady (s t : State) (n : Lane) : Prop := ∀ m, m ≠ n → (s.lane m).steady (t.lane m)

/-- The event wanted a pass: it has started if none was in flight, and waits for the one in flight otherwise (R119). -/
def State.passFollows (s t : State) : Prop :=
  t.quests.records = s.quests.records ∧
    if s.quests.pass = none then t.quests.passWanted = false ∧ t.quests.pass.isSome = true
    else t.quests.pass = s.quests.pass ∧ t.quests.passWanted = true

/-- A change of load moved nothing at the lamps but the guard, and queued nothing unless the guard moved (R138, R140). -/
def State.guardAlone (s t : State) : Prop :=
  t.lamps = { s.lamps with guard := t.lamps.guard } ∧ (t.lamps.guard = s.lamps.guard → t.notices = s.notices)

/-- The last notice of the queue has the given body. -/
def State.lastNotice (s : State) (b : NoticeBody) : Prop := s.notices.queue.getLast?.map (·.body) = some b

/-- Notices of a class are numbered and filed, with room for two in the queue (R148, R150, R155). -/
def State.files (s : State) (c : NoticeClass) : Prop :=
  s.notices.opened = true ∧ s.notices.modes.of c ≠ .off ∧ s.notices.queue.length + 2 ≤ noticeRoom

/-- A GUARD notice. -/
def NoticeBody.isGuard : NoticeBody → Bool
  | .guard .. => true
  | _ => false

/-- From `s` to `t` the notices given were made, in their order, with no other among them but GUARD notices, which a change of load may queue between any two (R140). -/
def State.filed (s t : State) (told : List NoticeBody) : Prop :=
  ∃ bs : List NoticeBody, t.notices = (bs.foldl State.notify s).notices ∧ (bs.filter fun b => !b.isGuard) = told

/-! ### What an event does to a lane -/

/-- Lane `n` stood as `v` when its arbiter looked for a grant, and is in `t` as that grant left it (R22, R27). -/
def State.laneGoes (t : State) (n : Lane) (v : LaneUnit) : Prop := t.lane n = ((t.setLane n v).grant n).lane n

/-- A lane whose read slot has ended, with a CONFIRM of slot `i` asked for or not: listed at the tail, or merged where it is listed already (R28). -/
def LaneUnit.slotEnded (u : LaneUnit) (i : Slot) (asks : Bool) : LaneUnit :=
  { u with slot := none, confirms := if asks = true ∧ i ∉ u.confirms then u.confirms ++ [i] else u.confirms }

/-- What a retirement between `s` and `t` makes of its lane, which stood as `u`: stale if a drive changed (R32), and its scan asking for nothing if it has no cell left to read (R30, R31). (DEDUCED, assumption 22) -/
def State.laneRetires (s t : State) (n : Lane) (u : LaneUnit) : LaneUnit :=
  let v : LaneUnit := { u with stale := u.stale || decide (s.laneDrive n ≠ t.laneDrive n) }
  if ∀ i : Slot, (t.cell ⟨n, i⟩).state = .retired then { v with waiting := false, pace := none, sweep := none }
  else if u.mode = .sweep ∧ u.waiting = true ∧
      ∀ i : Slot, (∃ j, u.sweep = some j ∧ j ≤ i) → (t.cell ⟨n, i⟩).state = .retired then
    { v with waiting := false, sweep := none }
  else v

/-- A lane whose drives changed between `s` and `t` is stale, or while it is RUNNING loads the new drives (R32, R136). -/
def State.drivesFollow (s t : State) : Prop :=
  ∀ n, s.laneDrive n ≠ t.laneDrive n →
    (t.lane n).stale = true ∨ (s.lane n).state = .running ∧ (t.lane n).slot = some (.lamp (t.laneDrive n))

/-- One event at the lamps that did not move the guard marked stale the lanes whose drives it changed and did nothing more to any lane before the arbiters looked for a grant (R32, R136). -/
def State.drivesAlone (s t : State) : Prop :=
  t.lamps.guard = s.lamps.guard →
    ∀ n, t.laneGoes n
      { s.lane n with stale := (s.lane n).stale || decide (s.laneDrive n ≠ t.laneDrive n) }

/-! ### What a read leaves in the map -/

/-- The record of cell `d` with tile `x` seated on it now, placed by player `who` (R11, R44, R53, R58). -/
def State.seatedRecord (s : State) (d : CellId) (x : TileRead) (who : Player) : CellRec :=
  { s.cell d with
    state := .seated, candidate := none, lift := 0, absent := 0
    incumbent :=
      some
        { tile := x
          facing := x.pad + match Table.read s.plan d.lane with | some p => p.h | none => 0
          placedBy := who
          seatedAt := s.play.clock
          counting := (s.roster.verdict x.serial x.edition).1
          owner := (s.roster.verdict x.serial x.edition).2 } }

/-- The ARRIVAL notice of a twin promoted on cell `d` (R53, R57). -/
def State.promotedNotice (s : State) (d : CellId) (x : TileRead) : NoticeBody :=
  .arrival ⟨d, s.position d⟩ x (x.pad + match Table.read s.plan d.lane with | some p => p.h | none => 0) true

/-- The Notice Unit after board changes in a row, each with the epoch it raised in its notice (R57). -/
def State.committed (s : State) (told : List NoticeBody) : NoticeUnit :=
  (told.foldl (fun u b => State.notify { u with epoch := u.epoch + 1 } b) s).notices

/-- The twins promoted when incumbents leave the board, in the order in which they leave (R53). -/
def State.promotions (s : State) (gone : List Incumbent) : List (CellId × TileRead) :=
  gone.filterMap fun i => s.firstTwin i.tile.serial

/-- The tiles of a lane's HELD cells in slot order, the cells being as `at_` says (R56). -/
def heldTiles (at_ : CellId → CellRec) (n : Lane) : List Incumbent :=
  (laneCells n).filterMap fun c => if (at_ c).state = .held then (at_ c).incumbent else none

/-- A move ends no turn: FREE mode, or no number of moves per turn (R95). -/
def State.movesFreely (s : State) : Prop := s.play.turns = false ∨ s.play.movesPerTurn = 0

/-- The play record after an ARRIVAL or SWAP on each of the listed cells, where a move ends no turn (R57, R95). -/
def State.playMoved (s : State) (cells : List CellId) : PlayRecord :=
  let placed := cells.countP fun d => (s.position d).isSome
  if s.play.turns = true ∧ placed ≠ 0 then { s.play with moves := min 255 (s.play.moves + placed) } else s.play

/-- From `s` to `t` the board change `first` was committed and then the listed twins promoted, in their order and as things stood, every other cell being left as `at_` says; where moves end no turn each has its promoted ARRIVAL, after the notices in `u`, and its move (R53, R57). -/
def State.promotesAll (s t : State) (at_ : CellId → CellRec) (u : NoticeUnit) (first : NoticeBody)
    (twins : List (CellId × TileRead)) : Prop :=
  (∀ c, (∀ x, (c, x) ∉ twins) → t.cell c = at_ c) ∧
    (∀ d x, (d, x) ∈ twins →
      ∃ who, t.cell d = s.seatedRecord d x who ∧
        (s.movesFreely ∨ twins.head? = some (d, x) → who = s.play.current)) ∧
    t.epoch = s.epoch + BitVec.ofNat 16 (1 + twins.length) ∧ s.passFollows t ∧ t.rest = s.reportActivity.rest ∧
    (s.movesFreely →
      t.play = s.playMoved (twins.map fun e => e.1) ∧
        t.notices =
          { s with notices := u }.committed (first :: twins.map fun (d, x) => s.promotedNotice d x))

/-- A raw result of the watched cell is in the trace, a full trace having lost its oldest entry and overrun; a result of another cell leaves the watch alone (R38, R63). -/
def State.traces (s t : State) (c : CellId) (k : SlotKind) (raw : RawResult) : Prop :=
  let threshold := max (Table.read s.sensing.floors c.lane) ((s.cell c).peak / 2)
  let outcome : OutcomeKind :=
    match raw.kind with
    | .decoded _ => if threshold ≤ raw.amplitude then .good else .weak
    | .absent => .absent
    | .garbled => .garbled
    | .parity _ => .parity
    | .stalled => .stalled
  let serial : Option Serial :=
    match raw.kind with
    | .decoded code => some code.serial
    | .absent | .garbled | .parity _ | .stalled => none
  let entry : TraceEntry :=
    { slotKind := k, outcome := outcome, amplitude := raw.amplitude, threshold := threshold
      guarded := decide (s.lamps.guard = .holding ∨ s.lamps.guard = .settling), serial := serial
      clock := s.play.clock }
  (s.watch.cell ≠ some c → t.watch = s.watch) ∧
    (s.watch.cell = some c →
      (s.watch.trace.length < 16 → t.watch = { s.watch with trace := s.watch.trace ++ [entry] }) ∧
        (16 ≤ s.watch.trace.length →
          t.watch = { s.watch with trace := s.watch.trace.tail ++ [entry], overrun := true }))

/-! ### What is on the lines -/

/-- The 36 marks of a code, the first at `first`, `period` apart, all of height `height` on one pad, a 1 as a pulse of three quarters of the period and a 0 as one of a quarter. -/
def idealReply (bits : List Bool) (pad : Fin 4) (first period height : Nat) : List Mark :=
  bits.zipIdx.map fun (b, i) =>
    { pad := pad, start := first + i * (4 * period), width := if b then 3 * period else period
      positive := decide (i % 2 = 0), height := height }

/-- The 36 bits of a 32-bit code word: each byte least significant bit first, then the parity bit that makes symbols 0 and 2 odd and symbols 1 and 3 even (R174). -/
def codeBits (w : BitVec 32) : List Bool :=
  (List.finRange 4).flatMap fun k =>
    let bits := (List.finRange 8).map fun j => w.getLsbD (8 * k.val + j.val)
    bits ++ [xor (decide (k.val % 2 = 0)) (decide (bits.count true % 2 = 1))]

/-- The bytes of a list taken one by one from RXD. -/
def feed : List Byte → State → Host.Outcome State Fault Refusal
  | [], s => .next s
  | b :: rest, s =>
    match exec (.receiveByte (.good b)) s with
    | .next t => feed rest t
    | .fault f => .fault f
    | .refused r => .refused r

end Sys2Proof.Machine
end

