-- ==== Sys2Proof/Certificates/Slice0/Obligations.lean ====
section
/-!
DEFINITION. The statements: what each command does, what it leaves alone, and what every step keeps.
A request is stated for a part that hears it (`State.listening`, `State.hearing`); what happens to one that does not is `FramesJudgedInOrder`.
A clause that rests on the model's own choice names its assumption.
-/

open Sys2Proof Sys2Proof.Machine

/-! ### The queue, reset and the line -/

/-- The command at the front of the queue is run on the state with the queue's rest; an empty queue idles (the model's own field, assumptions 1 and 2). -/
def Obligations.StepRunsTheFrontCommand : Prop :=
  ∀ (c : Instr) (rest : List Instr) (s : State),
    (s.pending = c :: rest → step s = exec c { s with pending := rest }) ∧ (s.pending = [] → step s = .next s)

/-- RESET_END on a part held in reset gives every block the reset values of R1, R14, R36, R37, R57, R61, R63, R65, R74, R93, R106, R131, R146, R159, R162, R164 and R167. The lane fields the tables do not list (scan, latch) are assumptions 21 and 22. -/
def Obligations.ResetEndRestoresEveryBlock : Prop :=
  ∀ (cause : StartReason) (s : State), s.chip = .held cause →
    ∃ t, exec .resetEnd s = .next t ∧ t.chip = .running ∧ t.pending = s.pending ∧
      t.rest = { part := .starting, startUp := some 300, startReason := cause, delay := 120, autoPause := true
                 activity := .stopped, autoPaused := false } ∧
      (∀ n, Table.read t.plan n = none) ∧
      (∀ n, t.lane n =
        { state := .absent, returnState := none, settle := none, hold := none, mode := .normal, pointer := 0
          waiting := false, pace := none, sweepTimer := none, sweep := none, confirms := [], fairness := 0
          stale := false, slot := none, checkPending := false, parkWaiting := false, connector := false
          latch := Table.full 12 .off }) ∧
      (∀ c, t.cell c =
        { state := .vacant, incumbent := none, candidate := none, lift := 0, absent := 0, score := 0, entries := 0
          peak := 0 }) ∧
      t.epoch = 0 ∧
      (t.sensing.arriveN = 3 ∧ t.sensing.liftN = 4 ∧ t.sensing.hold = 50 ∧ ∀ n, Table.read t.sensing.floors n = 24) ∧
      t.firstFault = none ∧ t.watch = { cell := none, trace := [], overrun := false } ∧
      (t.roster.entries = [] ∧ t.roster.closed = false ∧ ∀ e : Fin 32, t.roster.editions.getLsbD e.val = true) ∧
      (∀ p, Table.read t.patterns p = none) ∧
      (∀ q, (t.quest q).state = .empty) ∧ t.quests.passWanted = false ∧ t.quests.pass = none ∧
      (t.play.turns = false ∧ t.play.np = 1 ∧ t.play.current = 0 ∧ t.play.turnNumber = 1 ∧ t.play.moves = 0 ∧
        t.play.movesPerTurn = 0 ∧ t.play.clock = 0 ∧ t.play.clockRunning = false ∧ t.play.tickTimer = 125 ∧
        ∀ k, Table.read t.play.scores k = 0) ∧
      ((∀ c, t.hostSetting c = .free) ∧ (∀ q, Table.read t.lamps.hints q = none) ∧
        (∀ q, Table.read t.lamps.flashes q = none) ∧ t.lamps.phaseOn = true ∧ t.lamps.blinkCount = 0 ∧
        t.lamps.guard = .settling ∧ t.lamps.settle = some 300 ∧ t.lamps.limit = 96 ∧ t.lamps.cues = [] ∧
        t.lamps.sounder = none) ∧
      t.notices = { queue := [], modes := { fault := .loud, quest := .loud, play := .loud, board := .quiet }
                    next := 0, dropped := 0, opened := false } ∧
      t.link = { asm := .hunting, gap := none, inHand := none, replies := [], ignoring := false }

/-- POWER_UP, SUPPLY_LOSS and RESETN_ASSERT hold the part in reset with its cause; while it is held ATTN is released, TXD is high, no lane is powered and no segment lamp lit (R168). RESTART is answered; when its queued replies have been sent RESTART_RESET is a whole reset with reason RESTART, and not before (R166, R168). That RESTART_RESET is an event of its own, so that others may be taken between the last REPLY_SENT and it, is the model's choice, assumption 37. The rest is the model's own reading: a held part takes no event but these and RESET_END, and RESETN leaves it its cause (assumption 5); after RESTART every byte and request is ignored, which R166 says of received bytes and the model of request commands as well (assumption 25); an event whose timer does not run, or whose slot, pass, quest or cue is not there, changes nothing (assumptions 4 and 8). TXD is taken as sending while a reply waits, its head whole at REPLY_SENT, and a reset that comes before cuts it off after some of its bytes (assumption 34). -/
def Obligations.EventsNotTaken : Prop :=
  (∀ (i : Instr) (s : State),
    exec .powerUp s = .next { s with chip := .held .power } ∧
      exec .supplyLoss s = .next { s with chip := .noSupply } ∧
      (s.chip = .running → exec .resetnAssert s = .next { s with chip := .held .pin }) ∧
      (s.chip ≠ .running → s.attn = false) ∧
      (s.chip ≠ .running → i ≠ .powerUp → i ≠ .supplyLoss → i ≠ .resetEnd → exec i s = .next s) ∧
      (s.chip = .noSupply → exec .resetEnd s = .next s)) ∧
  (∀ (i : Instr) (b : RxByte) (s : State),
    (s.listening →
      exec .restart s =
        .next ({ s.reportActivity with link := { s.link with ignoring := true } }.replied 0x03 [])) ∧
      (s.chip = .running → s.link.ignoring = true →
        exec (.receiveByte b) s = .next s ∧ ((encodeBody i).isSome = true → exec i s = .next s) ∧
          (s.link.replies = [] →
            ∃ t, exec .restartReset s = .next t ∧ exec .resetEnd { s with chip := .held .restart } = .next t ∧
              t = { State.reset with rest := { State.reset.rest with startReason := .restart }, pending := s.pending } ∧
              t.chip = .running ∧
              t.rest = { part := .starting, startUp := some 300, startReason := .restart, delay := 120, autoPause := true
                         activity := .stopped, autoPaused := false } ∧
              (∀ n, Table.read t.plan n = none ∧ (t.lane n).state = .absent) ∧
              (∀ c, (t.cell c).state = .vacant ∧ t.hostSetting c = .free) ∧ t.epoch = 0 ∧ t.firstFault = none ∧
              t.roster.entries = [] ∧ (∀ p, Table.read t.patterns p = none) ∧ (∀ q, (t.quest q).state = .empty) ∧
              t.play.clock = 0 ∧ t.play.clockRunning = false ∧ (∀ k, Table.read t.play.scores k = 0) ∧
              t.lamps.guard = .settling ∧ t.lamps.cues = [] ∧ t.notices.queue = [] ∧ t.notices.opened = false ∧
              t.link = { asm := .hunting, gap := none, inHand := none, replies := [], ignoring := false }) ∧
          (s.link.replies ≠ [] → exec .restartReset s = .next s))) ∧
  (∀ (n : Lane) (q : QuestId) (marks : List Mark) (s : State), s.chip = .running →
    (s.link.gap = none → exec .gapTimerExpiry s = .next s) ∧
      ((s.lane n).state ≠ .linking → exec (.linkSettleEnd n) s = .next s) ∧
      ((s.lane n).hold = none → exec (.holdTimerExpiry n) s = .next s) ∧
      ((s.lane n).state ≠ .running →
        exec (.scanPaceExpiry n) s = .next s ∧ exec (.sweepTimer n) s = .next s ∧ exec (.lampSlotEnd n) s = .next s ∧
          exec (.parkComplete n) s = .next s) ∧
      (s.readInFlight n = none → exec (.readSlotEnd n marks) s = .next s) ∧
      ((s.lane n).slot ≠ some .check → exec (.checkSlotEnd n marks) s = .next s) ∧
      (s.quests.pass = none → exec .passCommit s = .next s) ∧
      ((s.quest q).state ≠ .running →
        exec (.holdComplete q) s = .next s ∧ exec (.deadlineExpiry q) s = .next s) ∧
      (Table.read s.lamps.flashes q = none → exec (.flashExpiry q) s = .next s) ∧
      (s.lamps.blinkCount = 0 → exec .blinkPhaseChange s = .next s) ∧
      (s.lamps.sounder = none → exec .cueEnd s = .next s) ∧ (s.rest.startUp = none → exec .startUpEnd s = .next s) ∧
      (s.lamps.settle = none → exec .guardSettleEnd s = .next s) ∧
      (s.rest.activity = .stopped → exec .activityTimerExpiry s = .next s)) ∧
  (∀ (cause : StartReason) (n : Lane) (k : Nat) (r : Reply) (rest : List Reply) (s : State),
    let dark : Table 12 Drive := Table.full 12 .off
    let unlit (t : State) : Prop :=
      t.txdIdle = true ∧ t.txFrame = [] ∧ t.lanePowered n = false ∧ t.segmentLamps n = dark ∧ t.sound = none
    (s.chip ≠ .running → unlit s) ∧
      (s.chip = .running →
        (∃ t, exec .resetnAssert s = .next t ∧ unlit t) ∧ (∃ t, exec .powerUp s = .next t ∧ unlit t) ∧
        (∃ t, exec .supplyLoss s = .next t ∧ unlit t) ∧
        (s.link.replies = [] → s.txdIdle = true ∧ s.txFrame = []) ∧
        (s.link.replies = r :: rest →
          s.txdIdle = false ∧ s.txFrame = frameBytes 0x5A (r.kind :: r.status.code :: r.data) ∧
            s.txSent k = s.txFrame.take k) ∧
        (s.lanePowered n = true ↔ (s.lane n).state = .linking ∨ (s.lane n).state = .running) ∧
        s.segmentLamps n = (if s.lanePowered n then (s.lane n).latch else dark) ∧
        (s.lamps.sounder = none → s.sound = none) ∧ (s.lamps.sounder.isSome = true → s.sound = s.lamps.cues.head?)) ∧
      (s.chip = .held cause → ∃ t, exec .resetEnd s = .next t ∧ unlit t))

/-- The receive frame assembler's table, its gap timer, and its report of a frame received (R159); a sent reply leaves the head of the transmitter's queue (R164). -/
def Obligations.AssemblerFollowsItsTable : Prop :=
  ∀ (len : Nat) (got : List Byte) (v : Byte) (s : State), s.chip = .running →
    let put (a : Assembler) (gap : Option Nat) : State := { s with link := { s.link with asm := a, gap := gap } }
    (exec .replySent s = .next { s with link := { s.link with replies := s.link.replies.drop 1 } }) ∧
      (s.link.gap.isSome = true → exec .gapTimerExpiry s = .next (put .hunting none)) ∧
      (s.link.ignoring = false →
        (s.link.asm = .hunting → v ≠ 0xA5 → exec (.receiveByte (.good v)) s = .next s) ∧
        (s.link.asm = .hunting → exec (.receiveByte .corrupt) s = .next s) ∧
        (s.link.asm ≠ .hunting → exec (.receiveByte .corrupt) s = .next (put .hunting none)) ∧
        (s.link.asm = .hunting ∨ s.link.asm = .length →
          (s.rest.part ≠ .resting →
            exec (.receiveByte (.good 0xA5)) s = .next (put .length (some 20)).reportActivity) ∧
          (s.rest.part = .resting →
            ∃ t, exec (.receiveByte (.good 0xA5)) s = .next t ∧ t.rest.part = .ready ∧
              t.link = { s.link with asm := .length, gap := some 20 })) ∧
        (s.link.asm = .length → 1 ≤ v.toNat → v.toNat ≤ 64 →
          exec (.receiveByte (.good v)) s = .next (put (.body v.toNat []) (some 20))) ∧
        (s.link.asm = .length → v ≠ 0xA5 → v = 0 ∨ 65 ≤ v.toNat →
          exec (.receiveByte (.good v)) s = .next (put .hunting none)) ∧
        (s.link.asm = .body len got → got.length + 1 < len →
          exec (.receiveByte (.good v)) s = .next (put (.body len (got ++ [v])) (some 20))) ∧
        (s.link.asm = .body len got → got.length + 1 = len →
          exec (.receiveByte (.good v)) s = .next (put (.check len (got ++ [v])) (some 20))) ∧
        (s.link.asm = .check len got →
          ∃ t, exec (.receiveByte (.good v)) s = .next t ∧ t.link.asm = .hunting ∧ t.link.gap = none))

/-- A complete frame is judged at its check byte by the five tests in order; one that is taken goes on to the owning block after the tests of its kind and its length. A request that finds the part STARTING, another in hand, or no room for its reply is not taken: only a reply is formed, or nothing at all; a RESTING part is woken first, and the request is then taken as by a READY one (R160, R161). -/
def Obligations.FramesJudgedInOrder : Prop :=
  (∀ (len : Nat) (got : List Byte) (v : Byte) (s : State), s.chip = .running → s.link.ignoring = false →
    s.link.asm = .check len got →
    let u := { s with link := { s.link with asm := .hunting, gap := none } }
    let waiting := s.link.replies.length + if s.link.inHand.isSome then 1 else 0
    let kind := got.headD 0
    let sum := len + (got.map (·.toNat)).sum + v.toNat
    let answers (st : Status) := exec (.receiveByte (.good v)) s = .next (u.repliedWith kind st [])
    (8 ≤ waiting → exec (.receiveByte (.good v)) s = .next u) ∧
      (waiting < 8 → sum % 256 ≠ 0 →
        exec (.receiveByte (.good v)) s = .next (u.pushReply { kind := 0x80, status := .badFrame, data := [] })) ∧
      (waiting < 8 → sum % 256 = 0 → s.rest.part = .starting → kind ≠ 0x01 → answers .starting) ∧
      (waiting < 8 → sum % 256 = 0 → (s.rest.part = .starting → kind = 0x01) → s.link.inHand.isSome = true →
        answers .busy) ∧
      (waiting < 8 → sum % 256 = 0 → (s.rest.part = .starting → kind = 0x01) → s.link.inHand = none →
        (decodeBody got = .error .unknownKind → answers .unknownKind) ∧
          (decodeBody got = .error .badLength → answers .badLength) ∧
          ∀ i, decodeBody got = .ok i → exec (.receiveByte (.good v)) s = .next (u.take kind (takeRequest i)))) ∧
  (∀ (i : Instr) (body : List Byte) (s : State), encodeBody i = some body → s.chip = .running →
    s.link.ignoring = false → s.link.asm = .hunting →
    let waiting := s.link.replies.length + if s.link.inHand.isSome then 1 else 0
    (8 ≤ waiting → s.rest.part ≠ .resting → exec i s = .next s.reportActivity) ∧
      (waiting < 8 → s.rest.part = .starting → i ≠ .hello →
        exec i s = .next (s.repliedWith (body.headD 0) .starting [])) ∧
      (waiting < 8 → s.rest.part = .ready → s.link.inHand.isSome = true →
        exec i s = .next (s.reportActivity.repliedWith (body.headD 0) .busy [])) ∧
      (s.rest.part = .resting → s.frameReceived.rest.part = .ready ∧ exec i s = exec i s.frameReceived))

/-- A request command is its frame: the bytes of the frame taken one by one from RXD do what the command does (R158 to R161). -/
def Obligations.FrameBytesRunTheRequest : Prop :=
  ∀ (i : Instr) (body : List Byte) (s : State), encodeBody i = some body → s.link.asm = .hunting →
    s.link.gap = none → feed (frameBytes 0xA5 body) s = exec i s

/-- A request's body decodes to the request, and every body accepted is the body of the request it decodes to: no byte is dropped and no bit masked off. -/
def Obligations.BodiesDecodeAndEncode : Prop :=
  ∀ (i : Instr) (body : List Byte), encodeBody i = some body ↔ decodeBody body = .ok i

/-- HELLO is answered in every part state and changes nothing: a RESTING part has been woken by the frame, and a body longer than one byte is BAD_LENGTH (R161, R165). The part code in two bytes, the low one first, and the revision in one are the model's choice (assumption 35). -/
def Obligations.HelloAnsweredInEveryPartState : Prop :=
  ∀ (got : List Byte) (v : Byte) (s : State),
    let data (ready : Bool) : List Byte :=
      [0x96, 0x08, 0x12, match s.rest.startReason with | .power => 0 | .pin => 1 | .restart => 2, if ready then 1 else 0]
    (s.hearing →
      (s.rest.part = .starting → exec .hello s = .next (s.replied 0x01 (data false))) ∧
      (s.rest.part = .ready → exec .hello s = .next (s.reportActivity.replied 0x01 (data true))) ∧
      (s.rest.part = .resting →
        ∃ t, exec .hello s = .next (t.replied 0x01 (data true)) ∧ t.rest.part = .ready ∧ t = s.frameReceived)) ∧
      (s.chip = .running → s.link.ignoring = false → s.link.asm = .check got.length got → got.headD 0 = 0x01 →
        1 < got.length → (got.length + (got.map (·.toNat)).sum + v.toNat) % 256 = 0 → s.link.replies.length < 8 →
        s.link.inHand = none →
        exec (.receiveByte (.good v)) s =
          .next ({ s with link := { s.link with asm := .hunting, gap := none } }.repliedWith 0x01 .badLength []))

/-! ### Notices and queries -/

/-- A notice of a class that is OFF, or made while the unit is closed, leaves no trace; any other takes the next number, is stamped with the epoch and the clock, and joins the tail of a queue with room. A full queue gives up the youngest notice of its lowest-ranked class to a notice of higher rank, and keeps all its notices against any other; either way the number is used and one is counted as dropped. A notice record is 14 bytes: sequence, class and kind code, epoch, clock, and a payload of six bytes laid out by its kind, with zeros where it carries no field (R148 to R151, sections 12.3 and 12.8). -/
def Obligations.NoticesFiledAndOverflow : Prop :=
  (∀ (b : NoticeBody) (s : State),
    (s.notices.opened = false ∨ s.notices.modes.of b.class = .off → s.notify b = s) ∧
      (s.notices.opened = true → s.notices.modes.of b.class ≠ .off → s.notices.queue.length < 32 →
        s.notify b =
          { s with
            notices :=
              { s.notices with
                queue := s.notices.queue ++ [{ seq := s.notices.next, body := b, epoch := s.epoch, clock := s.play.clock }]
                next := s.notices.next + 1 } })) ∧
  (∀ (b : NoticeBody) (s : State), s.notices.opened = true → s.notices.modes.of b.class ≠ .off →
    s.notices.queue.length = 32 →
    let n : Notice := { seq := s.notices.next, body := b, epoch := s.epoch, clock := s.play.clock }
    let after (queue : List Notice) : State :=
      { s with
        notices :=
          { s.notices with queue := queue, next := s.notices.next + 1, dropped := min 255 (s.notices.dropped + 1) } }
    (∀ before victim later, s.notices.queue = before ++ victim :: later →
      victim.body.class.rank < b.class.rank →
      (∀ m ∈ s.notices.queue, victim.body.class.rank ≤ m.body.class.rank) →
      (∀ m ∈ later, m.body.class.rank ≠ victim.body.class.rank) →
      s.notify b = after (before ++ later ++ [n])) ∧
    ((∀ m ∈ s.notices.queue, b.class.rank ≤ m.body.class.rank) → s.notify b = after s.notices.queue)) ∧
  (∀ (n : Notice),
    let bytes (width v : Nat) : List Byte := (List.range width).map fun j => BitVec.ofNat 8 (v / 256 ^ j)
    let bit (b : Bool) : Nat := if b then 1 else 0
    let mask (t : Table 8 Bool) : Nat := ((List.finRange 8).map fun m => bit (Table.read t m) * 2 ^ m.val).sum
    let cell (a : CellAt) : Nat := a.cell.slot.val + 16 * a.cell.lane.val + 128 * bit a.pos.isSome
    let position (a : CellAt) : Nat := match a.pos with | some b => b.x.val + 16 * b.y.val | none => 0
    let tile (t : TileRead) (facing : Fin 4) (flags : Nat) : Nat :=
      t.serial.toNat + 2 ^ 20 * t.kind.val + 2 ^ 26 * (match t.side with | .a => 0 | .b => 1) + 2 ^ 27 * facing.val +
        2 ^ 29 * flags
    let guard (g : Guard) : Nat := match g with | .settling => 0 | .clear => 1 | .dimmed => 2 | .holding => 3
    let done (q : QuestId) (stage points : Nat) (counter : Player) (tick : Bool) (epoch : BitVec 16) :
        List (Nat × Nat) :=
      [(1, q.val + 32 * stage + 128 * bit tick), (2, points + 4096 * counter.val), (2, epoch.toNat)]
    let record : Nat × Nat × List (Nat × Nat) :=
      match n.body with
      | .started why seen runs => (0, 1, [(1, match why with | .power => 0 | .pin => 1 | .restart => 2), (1, mask seen), (1, mask runs)])
      | .suspect a score entries => (0, 2, [(1, cell a), (1, score), (1, entries)])
      | .recovered a score seated => (0, 3, [(1, cell a), (1, score), (1, if seated then 0 else 1)])
      | .retired a auto entries => (0, 4, [(1, cell a), (1, bit auto), (1, entries)])
      | .laneGone m k => (0, 5, [(1, m.val), (1, k)])
      | .laneBack m k => (0, 6, [(1, m.val), (1, k)])
      | .laneLost m k => (0, 7, [(1, m.val), (1, k)])
      | .stageDone q stage points counter tick epoch => (1, 8, done q stage points counter tick epoch)
      | .questDone q stage points counter tick epoch => (1, 9, done q stage points counter tick epoch)
      | .questFailed q stage why earned =>
        (1, 10, [(1, q.val), (1, stage), (1, match why with | .time => 0 | .abandoned => 1), (2, earned)])
      | .holdBroken q stage held epoch => (1, 11, [(1, q.val), (1, stage), (2, held), (2, epoch.toNat)])
      | .turnEnd p turn moves host next =>
        (2, 12, [(1, p.val), (2, turn), (1, moves), (1, bit host), (1, next.val)])
      | .clock runs rest => (2, 13, [(1, bit runs), (1, bit rest)])
      | .guard before now ln ld limit => (2, 14, [(1, guard before), (1, guard now), (1, ln), (1, ld), (1, limit)])
      | .rest delay auto paused => (2, 15, [(2, delay), (1, bit auto), (1, bit paused)])
      | .wake .frame runs => (2, 16, [(1, 0), (1, 0), (1, 0), (1, bit runs)])
      | .wake (.tracker c) runs => (2, 16, [(1, 1), (1, c.lane.val), (1, c.slot.val), (1, bit runs)])
      | .wake (.connector m) runs => (2, 16, [(1, 2), (1, m.val), (1, 0), (1, bit runs)])
      | .arrival a t facing promoted => (3, 17, [(1, cell a), (1, position a), (4, tile t facing (bit promoted))])
      | .lift a x why =>
        (3, 18, [(1, cell a), (1, position a),
          (4, x.toNat + 2 ^ 29 * match why with | .read => 0 | .displaced => 1 | .retired => 2)])
      | .swap a t facing => (3, 19, [(1, cell a), (1, position a), (4, tile t facing 0)])
      | .rotate a t facing => (3, 20, [(1, cell a), (1, position a), (4, tile t facing 0)])
      | .twin a x h =>
        (3, 21, [(1, cell a), (1, position a), (4, x.toNat + 2 ^ 20 * h.slot.val + 2 ^ 24 * h.lane.val)])
      | .twinEnd a x why =>
        (3, 22, [(1, cell a), (1, 0),
          (4, x.toNat + 2 ^ 29 * match why with | .read => 0 | .suspect => 1 | .retired => 2)])
    let payload := record.2.2.flatMap fun f => bytes f.1 f.2
    n.bytes =
      bytes 2 n.seq.toNat ++ bytes 1 (64 * record.1 + record.2.1) ++ bytes 2 n.epoch.toNat ++ bytes 3 n.clock ++
        payload ++ List.replicate (6 - payload.length) 0)

/-- SET_NOTICE_MODES gives all four modes or none, and answers with the old ones; ATTN is asserted exactly while a notice waits whose class is LOUD at that moment. FETCH takes the oldest notices from the head of the queue, reports what is left and what was dropped, and zeroes the dropped count. -/
def Obligations.ModesAttnAndFetch : Prop :=
  (∀ (f q p b : ClassMode) (f' q' p' b' : Byte) (s : State),
    (s.attn = true ↔ s.chip = .running ∧ ∃ n ∈ s.notices.queue, s.notices.modes.of n.body.class = .loud) ∧
      (s.listening →
        exec (.setNoticeModes f.code q.code p.code b.code) s =
          .next
            ({ s.reportActivity with
                notices := { s.notices with modes := { fault := f, quest := q, play := p, board := b } } }.replied 0x07
              [s.notices.modes.fault.code, s.notices.modes.quest.code, s.notices.modes.play.code,
                s.notices.modes.board.code]) ∧
        (2 < f'.toNat ∨ 2 < q'.toNat ∨ 2 < p'.toNat ∨ 2 < b'.toNat →
          exec (.setNoticeModes f' q' p' b') s = .next (s.reportActivity.repliedWith 0x07 .badValue [])))) ∧
  (∀ (k : Byte) (s : State), s.listening →
    (k = 0 ∨ 4 < k.toNat → exec (.fetch k) s = .next (s.reportActivity.repliedWith 0x06 .badValue [])) ∧
      (1 ≤ k.toNat → k.toNat ≤ 4 →
        exec (.fetch k) s =
          .next
            ({ s.reportActivity with
                notices := { s.notices with queue := s.notices.queue.drop k.toNat, dropped := 0 } }.replied 0x06
              (byte (min k.toNat s.notices.queue.length) ::
                ((s.notices.queue.take k.toNat).flatMap Notice.bytes ++
                  [byte (s.notices.queue.length - k.toNat), byte s.notices.dropped])))))

/-- STATUS, GET_PLAN, GET_BOARD, GET_FIRST_FAULT, GET_TURN and GET_SCORES answer with the state as it stands and change nothing (R154, R7, R60, R62, R99, R105); widths and order of the fields are assumption 13, the placed and present fields as presence bytes assumption 33, and the widths of coordinates, headings and the fault score assumption 35. -/
def Obligations.PlainQueriesAnswerAndChangeNothing : Prop :=
  ∀ (s : State), s.listening →
    let shown (c : NoticeClass) (bit : Nat) : Nat := if s.notices.queue.any fun n => decide (n.body.class = c) then bit else 0
    let entry (n : Lane) : List Byte :=
      match Table.read s.plan n with
      | none => List.replicate 8 0
      | some p =>
        [1, byte p.ox.val, byte p.oy.val, byte p.h.val, byte p.ox.val, byte p.oy.val,
          byte (p.ox.val + (if p.h.val % 2 = 0 then 2 else 3)), byte (p.oy.val + (if p.h.val % 2 = 0 then 3 else 2))]
    exec .status s =
        .next
          (s.reportActivity.replied 0x02
            ([byte s.notices.queue.length, byte (shown .fault 1 + shown .quest 2 + shown .play 4 + shown .board 8),
                flag s.attn, byte s.notices.dropped] ++
              bytes16 s.notices.next ++
              [s.notices.modes.fault.code, s.notices.modes.quest.code, s.notices.modes.play.code,
                s.notices.modes.board.code, 1, s.lamps.guard.code] ++
              ((List.finRange 8).map fun n => (s.lane n).state.code) ++ [flag s.quests.pass.isSome])) ∧
      exec .getPlan s =
        .next
          (s.reportActivity.replied 0x12
            (byte ((List.finRange 8).countP fun n => (Table.read s.plan n).isSome) :: (List.finRange 8).flatMap entry)) ∧
      exec .getBoard s =
        .next (s.reportActivity.replied 0x23 ((allCells.map fun c => (s.cell c).state.code) ++ bytes16 s.epoch)) ∧
      exec .getFirstFault s = .next (s.reportActivity.replied 0x26 s.faultData) ∧
      exec .getTurn s =
        .next
          (s.reportActivity.replied 0x40
            ([flag s.play.turns, byte s.play.np.val, byte s.play.current.val] ++ two s.play.turnNumber ++
              [byte s.play.moves, byte s.play.movesPerTurn])) ∧
      exec .getScores s =
        .next
          (s.reportActivity.replied 0x46
            (two (Table.read s.play.scores 1) ++ two (Table.read s.play.scores 2) ++ two (Table.read s.play.scores 3) ++
              two (Table.read s.play.scores 4) ++ two (Table.read s.play.scores 0)))

/-- GET_CELL, GET_TILE, GET_PATTERN, GET_QUEST and GET_LAMPS check their operand, answer with the state as it stands and change nothing; COUNT_PATTERN answers with the count on the live view, its first four anchors and the epoch, an EMPTY record being refused whatever the filter (R59, R71, R80, R89, R90, R117, R142). Section 12.7 lays out GET_CELL. The layouts of the others are assumption 13, the blink phase's code is a free value (assumption 12), and which flags of GET_TILE, GET_PATTERN and GET_LAMPS are presence bytes, with the width of the stale flags, is assumption 33. That a stage index and an anchor's rotation take one byte each is assumption 35. -/
def Obligations.OperandQueriesAnswerAndChangeNothing : Prop :=
  (∀ (a b c : Byte) (x : BitVec 24) (n : Lane) (i : Slot) (p : Pos) (k : Fin 32) (q : QuestId) (s : State),
    s.listening →
    let answers (i : Instr) (kind : Byte) (st : Status) (data : List Byte) : Prop :=
      exec i s = .next (s.reportActivity.repliedWith kind st data)
    let cellByte (c : CellId) : Byte :=
      byte (c.slot.val + 16 * c.lane.val + if (s.position c).isSome then 128 else 0)
    let word (t : TileRead) (facing : Nat) : List Byte :=
      four (t.serial.toNat + t.kind.val * 2 ^ 20 + (match t.side with | .a => 0 | .b => 1) * 2 ^ 26 + facing * 2 ^ 27)
    let shown (c : CellId) : List Byte :=
      let r := s.cell c
      [cellByte c, match s.position c with | some g => byte (g.x.val + 16 * g.y.val) | none => 0, r.state.code,
        byte ((if r.incumbent.isSome then 1 else 0) + if r.candidate.isSome then 2 else 0)] ++
        (match r.incumbent with
          | some t =>
            word t.tile t.facing.val ++ [byte t.tile.edition.val, byte t.tile.pad.val, byte t.placedBy.val] ++
              three t.seatedAt ++ [flag t.counting, byte t.owner.val]
          | none => List.replicate 12 0) ++
        (match r.candidate with
          | some t => word t.tile 0 ++ [byte t.tile.edition.val, byte t.tile.pad.val, byte t.arrive]
          | none => List.replicate 7 0) ++
        [byte r.lift, byte r.absent, byte r.score, byte r.entries, byte r.peak,
          byte (max (Table.read s.sensing.floors c.lane) (r.peak / 2))]
    let serial : Serial := BitVec.ofNat 20 x.toNat
    let seat : Option (CellId × Incumbent) :=
      allCells.findSome? fun c =>
        match (s.cell c).incumbent with
        | some t => if t.tile.serial = serial then some (c, t) else none
        | none => none
    let twins : Nat :=
      allCells.countP fun c =>
        match (s.cell c).state, (s.cell c).candidate with
        | .twin, some t => decide (t.tile.serial = serial)
        | _, _ => false
    let names (q : QuestId) : Bool :=
      (s.quest q).stages.any fun st =>
        match st.test with
        | .form d _ => decide (d = k)
        | .hold d _ _ => decide (d = k)
        | _ => false
    let user : Option QuestId :=
      (List.finRange 24).find? fun q =>
        decide ((s.quest q).state = .running ∨ (s.quest q).state = .paused) && names q
    let r := s.quest q
    let left : Option Nat := if r.state = .running then r.progress.deadline.map fun d => d - s.play.clock else none
    let held : Option Nat :=
      match r.state, (r.stages[r.progress.stage]?).map Stage.test with
      | .running, some (.hold _ _ _) => r.progress.holdSince.map fun h => s.play.clock - h
      | _, _ => none
    let layer (c : CellId) : List Byte :=
      match (if (s.cell c).state = .retired then none else s.position c) with
      | none => [0, 0, 0]
      | some g =>
        match (List.finRange 24).find? fun q =>
          match Table.read s.lamps.flashes q with | some f => f.region.covers g | none => false with
        | some q => [1, 3, byte q.val]
        | none =>
          match (List.finRange 24).find? fun q =>
            match Table.read s.lamps.hints q with | some h => h.covers g | none => false with
          | some q => [1, 4, byte q.val]
          | none => [0, 0, 0]
    (answers (.getCell 0 (byte n.val) (byte i.val)) 0x20 .success (shown ⟨n, i⟩) ∧
        (shown ⟨n, i⟩).length = 29) ∧
      (∀ d, s.covering p = some d → (s.cell d).state ≠ .retired →
        answers (.getCell 1 (byte p.x.val) (byte p.y.val)) 0x20 .success (shown d)) ∧
      ((∀ d, s.covering p = some d → (s.cell d).state = .retired) →
        answers (.getCell 1 (byte p.x.val) (byte p.y.val)) 0x20 .void []) ∧
      (1 < a.toNat ∨ (a = 0 ∧ (7 < b.toNat ∨ 11 < c.toNat)) ∨ (a = 1 ∧ (15 < b.toNat ∨ 15 < c.toNat)) →
        answers (.getCell a b c) 0x20 .badValue []) ∧
      (x = 0 ∨ 1048575 ≤ x.toNat → answers (.getTile x) 0x32 .badValue []) ∧
      (1 ≤ x.toNat → x.toNat ≤ 1048574 →
        answers (.getTile x) 0x32 .success
          ((match s.roster.find serial with
            | some e => [1, byte e.owner.val, flag e.banned]
            | none => [0, 0, 0]) ++
            (match seat with
              | some (c, t) => [1, cellByte c, (s.cell c).state.code, flag t.counting, byte t.owner.val]
              | none => [0, 0, 0, 0, 0]) ++
            [byte twins, byte s.roster.entries.length, flag s.roster.closed] ++ bytes32 s.roster.editions)) ∧
      (31 < a.toNat → answers (.getPattern a) 0x52 .badValue []) ∧
      answers (.getPattern (byte k.val)) 0x52 .success
        ((match Table.read s.patterns k with
          | some d => 1 :: d.bytes k
          | none => List.replicate 37 0) ++
          byte ((List.finRange 24).countP fun q => decide ((s.quest q).state ≠ .empty) && names q) ::
            match user with
            | some q => [1, byte q.val]
            | none => [0, 0]) ∧
      (23 < a.toNat → answers (.getQuest a) 0x5A .badValue []) ∧
      (r.state = .empty → answers (.getQuest (byte q.val)) 0x5A .success [0]) ∧
      (r.state ≠ .empty →
        answers (.getQuest (byte q.val)) 0x5A .success
          (r.state.code :: (r.definitionBytes q ++ r.progress.bytes ++ optThree left ++ optThree held ++
            [match s.quests.pass with
              | some p => flag (p.evaluated.any fun e => decide (e.1 = q))
              | none => 0]))) ∧
      (7 < a.toNat → answers (.getLamps a) 0x61 .badValue []) ∧
      answers (.getLamps (byte n.val)) 0x61 .success
        (((laneCells n).flatMap fun c =>
            (s.hostSetting c).code :: (layer c ++ [(s.effective c).code, (s.drive c).code])) ++
          ((List.finRange 8).map fun m => flag (s.lane m).stale) ++
          [Config.blinkPhaseCode s.lamps.phaseOn, s.lamps.guard.code, byte s.ln, byte s.ld, byte s.lamps.limit] ++
          (match s.lamps.sounder, s.lamps.cues with
            | some _, c :: _ => [1, byte c.val]
            | _, _ => [0, 0]) ++
          [byte s.lamps.cues.length])) ∧
  (∀ (a form player : Byte) (p : Fin 32) (o : Player) (s : State),
    s.listening →
    let answers (i : Instr) (st : Status) (data : List Byte) : Prop :=
      exec i s = .next (s.reportActivity.repliedWith 0x53 st data)
    let listed (d : Pattern) (f : OwnerFilter) : List Byte :=
      let found := d.anchors s.view f
      [byte found.length, byte (min 4 found.length)] ++
        ((found.take 4).flatMap fun x => [byte (x.1.x.val + 16 * x.1.y.val),
          byte (x.2.1.slot.val + 16 * x.2.1.lane.val + 128), byte x.2.2.val]) ++ bytes16 s.epoch
    (31 < a.toNat ∨ 2 < form.toNat ∨ (form ≠ 0 ∧ 4 < player.toNat) →
      answers (.countPattern a form player) .badValue []) ∧
    (Table.read s.patterns p = none →
      answers (.countPattern (byte p.val) 0 player) .refused [6, byte p.val] ∧
        answers (.countPattern (byte p.val) 1 (byte o.val)) .refused [6, byte p.val] ∧
        answers (.countPattern (byte p.val) 2 (byte o.val)) .refused [6, byte p.val]) ∧
    ∀ d, Table.read s.patterns p = some d →
      answers (.countPattern (byte p.val) 0 player) .success (listed d .any) ∧
        answers (.countPattern (byte p.val) 1 (byte o.val)) .success (listed d (.owner o)) ∧
        answers (.countPattern (byte p.val) 2 (byte o.val)) .success (listed d (.placed o)))

/-! ### Turns, clock and scores -/

/-- SET_TURN sets the turn record whole, starting turn 1 with no moves, and answers with the record before and after; a value out of range changes nothing. That moves and moves per turn take one byte each in the reply is assumption 13 (R94). -/
def Obligations.SetTurnSetsTheTurnRecord : Prop :=
  ∀ (mode np current perTurn : Byte) (k c : Player) (m : Fin 10) (s : State), s.listening →
    let put (turns : Bool) (c : Player) : PlayRecord :=
      { s.play with turns := turns, np := k, current := c, turnNumber := 1, moves := 0, movesPerTurn := m.val }
    let shown (p : PlayRecord) : List Byte :=
      [if p.turns then 1 else 0, byte p.np.val, byte p.current.val] ++ two p.turnNumber ++
        [byte p.moves, byte p.movesPerTurn]
    (1 < mode.toNat ∨ np = 0 ∨ 4 < np.toNat ∨ 9 < perTurn.toNat ∨
        (mode = 1 ∧ (current = 0 ∨ np.toNat < current.toNat)) →
      exec (.setTurn mode np current perTurn) s = .next (s.reportActivity.repliedWith 0x41 .badValue [])) ∧
    (k ≠ 0 →
      exec (.setTurn 0 (byte k.val) current (byte m.val)) s =
        .next ({ s.reportActivity with play := put false 0 }.replied 0x41 (shown s.play ++ shown (put false 0)))) ∧
    (k ≠ 0 → c ≠ 0 → c ≤ k →
      exec (.setTurn 1 (byte k.val) (byte c.val) (byte m.val)) s =
        .next ({ s.reportActivity with play := put true c }.replied 0x41 (shown s.play ++ shown (put true c))))

/-- END_TURN ends the turn with its TURN_END notice, then gives the next player the next turn with no moves; in FREE mode it is refused. A move reported for a cell of a placed lane is counted in TURNS mode, held at 255, and ends the turn with cause AUTO when it reaches moves per turn; in FREE mode, or for an unplaced lane, nothing changes. That moves take one byte in the reply is assumption 13 (R95, R96, R97). -/
def Obligations.TurnsEndByRequestOrByMoves : Prop :=
  (∀ (next : Player) (turn : Nat) (s : State), s.listening →
    (s.play.turns = false → exec .endTurn s = .next (s.reportActivity.repliedWith 0x42 .refused [10])) ∧
    (s.play.turns = true → next.val = s.play.current.val % s.play.np.val + 1 →
      (s.play.turnNumber < 65535 ∧ turn = s.play.turnNumber + 1 ∨ s.play.turnNumber = 65535 ∧ turn = 1) →
      exec .endTurn s =
        .next
          ({ s.reportActivity.notify (.turnEnd s.play.current s.play.turnNumber s.play.moves true next) with
              play := { s.play with current := next, turnNumber := turn, moves := 0 } }.replied 0x42
            ([byte s.play.current.val] ++ two s.play.turnNumber ++ [byte s.play.moves, byte next.val] ++ two turn)))) ∧
  (∀ (c : CellId) (next : Player) (s : State),
    let moves := min 255 (s.play.moves + 1)
    let counted : State := { s with play := { s.play with moves := moves } }
    (s.position c = none ∨ s.play.turns = false → s.reportMove c = s) ∧
    ((s.position c).isSome = true → s.play.turns = true →
      (s.play.movesPerTurn = 0 ∨ moves < s.play.movesPerTurn → s.reportMove c = counted) ∧
      (s.play.movesPerTurn ≠ 0 → s.play.movesPerTurn ≤ moves →
        next.val = s.play.current.val % s.play.np.val + 1 → s.play.turnNumber < 65535 →
        s.reportMove c =
          { counted.notify (.turnEnd s.play.current s.play.turnNumber moves false next) with
            play := { s.play with current := next, turnNumber := s.play.turnNumber + 1, moves := 0 } })))

/-- CLOCK_RUN and CLOCK_PAUSE change the run state with a CLOCK notice, or find it so and change nothing; SET_CLOCK sets a paused clock alone and is refused on a running one; SET_SCORES sets the five counters, each held at 9,999. -/
def Obligations.ClockAndScoreRequests : Prop :=
  ∀ (v : BitVec 24) (p1 p2 p3 p4 team : BitVec 16) (s : State), s.listening →
    let ran (b : Bool) : State := { s.reportActivity with play := { s.play with clockRunning := b } }
    let held (v : BitVec 16) : Nat := min 9999 v.toNat
    (s.play.clockRunning = false →
      exec .clockRun s = .next (((ran true).notify (.clock true false)).replied 0x43 (0 :: three s.play.clock)) ∧
      exec .clockPause s = .next (s.reportActivity.replied 0x44 (0 :: three s.play.clock)) ∧
      exec (.setClock v) s =
        .next ({ s.reportActivity with play := { s.play with clock := v.toNat } }.replied 0x45 (three s.play.clock))) ∧
    (s.play.clockRunning = true →
      exec .clockRun s = .next (s.reportActivity.replied 0x43 (1 :: three s.play.clock)) ∧
      exec .clockPause s = .next (((ran false).notify (.clock false false)).replied 0x44 (1 :: three s.play.clock)) ∧
      exec (.setClock v) s = .next (s.reportActivity.repliedWith 0x45 .refused [9])) ∧
    ∃ t : State, exec (.setScores p1 p2 p3 p4 team) s =
        .next (t.replied 0x47
          (two (held p1) ++ two (held p2) ++ two (held p3) ++ two (held p4) ++ two (held team))) ∧
      t = { s.reportActivity with play := { s.play with scores := t.play.scores } } ∧
      Table.read t.play.scores 1 = held p1 ∧ Table.read t.play.scores 2 = held p2 ∧
      Table.read t.play.scores 3 = held p3 ∧ Table.read t.play.scores 4 = held p4 ∧
      Table.read t.play.scores 0 = held team

/-! ### The Board Plan -/

/-- PLACE_SEGMENT checks its ranges, then the grid, then the overlap with the other placed lanes, and an accepted one replaces the lane's record, writes the facing of the lane's incumbents afresh and wants a pass. UNPLACE_SEGMENT removes a lane's placement, its tiles then facing as their pads do, and wants a pass; on an unplaced lane it changes nothing (R3, R4, R5, R6, R11). That the reply sends the footprint bounds as four bytes is assumption 35. A lane whose drives change is marked stale or, while it runs, loads them (R32, R136); where the guard does not move, no other mark changes until the arbiters have been asked. -/
def Obligations.PlaceAndUnplaceSegments : Prop :=
  (∀ (a b c d : Byte) (n : Lane) (x y : Fin 16) (h : Fin 4) (s : State), s.listening →
    let p : Placement := { ox := x, oy := y, h := h }
    let w := if h.val % 2 = 0 then 3 else 4
    let t := if h.val % 2 = 0 then 4 else 3
    let shares (m : Lane) : Prop := ∃ q, Table.read s.plan m = some q ∧ ∃ g, p.covers g = true ∧ q.covers g = true
    let offered := exec (.placeSegment (byte n.val) (byte x.val) (byte y.val) (byte h.val)) s
    (7 < a.toNat ∨ 15 < b.toNat ∨ 15 < c.toNat ∨ 3 < d.toNat →
      exec (.placeSegment a b c d) s = .next (s.reportActivity.repliedWith 0x10 .badValue [])) ∧
    (15 < x.val + w - 1 ∨ 15 < y.val + t - 1 → offered = .next (s.reportActivity.repliedWith 0x10 .refused [1])) ∧
    (x.val + w - 1 ≤ 15 → y.val + t - 1 ≤ 15 →
      (∀ m, m ≠ n → shares m → (∀ k, k ≠ n → k < m → ¬shares k) →
        offered = .next (s.reportActivity.repliedWith 0x10 .refused [2, byte m.val])) ∧
      ((∀ m, m ≠ n → ¬shares m) →
        ∃ u, offered =
            .next (u.replied 0x10 [byte x.val, byte y.val, byte (x.val + w - 1), byte (y.val + t - 1)]) ∧
          u.plan = Table.put s.plan n (some p) ∧
          (∀ e, u.cell e =
            if e.lane = n then
              { s.cell e with incumbent := (s.cell e).incumbent.map fun i => { i with facing := i.tile.pad + h } }
            else s.cell e) ∧
          s.passFollows u ∧ s.guardAlone u ∧ s.drivesFollow u ∧ s.drivesAlone u ∧ s.lanesSteady u ∧
          u.rest = s.reportActivity.rest ∧
          s.sameBut u [.plan, .cells, .quests, .lamps, .notices, .lanes, .rest]))) ∧
  (∀ (a : Byte) (n : Lane) (s : State), s.listening →
    (7 < a.toNat → exec (.unplaceSegment a) s = .next (s.reportActivity.repliedWith 0x11 .badValue [])) ∧
    (Table.read s.plan n = none →
      exec (.unplaceSegment (byte n.val)) s = .next (s.reportActivity.replied 0x11 [0])) ∧
    ((Table.read s.plan n).isSome = true →
      ∃ u, exec (.unplaceSegment (byte n.val)) s = .next (u.replied 0x11 [1]) ∧
        u.plan = Table.put s.plan n none ∧
        (∀ e, u.cell e =
          if e.lane = n then
            { s.cell e with incumbent := (s.cell e).incumbent.map fun i => { i with facing := i.tile.pad } }
          else s.cell e) ∧
        s.passFollows u ∧ s.guardAlone u ∧ s.drivesFollow u ∧ s.drivesAlone u ∧ s.lanesSteady u ∧
          u.rest = s.reportActivity.rest ∧
        s.sameBut u [.plan, .cells, .quests, .lamps, .notices, .lanes, .rest]))

/-- On a plan that obeys the standing law a cell's board position is as the table of R8 gives it, the covering cell of that position is that same cell, and every position with a covering cell is that cell's position (R8, R9). -/
def Obligations.PositionsAndCoveringCellsAgree : Prop :=
  ∀ (c : CellId) (b : Pos) (s : State), s.planLawful →
    (Table.read s.plan c.lane = none → s.position c = none) ∧
    (∀ p, Table.read s.plan c.lane = some p →
      ∃ g, s.position c = some g ∧ s.covering g = some c ∧
        let col := c.slot.val % 3
        let row := c.slot.val / 3
        (p.h = 0 → g.x.val = p.ox.val + col ∧ g.y.val = p.oy.val + row) ∧
        (p.h = 1 → g.x.val = p.ox.val + 3 - row ∧ g.y.val = p.oy.val + col) ∧
        (p.h = 2 → g.x.val = p.ox.val + 2 - col ∧ g.y.val = p.oy.val + 3 - row) ∧
        (p.h = 3 → g.x.val = p.ox.val + row ∧ g.y.val = p.oy.val + 2 - col)) ∧
    ∀ d, s.covering b = some d → s.position d = some b

/-! ### The lanes -/

/-- CONNECTOR_SEEN puts an ABSENT or LOST lane into LINKING with the state it came from and a 200 ms settle, its hold timer going on, and wakes a RESTING part; in the other states only the level is noted (R15, R16). -/
def Obligations.ConnectorSeenLinksTheLane : Prop :=
  ∀ (n : Lane) (s : State), s.chip = .running →
    let u := s.lane n
    (s.rest.part ≠ .resting →
      ∃ t, exec (.connectorSeen n) s = .next t ∧
        (u.state = .absent →
          t.lane n = { u with connector := true, state := .linking, returnState := some .absent, settle := some 200 }) ∧
        (u.state = .lost →
          t.lane n = { u with connector := true, state := .linking, returnState := some .lost, settle := some 200 }) ∧
        (u.state = .linking ∨ u.state = .parked → t.lane n = { u with connector := true }) ∧
        (u.state = .running → ({ u with connector := true } : LaneUnit).steady (t.lane n)) ∧
        s.otherLanesSteady t n ∧ t.quests.records = s.quests.records ∧ s.sameBut t [.lanes, .quests]) ∧
    (s.rest.part = .resting → u.state = .absent ∨ u.state = .lost →
      ∃ t, exec (.connectorSeen n) s = .next t ∧ t.rest.part = .ready ∧ (t.lane n).state = .linking)

/-- LINK_SETTLE_END brings a LINKING lane into RUNNING with slot 0 next and a LAMP slot first; a lane that came from LOST gets its HELD cells back as SEATED, with a LANE_BACK notice (R17, R55). That LANE_BACK is the last notice, a GUARD notice of the new load before it, is assumption 14; that the LAMP slot copies the drives as they stand when the event has been taken whole, a step of the guard in it included, is assumption 9. -/
def Obligations.LinkSettleEndRunsTheLane : Prop :=
  ∀ (n : Lane) (s : State), s.chip = .running →
    let u := s.lane n
    u.state = .linking → u.settle.isSome = true → u.lawful →
    ∃ t, exec (.linkSettleEnd n) s = .next t ∧
      t.lane n =
        { u with
          state := .running, returnState := none, settle := none, hold := none, pointer := 0, fairness := 0
          stale := false, slot := some (.lamp (t.laneDrive n)), pace := none, sweep := none
          waiting := decide (u.mode = .normal) && !s.allRetired n
          sweepTimer := if u.mode = .sweep then some 250 else none } ∧
      (u.returnState = some .absent →
        s.guardAlone t ∧ s.sameBut t [.lanes, .lamps, .notices, .quests]) ∧
      (u.returnState = some .lost →
        (∀ c, t.cell c =
          if c.lane = n ∧ (s.cell c).state = .held then { s.cell c with state := .seated } else s.cell c) ∧
        (s.files .fault →
          t.lastNotice (.laneBack n ((laneCells n).countP fun c => decide ((s.cell c).state = .held)))) ∧
        t.lamps = { s.lamps with guard := t.lamps.guard } ∧ s.sameBut t [.lanes, .lamps, .notices, .quests, .cells]) ∧
      s.otherLanesSteady t n ∧ t.quests.records = s.quests.records

/-- CONNECTOR_LOST takes a RUNNING lane to LOST: its slot and requests are gone, its tiles are HELD by the table of R54, LANE_GONE is queued and the hold timer starts at the hold time. It sends a LINKING lane back to its return state, where a hold timer goes on or starts afresh, without a notice; in ABSENT, LOST and PARKED only the level is noted. A pending check ends with a FAIL, a waiting park completes, and a hold time of 0.0 s clears the lane at once, which promotes the first TWIN cell in board order for each serial it drops (R15, R17, R18, R19, R20, R35, R53, R54, R56, R57). The bytes of an aborted check's reply are assumptions 12, 13 and 35. That LANE_GONE is the last notice, a GUARD notice of the fall in load before it, is assumption 14. What a hold time of 0.0 s does together with a pending check or a waiting park (assumption 18) is not stated here. -/
def Obligations.ConnectorLostByLaneState : Prop :=
  (∀ (n : Lane) (s : State), s.chip = .running → s.rest.part ≠ .resting →
    let u := s.lane n
    u.state = .running → u.checkPending = false → u.parkWaiting = false → s.sensing.hold ≠ 0 →
    ∃ t, exec (.connectorLost n) s = .next t ∧
      t.lane n =
        { u with
          connector := false, state := .lost, slot := none, confirms := [], fairness := 0, waiting := false
          pace := none, sweepTimer := none, sweep := none, latch := Table.full 12 .off
          hold := some s.sensing.hold, stale := (t.lane n).stale } ∧
      (u.stale = true → (t.lane n).stale = true) ∧
      (∀ c, t.cell c =
        if c.lane = n then
          match (s.cell c).state with
          | .seated | .shifting | .lifting =>
            { s.cell c with state := .held, candidate := none, lift := 0, absent := 0 }
          | .suspect =>
            if (s.cell c).incumbent.isSome then
              { s.cell c with state := .held, candidate := none, lift := 0, absent := 0 }
            else s.cell c
          | .arriving | .twin =>
            { s.cell c with state := .vacant, incumbent := none, candidate := none, lift := 0, absent := 0, peak := 0 }
          | .vacant | .held | .retired => s.cell c
        else s.cell c) ∧
      (s.files .fault →
        t.lastNotice
          (.laneGone n
            ((laneCells n).countP fun c => decide ((s.cell c).state ≠ .held ∧ (t.cell c).state = .held)))) ∧
      t.lamps = { s.lamps with guard := t.lamps.guard } ∧ s.otherLanesSteady t n ∧
      t.quests.records = s.quests.records ∧ s.sameBut t [.lanes, .lamps, .notices, .quests, .cells]) ∧
  (∀ (n : Lane) (s : State), s.chip = .running → s.rest.part ≠ .resting →
    let u := s.lane n
    u.state ≠ .running → (u.state = .linking → u.hold = none → s.sensing.hold ≠ 0) →
    ∃ t, exec (.connectorLost n) s = .next t ∧
      (u.state = .linking → u.returnState = some .absent →
        t.lane n =
          { u with connector := false, state := .absent, returnState := none, settle := none, latch := Table.full 12 .off }) ∧
      (u.state = .linking → u.returnState = some .lost →
        t.lane n =
          { u with
            connector := false, state := .lost, returnState := none, settle := none, latch := Table.full 12 .off
            hold := if u.hold = none then some s.sensing.hold else u.hold }) ∧
      (u.state ≠ .linking → t.lane n = { u with connector := false }) ∧
      s.otherLanesSteady t n ∧ t.quests.records = s.quests.records ∧ s.sameBut t [.lanes, .quests]) ∧
  (∀ (n : Lane) (s : State), s.chip = .running → s.rest.part ≠ .resting →
    let u := s.lane n
    let held (t : State) : Nat := (laneCells n).countP fun c => decide ((t.cell c).state = .held)
    (u.state = .running → u.checkPending = true → u.parkWaiting = false → s.sensing.hold ≠ 0 →
      ∃ t, exec (.connectorLost n) s = .next t ∧ (t.lane n).state = .lost ∧ (t.lane n).checkPending = false ∧
        (t.lane n).slot = none ∧ (t.lane n).hold = some s.sensing.hold ∧
        t.link =
          { s.link with
            inHand := none
            replies :=
              s.link.replies ++
                [{ kind := 0x9A, status := .success
                   data := checkData false { kind := .absent, pad := none, amplitude := 0 } }] } ∧
        t.firstFault =
          (match s.firstFault with
          | some f => some { f with later := min 255 (f.later + 1) }
          | none =>
            some { cause := .laneCheck, place := .lane n, outcome := .absent, score := 0, clock := s.play.clock
                   later := 0 }) ∧
        (∀ c, t.cell c = if c.lane = n then (s.cell c).lose else s.cell c) ∧ s.otherLanesSteady t n ∧
        t.quests.records = s.quests.records ∧
        s.sameBut t [.lanes, .lamps, .notices, .quests, .cells, .link, .firstFault]) ∧
    (u.state = .running → u.checkPending = false → u.parkWaiting = true → s.sensing.hold ≠ 0 →
      ∃ t, exec (.connectorLost n) s = .next t ∧ (t.lane n).state = .parked ∧ (t.lane n).parkWaiting = false ∧
        (t.lane n).slot = none ∧ (t.lane n).hold = none ∧ (t.lane n).connector = false ∧
        t.link =
          { s.link with
            inHand := none
            replies := s.link.replies ++ [{ kind := 0x98, status := .success, data := [2, byte (held t)] }] } ∧
        (∀ c, t.cell c = if c.lane = n then (s.cell c).lose else s.cell c) ∧
        (s.files .fault →
          t.lastNotice
            (.laneGone n
              ((laneCells n).countP fun c => decide ((s.cell c).state ≠ .held ∧ (t.cell c).state = .held)))) ∧
        s.otherLanesSteady t n ∧ t.quests.records = s.quests.records ∧
        s.sameBut t [.lanes, .lamps, .notices, .quests, .cells, .link]) ∧
    (u.state = .running → u.checkPending = false → u.parkWaiting = false → s.sensing.hold = 0 →
      (∀ c, c.lane ≠ n → (s.cell c).state ≠ .twin) →
      ∃ t, exec (.connectorLost n) s = .next t ∧ (t.lane n).state = .absent ∧ (t.lane n).hold = none ∧
        (t.lane n).slot = none ∧ (t.lane n).connector = false ∧ t.epoch = s.epoch + 1 ∧
        (∀ c, t.cell c =
          if c.lane = n then
            if ((s.cell c).lose).state = .held then
              { s.cell c with
                state := .vacant, incumbent := none, candidate := none, lift := 0, absent := 0, peak := 0 }
            else (s.cell c).lose
          else s.cell c) ∧
        s.passFollows t ∧ s.otherLanesSteady t n ∧ t.rest = s.reportActivity.rest ∧
        s.sameBut t [.lanes, .lamps, .notices, .quests, .cells, .epoch, .rest]) ∧
    (u.state = .linking → u.returnState = some .lost → u.hold = none → s.sensing.hold = 0 →
      ∃ t, exec (.connectorLost n) s = .next t ∧ (t.lane n).state = .absent ∧ (t.lane n).hold = none ∧
        (t.lane n).connector = false ∧ (∀ c, c.lane = n → (s.cell c).state = .held → (t.cell c).state ≠ .held) ∧
        s.otherLanesSteady t n)) ∧
  (∀ (n : Lane) (s : State), s.chip = .running → s.rest.part ≠ .resting →
    let u := s.lane n
    let clears (at_ : CellId → CellRec) (told : List NoticeBody) (twins : List (CellId × TileRead)) (t : State) : Prop :=
      (t.lane n).state = .absent ∧ (t.lane n).hold = none ∧ (t.lane n).slot = none ∧ (t.lane n).connector = false ∧
        (∃ filed : NoticeUnit, s.filed { s with notices := filed } told ∧
          s.promotesAll t
            (fun c =>
              if c.lane = n ∧ (at_ c).state = .held then
                { at_ c with
                  state := .vacant, incumbent := none, candidate := none, lift := 0, absent := 0, peak := 0 }
              else at_ c)
            filed (.laneLost n (heldTiles at_ n).length) twins) ∧
        s.otherLanesSteady t n ∧ s.sameBut t [.lanes, .lamps, .notices, .quests, .cells, .epoch, .rest, .play]
    s.serialsUnique → s.sensing.hold = 0 →
    (u.state = .running → u.checkPending = false → u.parkWaiting = false →
      let lost (c : CellId) : CellRec := if c.lane = n then (s.cell c).lose else s.cell c
      ∃ t, exec (.connectorLost n) s = .next t ∧
        clears lost
          [.laneGone n
            ((laneCells n).countP fun c => decide ((s.cell c).state ≠ .held ∧ (lost c).state = .held))]
          ((s.loseCells n).promotions (heldTiles lost n)) t) ∧
    (u.state = .linking → u.returnState = some .lost → u.hold = none → u.slot = none →
      ∃ t, exec (.connectorLost n) s = .next t ∧ clears s.cell [] (s.promotions (heldTiles s.cell n)) t))

/-- HOLD_TIMER_EXPIRY makes every HELD cell of the lane VACANT in one lane clear with its LANE_LOST notice; a LOST lane becomes ABSENT, and a LINKING one goes on as from ABSENT. For each serial it drops, in the board order of the cells, the first TWIN cell in board order is promoted: seated as things stand, with a promoted ARRIVAL and a move of its own (R19, R53, R56, R57). -/
def Obligations.HoldTimerExpiryClearsTheLane : Prop :=
  ∀ (n : Lane) (s : State), s.chip = .running →
    let u := s.lane n
    u.hold.isSome = true → u.lawful →
    let gone := heldTiles s.cell n
    ∃ t, exec (.holdTimerExpiry n) s = .next t ∧
      (u.state = .lost → t.lane n = { u with hold := none, state := .absent }) ∧
      (u.state = .linking → t.lane n = { u with hold := none, returnState := some .absent }) ∧
      (∀ c, c.lane = n → (s.cell c).state = .held →
        t.cell c =
          { s.cell c with state := .vacant, incumbent := none, candidate := none, lift := 0, absent := 0, peak := 0 }) ∧
      ((∀ c, (s.cell c).state ≠ .twin) →
        (∀ c, ¬(c.lane = n ∧ (s.cell c).state = .held) → t.cell c = s.cell c) ∧ t.epoch = s.epoch + 1 ∧
        (s.files .fault → (∀ c, (s.cell c).present = true) →
          t.lastNotice (.laneLost n ((laneCells n).countP fun c => decide ((s.cell c).state = .held)))) ∧
        s.passFollows t ∧ s.otherLanesSteady t n ∧ t.rest = s.reportActivity.rest ∧
        s.sameBut t [.lanes, .cells, .epoch, .notices, .quests, .rest]) ∧
      (s.serialsUnique →
        s.promotesAll t
          (fun c =>
            if c.lane = n ∧ (s.cell c).state = .held then
              { s.cell c with
                state := .vacant, incumbent := none, candidate := none, lift := 0, absent := 0, peak := 0 }
            else s.cell c)
          s.notices (.laneLost n gone.length) (s.promotions gone) ∧
        s.otherLanesSteady t n ∧ s.sameBut t [.lanes, .cells, .epoch, .notices, .quests, .rest, .play])

/-- PARK_LANE parks at once a lane with no slot in flight. A RUNNING lane's tiles are held without a notice, its slot, requests and fairness count are gone and its latch dark; in any other state but PARKED the settle and hold timers stop. A RUNNING lane with a slot in flight keeps the request in hand until its park completes (R20, R54, R162). That the completion is an event of its own, PARK_COMPLETE, is assumption 26. -/
def Obligations.ParkLaneParks : Prop :=
  ∀ (a : Byte) (n : Lane) (s : State),
    let u := s.lane n
    let held (t : State) : Nat := (laneCells n).countP fun c => decide ((t.cell c).state = .held)
    let parkedFromRunning (t : State) : Prop :=
      (t.lane n).state = .parked ∧ (t.lane n).slot = none ∧ (t.lane n).confirms = [] ∧ (t.lane n).fairness = 0 ∧
        (t.lane n).hold = u.hold ∧ (t.lane n).parkWaiting = false ∧ (t.lane n).latch = Table.full 12 .off ∧
        (∀ c, t.cell c = if c.lane = n then (s.cell c).lose else s.cell c) ∧ s.guardAlone t ∧
        t.quests.records = s.quests.records ∧ s.otherLanesSteady t n
    (s.listening →
      (7 < a.toNat → exec (.parkLane a) s = .next (s.reportActivity.repliedWith 0x18 .badValue [])) ∧
      (u.state = .running → u.slot.isSome = true →
        exec (.parkLane (byte n.val)) s =
          .next
            { s.reportActivity.setLane n { u with parkWaiting := true } with
              link := { s.link with inHand := some (.parkLane n) } }) ∧
      (u.state = .running → u.slot = none → u.parkWaiting = false →
        ∃ t, exec (.parkLane (byte n.val)) s = .next (t.replied 0x18 [2, byte (held t)]) ∧ parkedFromRunning t ∧
          t.rest = s.reportActivity.rest ∧ s.sameBut t [.lanes, .cells, .lamps, .notices, .quests, .rest]) ∧
      (u.state ≠ .running →
        ∃ t, exec (.parkLane (byte n.val)) s = .next (t.replied 0x18 [u.state.code, byte (held s)]) ∧
          (u.state ≠ .parked →
            t.lane n =
              { u with state := .parked, settle := none, hold := none, returnState := none
                       latch := Table.full 12 .off }) ∧
          (u.state = .parked → t.lane n = u) ∧ s.otherLanesSteady t n ∧ t.quests.records = s.quests.records ∧
          t.rest = s.reportActivity.rest ∧ s.sameBut t [.lanes, .quests, .rest])) ∧
    (s.chip = .running → u.state = .running → u.parkWaiting = true → u.slot = none →
      ∃ t, exec (.parkComplete n) s = .next t ∧ parkedFromRunning t ∧
        t.link =
          { s.link with
            inHand := none
            replies := s.link.replies ++ [{ kind := 0x98, status := .success, data := [2, byte (held t)] }] } ∧
        s.sameBut t [.lanes, .cells, .lamps, .notices, .quests, .link])

/-- RUN_LANE links a PARKED lane as from LOST when its connector is present, and otherwise leaves it LOST with a fresh hold timer and no notice, which at a hold time of 0.0 s runs out at once; it is refused on a lane that is not PARKED. A lane clear promotes the first TWIN cell in board order for each serial it drops (R19, R21, R53, R56). -/
def Obligations.RunLaneLinksOrWaits : Prop :=
  ∀ (a : Byte) (n : Lane) (s : State), s.listening →
    let u := s.lane n
    let gone := heldTiles s.cell n
    (7 < a.toNat → exec (.runLane a) s = .next (s.reportActivity.repliedWith 0x19 .badValue [])) ∧
    (u.state ≠ .parked →
      exec (.runLane (byte n.val)) s = .next (s.reportActivity.repliedWith 0x19 .refused [3, u.state.code])) ∧
    (u.state = .parked → u.connector = true →
      exec (.runLane (byte n.val)) s =
        .next
          ((s.reportActivity.setLane n
            { u with state := .linking, returnState := some .lost, settle := some 200, hold := none }).replied 0x19 [1])) ∧
    (u.state = .parked → u.connector = false → s.sensing.hold ≠ 0 →
      ∃ t, exec (.runLane (byte n.val)) s = .next (t.replied 0x19 [3]) ∧
        t.lane n = { u with state := .lost, returnState := none, hold := some s.sensing.hold } ∧
        s.otherLanesSteady t n ∧ t.quests.records = s.quests.records ∧ t.rest = s.reportActivity.rest ∧
        s.sameBut t [.lanes, .quests, .rest]) ∧
    (u.state = .parked → u.connector = false → s.sensing.hold = 0 → (∀ c, (s.cell c).state ≠ .twin) →
      ∃ t, exec (.runLane (byte n.val)) s = .next (t.replied 0x19 [3]) ∧
        t.lane n = { u with state := .absent, returnState := none, hold := none } ∧ t.epoch = s.epoch + 1 ∧
        (∀ c, t.cell c =
          if c.lane = n ∧ (s.cell c).state = .held then
            { s.cell c with state := .vacant, incumbent := none, candidate := none, lift := 0, absent := 0, peak := 0 }
          else s.cell c) ∧
        (s.files .fault →
          t.lastNotice (.laneLost n ((laneCells n).countP fun c => decide ((s.cell c).state = .held ∧ (s.cell c).incumbent.isSome = true)))) ∧
        s.otherLanesSteady t n ∧ t.rest = s.reportActivity.rest ∧ s.passFollows t ∧
        s.sameBut t [.lanes, .cells, .epoch, .notices, .quests, .rest]) ∧
    (u.state = .parked → u.connector = false → s.sensing.hold = 0 → s.serialsUnique →
      ∃ t, exec (.runLane (byte n.val)) s = .next (t.replied 0x19 [3]) ∧
        t.lane n = { u with state := .absent, returnState := none, hold := none } ∧
        s.promotesAll t
          (fun c =>
            if c.lane = n ∧ (s.cell c).state = .held then
              { s.cell c with
                state := .vacant, incumbent := none, candidate := none, lift := 0, absent := 0, peak := 0 }
            else s.cell c)
          s.notices (.laneLost n gone.length) (s.promotions gone) ∧
        s.otherLanesSteady t n ∧ s.sameBut t [.lanes, .cells, .epoch, .notices, .quests, .rest, .play])

/-- LANE_CHECK stays in hand on a RUNNING lane and takes the next slot; CHECK_SLOT_END answers it with the verdict, PASS for the reference responder's code at amplitude 128 to 192, and posts a FAIL to the first-fault record, and the lane's arbiter looks for its next grant (R22, R27, R33, R34, R61). The verdict's byte is a free value (assumption 12). That the pad and the amplitude take one byte each is assumption 13, and the failing symbol assumption 35. -/
def Obligations.LaneCheckGivesItsVerdict : Prop :=
  ∀ (a : Byte) (n : Lane) (marks : List Mark) (s : State),
    let u := s.lane n
    let r := hear true marks
    let pass : Bool :=
      decide (r.kind = .decoded { serial := 0xFFFFF, kind := 63, side := .b, edition := 31 } ∧ 128 ≤ r.amplitude ∧
        r.amplitude ≤ 192)
    (s.listening →
      (7 < a.toNat → exec (.laneCheck a) s = .next (s.reportActivity.repliedWith 0x1A .badValue [])) ∧
      (u.state ≠ .running →
        exec (.laneCheck (byte n.val)) s = .next (s.reportActivity.repliedWith 0x1A .refused [3, u.state.code])) ∧
      (u.state = .running →
        ∃ t, exec (.laneCheck (byte n.val)) s = .next t ∧ (t.lane n).checkPending = true ∧
          (u.slot = none → u.parkWaiting = false → (t.lane n).slot = some .check) ∧
          (u.slot.isSome = true → t.lane n = { u with checkPending := true }) ∧
          t.link = { s.link with inHand := some (.laneCheck n) } ∧ s.otherLanesSteady t n ∧
          t.quests.records = s.quests.records ∧ t.rest = s.reportActivity.rest ∧
          s.sameBut t [.lanes, .quests, .rest, .link])) ∧
    (s.chip = .running → u.state = .running → u.slot = some .check →
      ∃ t, exec (.checkSlotEnd n marks) s = .next t ∧ (t.lane n).checkPending = false ∧
        (t.lane n).latch = u.latch ∧ t.laneGoes n { u with slot := none, checkPending := false } ∧
        t.link =
          { s.link with
            inHand := none
            replies := s.link.replies ++ [{ kind := 0x9A, status := .success, data := checkData pass r }] } ∧
        t.firstFault =
          (if pass then s.firstFault
          else
            match s.firstFault with
            | some f => some { f with later := min 255 (f.later + 1) }
            | none =>
              some { cause := .laneCheck, place := .lane n, outcome := r.kind.outcome, score := 0
                     clock := s.play.clock, later := 0 }) ∧
        s.otherLanesSteady t n ∧ t.quests.records = s.quests.records ∧
        s.sameBut t [.lanes, .link, .firstFault, .quests])

/-- The arbiter grants CHECK, then CONFIRM unless two have gone to a waiting scan, then LAMP, then SCAN, with SCAN ahead of LAMP while CONFIRM is barred; a lane that is not RUNNING or has a slot in flight is granted nothing. A SENSE slot in NORMAL mode reads the first readable cell from the scan pointer on, wrapping; in SWEEP mode it reads the first from where the sweep stands, without wrapping, and the sweep then waits for the next readable cell or, after the last, no more (R27, R28, R29, R30, R31, R32). That the grant settles which cell a sweep asks for next is assumption 30. -/
def Obligations.ArbiterGrantsInOrder : Prop :=
  ∀ (n : Lane) (i : Slot) (rest : List Slot) (s : State),
    let u := s.lane n
    let wants (j : Slot) : Prop :=
      (s.cell ⟨n, j⟩).state = .arriving ∨ (s.cell ⟨n, j⟩).state = .shifting ∨ (s.cell ⟨n, j⟩).state = .lifting
    let barred : Prop := 2 ≤ u.fairness ∧ u.waiting = true
    let lampSlot (v : LaneUnit) : LaneUnit := { v with slot := some (.lamp (s.laneDrive n)), stale := false }
    let senseSlot (v : LaneUnit) : LaneUnit :=
      { v with slot := some (.sense i), pointer := i + 1, waiting := false, pace := some 800, fairness := 0 }
    let idle : Prop := u.state = .running ∧ u.slot = none ∧ u.parkWaiting = false
    let scans : Prop := u.mode = .normal ∧ u.waiting = true ∧ s.readable n i = true ∧
      ∃ k : Slot, i = u.pointer + k ∧ ∀ j, j < k → s.readable n (u.pointer + j) = false
    let sweeps : Prop := u.mode = .sweep ∧ u.waiting = true ∧ s.readable n i = true ∧
      ∃ from_ : Slot, u.sweep = some from_ ∧ from_ ≤ i ∧ ∀ j, from_ ≤ j → j < i → s.readable n j = false
    let sweepSlot (next : Option Slot) : LaneUnit :=
      { u with slot := some (.sense i), sweep := next, waiting := next.isSome, fairness := 0 }
    (¬idle → s.grant n = s) ∧
    (idle → u.checkPending = true → s.grant n = s.setLane n { u with slot := some .check }) ∧
    (idle → u.checkPending = false →
      (¬barred → u.confirms = i :: rest → wants i →
        s.grant n =
          s.setLane n
            { u with confirms := rest, slot := some (.confirm i)
                     fairness := if u.waiting then u.fairness + 1 else 0 }) ∧
      (¬barred → u.confirms = i :: rest → ¬wants i →
        s.grant n = (s.setLane n { u with confirms := rest }).grant n) ∧
      (¬barred → u.confirms = [] → u.stale = true → s.grant n = s.setLane n (lampSlot u)) ∧
      (¬barred → u.confirms = [] → u.stale = false → scans → s.grant n = s.setLane n (senseSlot u)) ∧
      (barred → scans → s.grant n = s.setLane n (senseSlot u)) ∧
      (¬barred → u.confirms = [] → u.stale = false → sweeps →
        (∀ m, i < m → s.readable n m = true → (∀ j, i < j → j < m → s.readable n j = false) →
          s.grant n = s.setLane n (sweepSlot (some m))) ∧
        ((∀ j, i < j → s.readable n j = false) → s.grant n = s.setLane n (sweepSlot none))) ∧
      (barred → sweeps →
        (∀ m, i < m → s.readable n m = true → (∀ j, i < j → j < m → s.readable n j = false) →
          s.grant n = s.setLane n (sweepSlot (some m))) ∧
        ((∀ j, i < j → s.readable n j = false) → s.grant n = s.setLane n (sweepSlot none))) ∧
      (u.confirms = [] → u.stale = false → u.waiting = false → s.grant n = s))

/-- On a RUNNING lane with a slot in flight SCAN_PACE_EXPIRY and SWEEP_TIMER set the scan waiting for its next readable cell, a sweep in progress being left alone; on a lane with none in flight a grant follows at once, which is `ArbiterGrantsInOrder`. LAMP_SLOT_END ends its slot, loads the copied drives into the segment's latch, and lets the arbiter look for the next grant (R22, R27, R30, R31, R32). That the fairness count is 0 when a scan begins to wait is assumption 10. -/
def Obligations.LaneTimersAndLampSlots : Prop :=
  ∀ (n : Lane) (copy : Table 12 Drive) (s : State), s.chip = .running →
    let u := s.lane n
    u.state = .running →
    (u.mode = .normal → u.pace.isSome = true → u.slot.isSome = true → s.allRetired n = false →
      ∃ t, exec (.scanPaceExpiry n) s = .next t ∧ t.lane n = { u with pace := none, waiting := true, fairness := 0 } ∧
        s.otherLanesSteady t n ∧ t.quests.records = s.quests.records ∧ s.sameBut t [.lanes, .quests]) ∧
    (u.sweepTimer.isSome = true → u.slot.isSome = true →
      ∃ t, exec (.sweepTimer n) s = .next t ∧
        (u.waiting = true → t.lane n = { u with sweepTimer := some 250 }) ∧
        (u.waiting = false → s.allRetired n = false →
          ∃ i, s.readable n i = true ∧ (∀ j, j < i → s.readable n j = false) ∧
            t.lane n = { u with sweepTimer := some 250, sweep := some i, waiting := true, fairness := 0 }) ∧
        s.otherLanesSteady t n ∧ t.quests.records = s.quests.records ∧ s.sameBut t [.lanes, .quests]) ∧
    (u.slot = some (.lamp copy) →
      ∃ t, exec (.lampSlotEnd n) s = .next t ∧ ({ u with latch := copy } : LaneUnit).steady (t.lane n) ∧
        t.laneGoes n { u with slot := none, latch := copy } ∧ s.otherLanesSteady t n ∧
        t.quests.records = s.quests.records ∧ s.sameBut t [.lanes, .quests])

/-! ### The Cell Tracker -/

/-- A read outcome taken while the guard is HOLDING or SETTLING changes no cell, commits nothing, asks for no CONFIRM and wakes nothing; its slot ends, and the arbiter looks for the next grant (R22, R27, R40). Under every guard state an outcome of the watched cell leaves an entry in the trace, with what it was judged to be and by which threshold, whether the gate discarded it, the serial of a decoded result and the clock; a full trace loses its oldest entry and overruns (R38, R63). -/
def Obligations.GuardGateDiscardsOutcomes : Prop :=
  (∀ (n : Lane) (c : CellId) (k : SlotKind) (marks : List Mark) (s : State), s.chip = .running →
    s.lamps.guard = .holding ∨ s.lamps.guard = .settling → s.readInFlight n = some (c, k) →
    ∃ t, exec (.readSlotEnd n marks) s = .next t ∧ s.lanesSteady t ∧ t.quests.records = s.quests.records ∧
      t.laneGoes n ((s.lane n).slotEnded c.slot false) ∧ s.traces t c k (hear false marks) ∧
      s.sameBut t [.lanes, .watch, .quests]) ∧
  (∀ (n : Lane) (c : CellId) (k : SlotKind) (marks : List Mark) (s : State), s.chip = .running →
    s.readInFlight n = some (c, k) →
    ∃ t, exec (.readSlotEnd n marks) s = .next t ∧ s.traces t c k (hear false marks))

/-- What one read that passes the gate does to its cell short of a board change: a tile first seen makes a VACANT cell ARRIVING, an ABSENT read makes a SEATED cell LIFTING and a LIFTING one count, a GOOD read of the seated tile lowers the score, and a faulty SENSE read raises it. Its slot ends, with a CONFIRM asked for where the cell enters ARRIVING, SHIFTING or LIFTING or counts on short of completion, and the arbiter looks for the next grant (R22, R27, R28, R38, R39, R41, R42, R43, R45, R47). -/
def Obligations.ReadsStepTheirCell : Prop :=
  ∀ (n : Lane) (c : CellId) (k : SlotKind) (marks : List Mark) (code : TagCode) (inc : Incumbent) (s : State),
    s.chip = .running → s.rest.part ≠ .resting → s.lamps.guard = .clear ∨ s.lamps.guard = .dimmed →
    s.readInFlight n = some (c, k) →
    let r := s.cell c
    let raw := hear false marks
    let threshold := max (Table.read s.sensing.floors c.lane) (r.peak / 2)
    let good : Prop := raw.kind = .decoded code ∧ threshold ≤ raw.amplitude
    let faulty : Prop :=
      raw.kind = .decoded code ∧ raw.amplitude < threshold ∨ raw.kind = .garbled ∨ raw.kind = .stalled ∨
        ∃ j, raw.kind = .parity j
    let tile : TileRead :=
      { serial := code.serial, kind := code.kind, side := code.side, edition := code.edition, pad := raw.pad.getD 0 }
    let peak := if r.peak ≤ raw.amplitude then raw.amplitude else r.peak - (r.peak - raw.amplitude + 7) / 8
    let becomes (asks : Bool) (q : CellRec) : Prop :=
      ∃ t, exec (.readSlotEnd n marks) s = .next t ∧ t.cell c = q ∧ (∀ d, d ≠ c → t.cell d = s.cell d) ∧
        s.lanesSteady t ∧ t.laneGoes n ((s.lane n).slotEnded c.slot asks) ∧ s.traces t c k raw ∧
        t.quests.records = s.quests.records ∧ s.sameBut t [.lanes, .cells, .watch, .quests]
    (r.state = .vacant → good → 2 ≤ s.sensing.arriveN →
      becomes true
        { r with state := .arriving, incumbent := none, candidate := some { tile := tile, arrive := 1 }, lift := 0
                 absent := 0, peak := peak }) ∧
    (r.state = .vacant → faulty ∨ raw.kind = .absent → becomes false r) ∧
    (r.state = .seated → r.incumbent = some inc →
      (raw.kind = .absent → 2 ≤ s.sensing.liftN → becomes true { r with state := .lifting, candidate := none, lift := 1 }) ∧
      (good → tile = inc.tile →
        becomes false
          { r with state := .seated, candidate := none, lift := 0, peak := peak
                   score := if k = .sense then r.score - 1 else r.score }) ∧
      (good → tile ≠ inc.tile → 2 ≤ s.sensing.arriveN →
        becomes true
          { r with state := .shifting, candidate := some { tile := tile, arrive := 1 }, lift := 0, peak := peak })) ∧
    (r.state = .lifting → r.incumbent = some inc → raw.kind = .absent → r.lift + 1 < s.sensing.liftN →
      becomes true { r with lift := r.lift + 1 }) ∧
    (r.state = .seated ∨ r.state = .lifting → r.incumbent = some inc → faulty →
      (k = .confirm → becomes false r) ∧
      (k = .sense → min 15 (r.score + 2) < 12 → becomes false { r with score := min 15 (r.score + 2) }))

/-- The read that brings an arrival to arrive_n seats its tile, with facing, player, clock, verdict and owner as they stand, commits one board change with its ARRIVAL notice and reports a move; a serial that another cell holds makes a TWIN instead, with its TWIN notice that names the cell that holds the serial (R147). Its slot ends without a CONFIRM asked for, and the arbiter looks for the next grant (R11, R22, R27, R42, R44, R57, R58). -/
def Obligations.CompletedArrivalSeatsTheTile : Prop :=
  ∀ (n : Lane) (c : CellId) (k : SlotKind) (marks : List Mark) (code : TagCode) (cand : Candidate) (s : State),
    s.chip = .running → s.rest.part ≠ .resting → s.lamps.guard = .clear ∨ s.lamps.guard = .dimmed →
    s.readInFlight n = some (c, k) →
    let r := s.cell c
    let raw := hear false marks
    let peak := if r.peak ≤ raw.amplitude then raw.amplitude else r.peak - (r.peak - raw.amplitude + 7) / 8
    let heading : Fin 4 := match Table.read s.plan c.lane with | some p => p.h | none => 0
    r.state = .arriving → r.candidate = some cand → s.sensing.arriveN ≤ cand.arrive + 1 → raw.kind = .decoded code →
    max (Table.read s.sensing.floors c.lane) (r.peak / 2) ≤ raw.amplitude →
    cand.tile =
      { serial := code.serial, kind := code.kind, side := code.side, edition := code.edition, pad := raw.pad.getD 0 } →
    ∃ t, exec (.readSlotEnd n marks) s = .next t ∧ (∀ d, d ≠ c → t.cell d = s.cell d) ∧ t.epoch = s.epoch + 1 ∧
      s.lanesSteady t ∧ t.laneGoes n ((s.lane n).slotEnded c.slot false) ∧ s.traces t c k raw ∧ s.passFollows t ∧
      t.rest = s.reportActivity.rest ∧
      ((∀ d, d ≠ c → (s.cell d).holds cand.tile.serial = false) →
        t.cell c =
          { r with
            state := .seated, candidate := none, lift := 0, absent := 0, peak := peak
            incumbent :=
              some
                { tile := cand.tile, facing := cand.tile.pad + heading, placedBy := s.play.current
                  seatedAt := s.play.clock
                  counting := (s.roster.verdict cand.tile.serial cand.tile.edition).1
                  owner := (s.roster.verdict cand.tile.serial cand.tile.edition).2 } } ∧
        (s.position c = none ∨ s.play.turns = false → t.play = s.play ∧
          t.notices = s.committed [.arrival ⟨c, s.position c⟩ cand.tile (cand.tile.pad + heading) false] ∧
          (s.files .board →
            t.lastNotice (.arrival ⟨c, s.position c⟩ cand.tile (cand.tile.pad + heading) false))) ∧
        ((s.position c).isSome = true → s.play.turns = true → s.play.movesPerTurn = 0 →
          t.play = { s.play with moves := min 255 (s.play.moves + 1) })) ∧
      (∀ d, d ≠ c → (s.cell d).holds cand.tile.serial = true →
        t.cell c =
          { r with state := .twin, incumbent := none, candidate := some { cand with arrive := cand.arrive + 1 }
                   lift := 0, absent := 0, peak := peak } ∧
        t.play = s.play ∧
        ((∀ e, e ≠ c → e.lane < d.lane ∨ e.lane = d.lane ∧ e.slot < d.slot →
            (s.cell e).holds cand.tile.serial = false) →
          t.notices = s.committed [.twin ⟨c, s.position c⟩ cand.tile.serial d] ∧
            (s.files .board → t.lastNotice (.twin ⟨c, s.position c⟩ cand.tile.serial d)))) ∧
      s.sameBut t [.lanes, .cells, .epoch, .watch, .quests, .rest, .notices, .play]

/-- The ABSENT read that brings a lift to lift_n empties the cell and commits a LIFT with reason READ, and the first TWIN cell in board order for that serial is promoted: seated with facing, player, clock, verdict and owner as they stand, in a board change of its own with a promoted ARRIVAL and a move (R11, R47, R53, R57, R58). The slot ends without a CONFIRM asked for, and the arbiter looks for the next grant (R22, R27, R42). `State.firstTwin` is that first TWIN cell, of whatever serial. -/
def Obligations.CompletedLiftEmptiesTheCell : Prop :=
  (∀ (n : Lane) (c : CellId) (k : SlotKind) (marks : List Mark) (inc : Incumbent) (s : State),
    s.chip = .running → s.rest.part ≠ .resting → s.lamps.guard = .clear ∨ s.lamps.guard = .dimmed →
    s.readInFlight n = some (c, k) → (hear false marks).kind = .absent → (s.cell c).state = .lifting →
    (s.cell c).incumbent = some inc → s.sensing.liftN ≤ (s.cell c).lift + 1 →
    ∃ t, exec (.readSlotEnd n marks) s = .next t ∧
      t.cell c =
        { s.cell c with state := .vacant, incumbent := none, candidate := none, lift := 0, absent := 0, peak := 0 } ∧
      s.passFollows t ∧ t.rest = s.reportActivity.rest ∧ s.lanesSteady t ∧
      t.laneGoes n ((s.lane n).slotEnded c.slot false) ∧ s.traces t c k (hear false marks) ∧
      ((∀ d cand, d ≠ c → (s.cell d).state = .twin → (s.cell d).candidate = some cand →
          cand.tile.serial ≠ inc.tile.serial) →
        (∀ d, d ≠ c → t.cell d = s.cell d) ∧ t.epoch = s.epoch + 1 ∧ t.play = s.play ∧
          t.notices = s.committed [.lift ⟨c, s.position c⟩ inc.tile.serial .read] ∧
          (s.files .board → t.lastNotice (.lift ⟨c, s.position c⟩ inc.tile.serial .read))) ∧
      (∀ d cand, d ≠ c → (s.cell d).state = .twin → (s.cell d).candidate = some cand →
        cand.tile.serial = inc.tile.serial →
        (∀ e cand', e.lane < d.lane ∨ e.lane = d.lane ∧ e.slot < d.slot → (s.cell e).state = .twin →
          (s.cell e).candidate = some cand' → cand'.tile.serial ≠ inc.tile.serial) →
        t.cell d = s.seatedRecord d cand.tile s.play.current ∧ (∀ e, e ≠ c → e ≠ d → t.cell e = s.cell e) ∧
          t.epoch = s.epoch + 2 ∧
          (s.movesFreely ∨ s.position d = none →
            t.play = s.playMoved [d] ∧
              t.notices =
                s.committed
                  [.lift ⟨c, s.position c⟩ inc.tile.serial .read, s.promotedNotice d cand.tile])) ∧
      s.sameBut t [.lanes, .cells, .epoch, .watch, .quests, .rest, .notices, .play]) ∧
  (∀ (x : Serial) (d : CellId) (tile : TileRead) (s : State),
    let twin (e : CellId) : Prop :=
      (s.cell e).state = .twin ∧ ∃ cand, (s.cell e).candidate = some cand ∧ cand.tile.serial = x
    (s.firstTwin x = some (d, tile) ↔
      twin d ∧ (∃ cand, (s.cell d).candidate = some cand ∧ cand.tile = tile) ∧
        ∀ e, e.lane < d.lane ∨ e.lane = d.lane ∧ e.slot < d.slot → ¬twin e) ∧
      (s.firstTwin x = none ↔ ∀ e, ¬twin e))

/-- What a read does to a cell that is ARRIVING, SHIFTING, LIFTING, TWIN or SUSPECT, and to any cell at arrive_n or lift_n 1. A completed shift is a ROTATE of the same tile, a SWAP for one that no other cell holds, or for one that another cell holds a LIFT with reason DISPLACED and then a TWIN. A GOOD read of another tile makes a new candidate; of a TWIN cell it ends the twin first. A twin tile read gone at lift_n leaves with TWIN_END. A faulty SENSE read raises the score; one that brings it to 12 makes the cell SUSPECT, or RETIRED at what would be its third entry, and posts its cause. A SUSPECT cell whose score falls to 4 recovers, and its tile can be read gone. HELD and RETIRED cells take no read. Every slot ends, a CONFIRM asked for where the cell enters ARRIVING, SHIFTING or LIFTING or counts on short of completion, and the arbiter looks for the next grant. A SWAP, a LIFT or a retirement promotes the first TWIN cell in board order for the serial that left, after every board change of its own (R22, R27, R28, R39, R41, R42, R44 to R50, R53, R61). The order of what a SUSPECT entry queues is assumption 16; that a ROTATE keeps the owner, assumption 17; that the peak of a HELD or RETIRED cell does not move, assumption 19, and that a GOOD CONFIRM moves a SUSPECT cell's, assumption 32; when a scan with no cell left to read stops is assumption 22. -/
def Obligations.ShiftsTwinsAndSuspects : Prop :=
  ∀ (n : Lane) (c : CellId) (k : SlotKind) (marks : List Mark) (code : TagCode) (inc : Incumbent) (cand : Candidate)
    (s : State), s.chip = .running → s.rest.part ≠ .resting → s.lamps.guard = .clear ∨ s.lamps.guard = .dimmed →
    s.readInFlight n = some (c, k) →
    let r := s.cell c
    let raw := hear false marks
    let threshold := max (Table.read s.sensing.floors c.lane) (r.peak / 2)
    let good : Prop := raw.kind = .decoded code ∧ threshold ≤ raw.amplitude
    let weak : Prop := raw.kind = .decoded code ∧ raw.amplitude < threshold
    let faulty : Prop := weak ∨ raw.kind = .garbled ∨ raw.kind = .stalled ∨ ∃ j, raw.kind = .parity j
    let kind : OutcomeKind := if raw.kind = .decoded code then .weak else raw.kind.outcome
    let tile : TileRead :=
      { serial := code.serial, kind := code.kind, side := code.side, edition := code.edition, pad := raw.pad.getD 0 }
    let peak := if r.peak ≤ raw.amplitude then raw.amplitude else r.peak - (r.peak - raw.amplitude + 7) / 8
    let heading : Fin 4 := match Table.read s.plan c.lane with | some p => p.h | none => 0
    let ended (asks : Bool) : LaneUnit := (s.lane n).slotEnded c.slot asks
    let retiring (t : State) : Prop := t.laneGoes n (s.laneRetires t n (ended false))
    let alone (t : State) : Prop := (∀ d, d ≠ c → t.cell d = s.cell d) ∧ s.lanesSteady t ∧ s.traces t c k raw
    let becomes (asks : Bool) (q : CellRec) : Prop :=
      ∃ t, exec (.readSlotEnd n marks) s = .next t ∧ t.cell c = q ∧ alone t ∧ t.laneGoes n (ended asks) ∧
        t.quests.records = s.quests.records ∧ s.sameBut t [.lanes, .cells, .watch, .quests]
    let commits (q : CellRec) (b : NoticeBody) : Prop :=
      ∃ t, exec (.readSlotEnd n marks) s = .next t ∧ t.cell c = q ∧ alone t ∧ t.laneGoes n (ended false) ∧
        t.epoch = s.epoch + 1 ∧ s.passFollows t ∧ t.rest = s.reportActivity.rest ∧
        (s.files .board → s.play.turns = false → t.lastNotice b) ∧
        (s.play.turns = false → t.play = s.play) ∧
        s.sameBut t [.lanes, .cells, .epoch, .watch, .quests, .rest, .notices, .play]
    let posted (cause : FaultCause) : Option FirstFault :=
      match s.firstFault with
      | some f => some { f with later := min 255 (f.later + 1) }
      | none =>
        some { cause := cause, place := .cell c, outcome := kind, score := min 15 (r.score + 2), clock := s.play.clock
               later := 0 }
    let place : CellAt := ⟨c, s.position c⟩
    let raised := min 15 (r.score + 2)
    let seen : Candidate := { tile := tile, arrive := 1 }
    let heir : Option (CellId × TileRead) := r.incumbent.bind fun i => s.firstTwin i.tile.serial
    let lone : Prop := ∀ d, d ≠ c → (s.cell d).holds tile.serial = false
    let holder (h : CellId) : Prop :=
      h ≠ c ∧ (s.cell h).holds tile.serial = true ∧
        ∀ e, e ≠ c → e.lane < h.lane ∨ e.lane = h.lane ∧ e.slot < h.slot → (s.cell e).holds tile.serial = false
    let twinned (t : Candidate) : CellRec :=
      { r with state := .twin, incumbent := none, candidate := some t, lift := 0, absent := 0, peak := peak }
    let fresh : CellRec :=
      { r with
        state := .seated, candidate := none, lift := 0, absent := 0, peak := peak
        incumbent :=
          some
            { tile := tile, facing := tile.pad + heading, placedBy := s.play.current, seatedAt := s.play.clock
              counting := (s.roster.verdict tile.serial tile.edition).1
              owner := (s.roster.verdict tile.serial tile.edition).2 } }
    let commitsAll (asks : Bool) (q : CellRec) (bs : List NoticeBody) : Prop :=
      ∃ t, exec (.readSlotEnd n marks) s = .next t ∧ t.cell c = q ∧ alone t ∧
        t.laneGoes n (ended asks) ∧ t.epoch = s.epoch + BitVec.ofNat 16 bs.length ∧ s.passFollows t ∧
        t.rest = s.reportActivity.rest ∧
        (s.play.turns = false →
          t.play = s.play ∧
            t.notices = (bs.foldl (fun u b => { u with epoch := u.epoch + 1 }.notify b) s).notices) ∧
        s.sameBut t [.lanes, .cells, .epoch, .watch, .quests, .rest, .notices, .play]
    let others (t : State) (d : CellId) : Prop :=
      (∀ e, e ≠ c → e ≠ d → t.cell e = s.cell e) ∧ s.lanesSteady t ∧ s.traces t c k raw
    let promotes (q : CellRec) (bs : List NoticeBody) (moved : List CellId) (d : CellId) (x : TileRead) : Prop :=
      ∃ t, exec (.readSlotEnd n marks) s = .next t ∧ t.cell c = q ∧
        (∃ who, t.cell d = s.seatedRecord d x who ∧ (s.movesFreely ∨ moved = [] → who = s.play.current)) ∧
        others t d ∧ t.laneGoes n (ended false) ∧ t.epoch = s.epoch + BitVec.ofNat 16 (bs.length + 1) ∧
        s.passFollows t ∧ t.rest = s.reportActivity.rest ∧
        (s.movesFreely →
          t.play = s.playMoved (moved ++ [d]) ∧ t.notices = s.committed (bs ++ [s.promotedNotice d x])) ∧
        s.sameBut t [.lanes, .cells, .epoch, .watch, .quests, .rest, .notices, .play]
    let left : List NoticeBody :=
      (r.incumbent.map fun i => .lift place i.tile.serial .retired).toList ++
        if r.state = .twin then [.twinEnd place cand.tile.serial .retired] else []
    let toldRetired (t : State) (after : List NoticeBody) : Prop :=
      t.lamps.guard = s.lamps.guard → t.notices = (s.notify (.retired place true 3)).committed (left ++ after)
    let retiresWithHeir (d : CellId) (x : TileRead) : Prop :=
      ∃ t, exec (.readSlotEnd n marks) s = .next t ∧ others t d ∧ retiring t ∧ t.firstFault = posted .autoRetire ∧
        t.cell c =
          { r with state := .retired, incumbent := none, candidate := none, lift := 0, absent := 0, peak := 0
                   entries := 3, score := raised } ∧
        t.cell d = s.seatedRecord d x s.play.current ∧ t.epoch = s.epoch + 2 ∧ s.passFollows t ∧
        t.rest = s.reportActivity.rest ∧ (s.movesFreely → t.play = s.playMoved [d] ∧ toldRetired t [s.promotedNotice d x]) ∧
        s.sameBut t [.lanes, .cells, .watch, .quests, .firstFault, .notices, .epoch, .rest, .lamps, .play]
    (r.state = .arriving → r.candidate = some cand →
      (good → tile = cand.tile → cand.arrive + 1 < s.sensing.arriveN →
        becomes true { r with candidate := some { cand with arrive := cand.arrive + 1 }, absent := 0, peak := peak }) ∧
      (raw.kind = .absent → r.absent = 0 → becomes true { r with absent := 1 }) ∧
      (raw.kind = .absent → 1 ≤ r.absent →
        becomes false
          { r with state := .vacant, incumbent := none, candidate := none, lift := 0, absent := 0, peak := 0 })) ∧
    (r.state = .shifting → r.incumbent = some inc → r.candidate = some cand →
      (good → tile = inc.tile → tile ≠ cand.tile →
        becomes false
          { r with state := .seated, candidate := none, lift := 0, peak := peak
                   score := if k = .sense then r.score - 1 else r.score }) ∧
      (good → tile = cand.tile → cand.arrive + 1 < s.sensing.arriveN →
        becomes true { r with candidate := some { cand with arrive := cand.arrive + 1 }, peak := peak }) ∧
      (good → tile = cand.tile → s.sensing.arriveN ≤ cand.arrive + 1 → tile.serial = inc.tile.serial →
        commits
          { r with
            state := .seated, candidate := none, peak := peak
            incumbent :=
              some { inc with tile := tile, facing := tile.pad + heading
                              counting := (s.roster.verdict tile.serial tile.edition).1 } }
          (.rotate ⟨c, s.position c⟩ tile (tile.pad + heading))) ∧
      (good → tile = cand.tile → s.sensing.arriveN ≤ cand.arrive + 1 → tile.serial ≠ inc.tile.serial →
        lone → heir = none →
        commits
          { r with
            state := .seated, candidate := none, peak := raw.amplitude
            incumbent :=
              some
                { tile := tile, facing := tile.pad + heading, placedBy := s.play.current, seatedAt := s.play.clock
                  counting := (s.roster.verdict tile.serial tile.edition).1
                  owner := (s.roster.verdict tile.serial tile.edition).2 } }
          (.swap ⟨c, s.position c⟩ tile (tile.pad + heading))) ∧
      (good → tile = cand.tile → s.sensing.arriveN ≤ cand.arrive + 1 → tile.serial ≠ inc.tile.serial → lone →
        ∀ d x, heir = some (d, x) →
          promotes { fresh with lift := r.lift, absent := r.absent, peak := raw.amplitude }
            [.swap place tile (tile.pad + heading)] [c] d x)) ∧
    (r.state = .twin → r.candidate = some cand →
      (good → tile = cand.tile → becomes false { r with lift := 0, peak := peak }) ∧
      (raw.kind = .absent → r.lift + 1 < s.sensing.liftN → becomes false { r with lift := r.lift + 1 }) ∧
      (raw.kind = .absent → s.sensing.liftN ≤ r.lift + 1 →
        commits
          { r with state := .vacant, incumbent := none, candidate := none, lift := 0, absent := 0, peak := 0 }
          (.twinEnd ⟨c, s.position c⟩ cand.tile.serial .read))) ∧
    (r.state = .seated ∨ r.state = .lifting → r.incumbent = some inc → k = .sense → faulty →
      12 ≤ min 15 (r.score + 2) →
      (r.entries < 2 →
        ∃ t, exec (.readSlotEnd n marks) s = .next t ∧ alone t ∧ t.laneGoes n (ended false) ∧
          t.firstFault = posted .suspect ∧
          t.cell c =
            { r with state := .suspect, candidate := none, absent := 0, entries := r.entries + 1
                     score := min 15 (r.score + 2), lift := if r.state = .lifting then r.lift else 0 } ∧
          (s.files .fault →
            t.lastNotice (.suspect ⟨c, s.position c⟩ (min 15 (r.score + 2)) (r.entries + 1))) ∧
          t.quests.records = s.quests.records ∧
          s.sameBut t [.lanes, .cells, .watch, .quests, .firstFault, .notices]) ∧
      (2 ≤ r.entries → heir = none →
        ∃ t, exec (.readSlotEnd n marks) s = .next t ∧ alone t ∧ retiring t ∧ t.firstFault = posted .autoRetire ∧
          t.cell c =
            { r with state := .retired, incumbent := none, candidate := none, lift := 0, absent := 0, peak := 0
                     entries := 3, score := min 15 (r.score + 2) } ∧
          t.epoch = s.epoch + 1 ∧ s.passFollows t ∧ t.rest = s.reportActivity.rest ∧ t.play = s.play ∧ toldRetired t [] ∧
          s.sameBut t [.lanes, .cells, .watch, .quests, .firstFault, .notices, .epoch, .rest, .lamps]) ∧
      (2 ≤ r.entries → ∀ d x, heir = some (d, x) → retiresWithHeir d x)) ∧
    (r.state = .suspect →
      (k = .confirm → good → becomes false { r with peak := peak }) ∧ (k = .confirm → faulty → becomes false r) ∧
      (k = .sense → faulty → becomes false { r with score := min 15 (r.score + 2) }) ∧
      (k = .sense → good → 4 < r.score - 1 → becomes false { r with score := r.score - 1, lift := 0, peak := peak }) ∧
      (raw.kind = .absent → r.incumbent = none → becomes false r) ∧
      (k = .sense → good → r.score - 1 ≤ 4 →
        ∃ t, exec (.readSlotEnd n marks) s = .next t ∧ alone t ∧ t.laneGoes n (ended false) ∧
          t.cell c =
            (if r.incumbent.isSome then { r with state := .seated, score := r.score - 1, lift := 0, peak := peak }
            else
              { r with state := .vacant, incumbent := none, candidate := none, score := r.score - 1, lift := 0
                       absent := 0, peak := 0 }) ∧
          (s.files .fault →
            t.lastNotice (.recovered ⟨c, s.position c⟩ (r.score - 1) r.incumbent.isSome)) ∧
          t.quests.records = s.quests.records ∧ s.sameBut t [.lanes, .cells, .watch, .quests, .notices])) ∧
    (r.state = .held ∨ r.state = .retired → becomes false r) ∧
    (r.state = .arriving ∧ r.incumbent = none ∧ r.candidate = some cand ∨
        r.state = .shifting ∧ r.incumbent = some inc ∧ r.candidate = some cand ∨
        r.state = .twin ∧ r.incumbent = none ∧ r.candidate = some cand →
      faulty →
      (k = .confirm → becomes false r) ∧
      (k = .sense → raised < 12 → becomes false { r with score := raised }) ∧
      (k = .sense → 12 ≤ raised → r.entries < 2 →
        ∃ t, exec (.readSlotEnd n marks) s = .next t ∧ alone t ∧ t.laneGoes n (ended false) ∧
          t.firstFault = posted .suspect ∧
          t.cell c =
            { r with state := .suspect, candidate := none, lift := 0, absent := 0, entries := r.entries + 1
                     score := raised } ∧
          (r.state ≠ .twin →
            t.epoch = s.epoch ∧ t.rest = s.rest ∧
              t.notices = (s.notify (.suspect place raised (r.entries + 1))).notices) ∧
          (r.state = .twin →
            t.epoch = s.epoch + 1 ∧ s.passFollows t ∧ t.rest = s.reportActivity.rest ∧
              t.notices =
                (({ s with epoch := s.epoch + 1 }.notify (.twinEnd place cand.tile.serial .suspect)).notify
                  (.suspect place raised (r.entries + 1))).notices) ∧
          t.quests.records = s.quests.records ∧
          s.sameBut t [.lanes, .cells, .watch, .quests, .firstFault, .notices, .epoch, .rest]) ∧
      (k = .sense → 12 ≤ raised → 2 ≤ r.entries → heir = none →
        ∃ t, exec (.readSlotEnd n marks) s = .next t ∧ alone t ∧ retiring t ∧ t.firstFault = posted .autoRetire ∧
          t.cell c =
            { r with state := .retired, incumbent := none, candidate := none, lift := 0, absent := 0, peak := 0
                     entries := 3, score := raised } ∧
          t.epoch = (if r.state = .arriving then s.epoch else s.epoch + 1) ∧ s.passFollows t ∧
          t.rest = (if r.state = .arriving then s.rest else s.reportActivity.rest) ∧ t.play = s.play ∧ toldRetired t [] ∧
          s.sameBut t [.lanes, .cells, .watch, .quests, .firstFault, .notices, .epoch, .rest, .lamps]) ∧
      (k = .sense → 12 ≤ raised → 2 ≤ r.entries → ∀ d x, heir = some (d, x) → retiresWithHeir d x)) ∧
    (good → 2 ≤ s.sensing.arriveN →
      (r.state = .arriving → r.candidate = some cand → tile ≠ cand.tile →
        becomes true { r with incumbent := none, candidate := some seen, lift := 0, absent := 0, peak := peak }) ∧
      (r.state = .shifting → r.incumbent = some inc → r.candidate = some cand → tile ≠ cand.tile → tile ≠ inc.tile →
        becomes true { r with candidate := some seen, lift := 0, peak := peak }) ∧
      (r.state = .lifting → r.incumbent = some inc → tile ≠ inc.tile →
        becomes true { r with state := .shifting, candidate := some seen, lift := 0, peak := peak }) ∧
      (r.state = .twin → r.candidate = some cand → tile ≠ cand.tile →
        commitsAll true
          { r with state := .arriving, incumbent := none, candidate := some seen, lift := 0, absent := 0, peak := peak }
          [.twinEnd place cand.tile.serial .read])) ∧
    (r.state = .lifting → r.incumbent = some inc → good → tile = inc.tile →
      becomes false
        { r with state := .seated, candidate := none, lift := 0, peak := peak
                 score := if k = .sense then r.score - 1 else r.score }) ∧
    (r.state = .shifting → r.incumbent = some inc → r.candidate = some cand → raw.kind = .absent →
      2 ≤ s.sensing.liftN → becomes true { r with state := .lifting, candidate := none, lift := 1 }) ∧
    (r.state = .suspect → r.incumbent = some inc → raw.kind = .absent →
      (r.lift + 1 < s.sensing.liftN → becomes false { r with lift := r.lift + 1 }) ∧
      (s.sensing.liftN ≤ r.lift + 1 → ∀ d x, heir = some (d, x) →
        promotes { r with incumbent := none, lift := 0 } [.lift place inc.tile.serial .read] [] d x) ∧
      (s.sensing.liftN ≤ r.lift + 1 → heir = none →
        commitsAll false { r with incumbent := none, lift := 0 } [.lift place inc.tile.serial .read])) ∧
    (good → s.sensing.arriveN ≤ 1 →
      (r.state = .vacant ∨ r.state = .arriving ∧ r.candidate = some cand ∧ tile ≠ cand.tile →
        (lone → commitsAll false fresh [.arrival place tile (tile.pad + heading) false]) ∧
          ∀ h, holder h → commitsAll false (twinned seen) [.twin place tile.serial h]) ∧
      (r.state = .twin → r.candidate = some cand → tile ≠ cand.tile →
        (lone →
          commitsAll false fresh
            [.twinEnd place cand.tile.serial .read, .arrival place tile (tile.pad + heading) false]) ∧
          ∀ h, holder h →
            commitsAll false (twinned seen) [.twinEnd place cand.tile.serial .read, .twin place tile.serial h]) ∧
      ((r.state = .seated ∨ r.state = .lifting) ∧ r.incumbent = some inc ∧ tile ≠ inc.tile ∨
          r.state = .shifting ∧ r.incumbent = some inc ∧ r.candidate = some cand ∧ tile ≠ cand.tile ∧
            tile ≠ inc.tile →
        (tile.serial = inc.tile.serial →
          commitsAll false
            { r with
              state := .seated, candidate := none, lift := 0, peak := peak
              incumbent :=
                some { inc with tile := tile, facing := tile.pad + heading
                                counting := (s.roster.verdict tile.serial tile.edition).1 } }
            [.rotate place tile (tile.pad + heading)]) ∧
        (tile.serial ≠ inc.tile.serial → lone →
          (heir = none →
            commitsAll false { fresh with absent := r.absent, peak := raw.amplitude }
              [.swap place tile (tile.pad + heading)]) ∧
          ∀ d x, heir = some (d, x) →
            promotes { fresh with absent := r.absent, peak := raw.amplitude }
              [.swap place tile (tile.pad + heading)] [c] d x) ∧
        (tile.serial ≠ inc.tile.serial →
          ∀ h, holder h →
            (heir = none →
              commitsAll false (twinned seen) [.lift place inc.tile.serial .displaced, .twin place tile.serial h]) ∧
            ∀ d x, heir = some (d, x) →
              promotes (twinned seen) [.lift place inc.tile.serial .displaced, .twin place tile.serial h] [] d x))) ∧
    (raw.kind = .absent → s.sensing.liftN ≤ 1 →
      r.state = .seated ∧ r.incumbent = some inc ∨
        r.state = .shifting ∧ r.incumbent = some inc ∧ r.candidate = some cand →
      (heir = none →
        commitsAll false
          { r with state := .vacant, incumbent := none, candidate := none, lift := 0, absent := 0, peak := 0 }
          [.lift place inc.tile.serial .read]) ∧
      ∀ d x, heir = some (d, x) →
        promotes
          { r with state := .vacant, incumbent := none, candidate := none, lift := 0, absent := 0, peak := 0 }
          [.lift place inc.tile.serial .read] [] d x) ∧
    (r.state = .shifting → r.incumbent = some inc → r.candidate = some cand → good → tile = cand.tile →
      s.sensing.arriveN ≤ cand.arrive + 1 → tile.serial ≠ inc.tile.serial →
      ∀ h, holder h →
        (heir = none →
          commitsAll false (twinned { cand with arrive := cand.arrive + 1 })
            [.lift place inc.tile.serial .displaced, .twin place tile.serial h]) ∧
        ∀ d x, heir = some (d, x) →
          promotes (twinned { cand with arrive := cand.arrive + 1 })
            [.lift place inc.tile.serial .displaced, .twin place tile.serial h] [] d x)

/-- A tag reply that starts within the answer window and ends within the last stretch is heard as the code it carries, on its pad, with its amplitude; in a read slot a reserved serial is heard as GARBLED, before a failing symbol is heard as PARITY with its number. Where no mark arrives within the answer window the slot is ABSENT, with no pad and amplitude 0. A mark of the polarity of the one before it is a violation, heard as GARBLED; so is a reply that falls silent, unless its silence lasts to the end of the last stretch, when it is STALLED, as is a reply that is too slow to end in time. Marks on other pads after the first count for nothing (R23, R24, R25, R26, R174). Replies exactly on a border (a first mark at 300 us, a reply complete at 1,100 us, a silence that is too long at 1,100 us, a last pulse of three quarters of its bit time) are taken in by assumption 11, and marks begun but not complete at 1,100 us by assumption 31. -/
def Obligations.TagRepliesAreHeard : Prop :=
  (∀ (w : BitVec 32) (pad : Fin 4) (first period height : Nat) (check : Bool), 0 < period → first ≤ 300000 →
      first + 36 * (4 * period) ≤ 1100000 → height ≤ 255 →
      let serial := w.extractLsb' 0 20
      let heard := hear check (idealReply (codeBits w) pad first period height)
      heard.pad = some pad ∧ heard.amplitude = height ∧
        (check = true ∨ (serial ≠ 0 ∧ serial ≠ 0xFFFFF) →
          heard.kind =
            .decoded
              { serial := serial, kind := (w.extractLsb' 20 6).toFin, side := if w.getLsbD 26 then .b else .a
                edition := (w.extractLsb' 27 5).toFin }) ∧
        (check = false → serial = 0 ∨ serial = 0xFFFFF → heard.kind = .garbled)) ∧
  (∀ (bits : List Bool) (pad : Fin 4) (first period height : Nat) (check : Bool), bits.length = 36 → 0 < period →
    first ≤ 300000 → first + 36 * (4 * period) ≤ 1100000 → height ≤ 255 →
    let heard := hear check (idealReply bits pad first period height)
    let data (j : Nat) : Bool := bits.getD (j / 8 * 9 + j % 8) false
    let reserved : Prop := check = false ∧ ((∀ j, j < 20 → data j = false) ∨ ∀ j, j < 20 → data j = true)
    let fails (k : Fin 4) : Prop :=
      (((bits.drop (9 * k.val)).take 9).count true % 2 = 1 ↔ k.val % 2 = 1)
    heard.pad = some pad ∧ heard.amplitude = height ∧ (reserved → heard.kind = .garbled) ∧
      ∀ k, fails k → (∀ j, j < k → ¬fails j) → ¬reserved → heard.kind = .parity k) ∧
  (∀ (marks : List Mark) (check : Bool), (∀ m ∈ marks, 300000 < m.start) →
    hear check marks = { kind := .absent, pad := none, amplitude := 0 }) ∧
  (∀ (bits : List Bool) (pad : Fin 4) (first period height j : Nat) (later : List Mark) (check : Bool),
    bits.length = 36 → 0 < period → 4 * period ≤ 100000 → first ≤ 300000 → height ≤ 255 → 1 ≤ j → j < 36 →
    let marks := (idealReply bits pad first period height).take j
    let last := first + (j - 1) * (4 * period)
    let silent := last + (if bits.getD (j - 1) false then 3 * period else period) + if j = 1 then 100000 else 8 * period
    last ≤ 1100000 →
      (∀ m, m.pad = pad → m.start = last + 4 * period → m.start ≤ 1100000 → m.height = height →
        m.positive = decide (j % 2 = 1) → (∀ l ∈ later, m.start ≤ l.start) →
        hear check (marks ++ m :: later) = { kind := .garbled, pad := some pad, amplitude := height }) ∧
      ((∀ l ∈ later, l.pad = pad → silent < l.start) → (∀ l ∈ later, last < l.start) →
        hear check (marks ++ later) =
          { kind := if silent < 1100000 then .garbled else .stalled, pad := some pad, amplitude := height })) ∧
  (∀ (bits : List Bool) (pad : Fin 4) (first period height : Nat) (check : Bool), bits.length = 36 →
    4 * period ≤ 100000 → first ≤ 300000 → height ≤ 255 → 1100000 < first + 36 * (4 * period) →
    hear check (idealReply bits pad first period height) =
      { kind := .stalled, pad := some pad, amplitude := height }) ∧
  (∀ (marks : List Mark) (f : Mark) (check : Bool), f ∈ marks → f.start ≤ 300000 →
    (∀ m ∈ marks, m.pad ≠ f.pad → f.start < m.start ∨ f.start = m.start ∧ f.pad < m.pad) →
    hear check marks = hear check (marks.filter fun m => decide (m.pad = f.pad)))

/-- RETIRE_CELL empties and retires a cell whatever its state, lifting its tile, and wants a pass; REINSTATE_CELL makes a RETIRED cell VACANT with everything 0; each leaves a cell that is so already as it is. The retirement of a twin ends the twin; that of a tile promotes the first TWIN cell in board order for its serial, seated as things stand, after the LIFT (R51, R52, R53, R57). The lane's drives are delivered anew where they change, a scan with no cell left to read asks for nothing, and one that had none begins to wait (R30, R31, R32). When such a scan stops is assumption 22, and that the fairness count is then 0 is assumption 10. -/
def Obligations.RetireAndReinstateCells : Prop :=
  ∀ (a b : Byte) (c : CellId) (s : State), s.listening →
    let r := s.cell c
    let retire := exec (.retireCell (byte c.lane.val) (byte c.slot.val)) s
    let reinstate := exec (.reinstateCell (byte c.lane.val) (byte c.slot.val)) s
    (7 < a.toNat ∨ 11 < b.toNat →
      exec (.retireCell a b) s = .next (s.reportActivity.repliedWith 0x24 .badValue []) ∧
        exec (.reinstateCell a b) s = .next (s.reportActivity.repliedWith 0x25 .badValue [])) ∧
    (r.state = .retired →
      retire = .next (s.reportActivity.replied 0x24 [8]) ∧
      ∃ t, reinstate = .next (t.replied 0x25 [1]) ∧
        t.cell c =
          { state := .vacant, incumbent := none, candidate := none, lift := 0, absent := 0, score := 0, entries := 0
            peak := 0 } ∧
        (∀ d, d ≠ c → t.cell d = s.cell d) ∧ s.passFollows t ∧ s.guardAlone t ∧ s.lanesSteady t ∧
        (let u := s.lane c.lane
        let v : LaneUnit := { u with stale := u.stale || decide (s.laneDrive c.lane ≠ t.laneDrive c.lane) }
        t.laneGoes c.lane
          (if (∀ i : Slot, (s.cell ⟨c.lane, i⟩).state = .retired) ∧ u.state = .running ∧ u.mode = .normal then
            { v with waiting := true, fairness := 0 }
          else v)) ∧
        t.rest = s.reportActivity.rest ∧ s.sameBut t [.cells, .quests, .lamps, .notices, .lanes, .rest]) ∧
    (r.state ≠ .retired →
      reinstate = .next (s.reportActivity.replied 0x25 [0]) ∧
      ∃ t, retire = .next (t.replied 0x24 [r.state.code]) ∧
        t.cell c =
          { r with state := .retired, incumbent := none, candidate := none, lift := 0, absent := 0, peak := 0 } ∧
        s.passFollows t ∧ s.lanesSteady t ∧ t.laneGoes c.lane (s.laneRetires t c.lane (s.lane c.lane)) ∧
        t.rest = s.reportActivity.rest ∧ t.lamps = { s.lamps with guard := t.lamps.guard } ∧
        (r.incumbent = none → r.state ≠ .twin →
          (∀ d, d ≠ c → t.cell d = s.cell d) ∧ t.epoch = s.epoch ∧ t.play = s.play ∧
          (s.files .fault → t.lamps.guard = s.lamps.guard →
            t.lastNotice (.retired ⟨c, s.position c⟩ false r.entries))) ∧
        (∀ i, r.incumbent = some i → r.state ≠ .twin → s.firstTwin i.tile.serial = none →
          (∀ d, d ≠ c → t.cell d = s.cell d) ∧ t.epoch = s.epoch + 1 ∧ t.play = s.play ∧
          (s.files .board → t.lamps.guard = s.lamps.guard →
            t.lastNotice (.lift ⟨c, s.position c⟩ i.tile.serial .retired))) ∧
        (∀ i d x, r.incumbent = some i → r.state ≠ .twin → s.firstTwin i.tile.serial = some (d, x) →
          t.cell d = s.seatedRecord d x s.play.current ∧ (∀ e, e ≠ c → e ≠ d → t.cell e = s.cell e) ∧
          t.epoch = s.epoch + 2 ∧
          (s.movesFreely →
            t.play = s.playMoved [d] ∧
              (t.lamps.guard = s.lamps.guard →
                t.notices =
                  (s.notify (.retired ⟨c, s.position c⟩ false r.entries)).committed
                    [.lift ⟨c, s.position c⟩ i.tile.serial .retired, s.promotedNotice d x]))) ∧
        (∀ k, r.state = .twin → r.incumbent = none → r.candidate = some k →
          (∀ d, d ≠ c → t.cell d = s.cell d) ∧ t.epoch = s.epoch + 1 ∧ t.play = s.play ∧
          (t.lamps.guard = s.lamps.guard →
            t.notices =
              (s.notify (.retired ⟨c, s.position c⟩ false r.entries)).committed
                [.twinEnd ⟨c, s.position c⟩ k.tile.serial .retired])) ∧
        s.sameBut t [.cells, .quests, .lamps, .notices, .lanes, .rest, .epoch, .play])

/-- SET_SENSING clamps every parameter into its range, writes the floor to the target lane or to all eight, and answers with the values in force, only a floor target above 8 being refused (R37). WATCH_CELL selects a cell or none, a new selection starting an empty trace (R63); GET_WATCH takes the four oldest entries and clears the overrun flag (R64); CLEAR_FIRST_FAULT answers with the record and empties it (R62). The bytes of these replies are assumption 13, with codes that are free values (assumption 12); the present field as presence byte is assumption 33, and the width of the fault score assumption 35. -/
def Obligations.SensingWatchAndFirstFault : Prop :=
  (∀ (arriveN liftN hold floor target : Byte) (s : State), s.listening →
    (8 < target.toNat →
      exec (.setSensing arriveN liftN hold floor target) s = .next (s.reportActivity.repliedWith 0x28 .badValue [])) ∧
    (target.toNat ≤ 8 →
      ∃ t : State, exec (.setSensing arriveN liftN hold floor target) s =
          .next
            (t.replied 0x28
              ([byte t.sensing.arriveN, byte t.sensing.liftN, hold] ++
                (List.finRange 8).map fun n => byte (Table.read t.sensing.floors n))) ∧
        t = { s.reportActivity with sensing := t.sensing } ∧
        let v := t.sensing
        v.arriveN = (if arriveN.toNat < 1 then 1 else if 8 < arriveN.toNat then 8 else arriveN.toNat) ∧
        v.liftN = (if liftN.toNat < 1 then 1 else if 15 < liftN.toNat then 15 else liftN.toNat) ∧
        v.hold = hold.toNat ∧
        ∀ n : Lane, Table.read v.floors n =
          if target.toNat = 8 ∨ target.toNat = n.val then
            (if floor.toNat < 8 then 8 else if 96 < floor.toNat then 96 else floor.toNat)
          else Table.read s.sensing.floors n)) ∧
  (∀ (a b : Byte) (c : CellId) (s : State), s.listening →
    let fresh (w : Option CellId) : Watch := if s.watch.cell = w then s.watch else { cell := w, trace := [], overrun := false }
    (7 < a.toNat → a ≠ 0xFF → exec (.watchCell a b) s = .next (s.reportActivity.repliedWith 0x21 .badValue [])) ∧
    (a.toNat ≤ 7 → 11 < b.toNat → exec (.watchCell a b) s = .next (s.reportActivity.repliedWith 0x21 .badValue [])) ∧
    exec (.watchCell 0xFF b) s =
      .next ({ s.reportActivity with watch := fresh none }.replied 0x21 [0, 0]) ∧
    exec (.watchCell (byte c.lane.val) (byte c.slot.val)) s =
      .next
        ({ s.reportActivity with watch := fresh (some c) }.replied 0x21
          [1, byte (c.slot.val + 16 * c.lane.val + if (s.position c).isSome then 128 else 0)]) ∧
    exec .getWatch s =
      .next
        ({ s.reportActivity with watch := { s.watch with trace := s.watch.trace.drop 4, overrun := false } }.replied 0x22
          ((s.watch.trace.take 4).flatMap TraceEntry.bytes ++ s.watchedBytes ++
            [byte (min 4 s.watch.trace.length), byte (s.watch.trace.length - 4), flag s.watch.overrun])) ∧
    exec .clearFirstFault s = .next ({ s.reportActivity with firstFault := none }.replied 0x27 s.faultData))

/-! ### The Tile Roster -/

/-- ENROLL adds an entry or replaces its fields, or is answered FULL; WITHDRAW removes one, or is refused; SET_ROSTER_POLICY replaces policy and editions. Each recomputes the verdict and owner of the incumbents it names, and a change wants a pass. A tile counts when its edition is accepted and it is enrolled and not banned, or unenrolled while the policy is OPEN; its owner is the entry's, or 0 (R58, R66 to R70). The code for an added or replaced entry is a free value (assumption 12). -/
def Obligations.RosterRequestsRejudgeIncumbents : Prop :=
  (∀ (x : BitVec 24) (owner banned policy : Byte) (editions : BitVec 32) (o : Player) (b closed : Bool) (v : Serial)
    (s : State), s.listening → s.roster.lawful →
    let number : BitVec 24 := v.setWidth 24
    let known := (s.roster.find v).isSome
    let changed (t : State) : Byte := byte (allCells.countP fun c => decide (t.cell c ≠ s.cell c))
    let judged (t : State) (named : Incumbent → Bool) : Prop :=
      (∀ c, t.cell c =
        { s.cell c with
          incumbent := (s.cell c).incumbent.map fun i =>
            if named i then
              { i with counting := (t.roster.verdict i.tile.serial i.tile.edition).1
                       owner := (t.roster.verdict i.tile.serial i.tile.edition).2 }
            else i }) ∧
      ((∃ c, t.cell c ≠ s.cell c) → s.passFollows t) ∧ t.quests.records = s.quests.records ∧ s.lanesSteady t ∧
      t.rest = s.reportActivity.rest ∧ s.sameBut t [.roster, .cells, .quests, .lanes, .rest]
    (x = 0 ∨ 1048575 ≤ x.toNat ∨ 4 < owner.toNat ∨ 1 < banned.toNat →
      exec (.enroll x owner banned) s = .next (s.reportActivity.repliedWith 0x30 .badValue [])) ∧
    (x = 0 ∨ 1048575 ≤ x.toNat → exec (.withdraw x) s = .next (s.reportActivity.repliedWith 0x31 .badValue [])) ∧
    (1 < policy.toNat →
      exec (.setRosterPolicy policy editions) s = .next (s.reportActivity.repliedWith 0x33 .badValue [])) ∧
    (v ≠ 0 → v ≠ 0xFFFFF →
      (known = false → 192 ≤ s.roster.entries.length →
        exec (.enroll number (byte o.val) (flag b)) s = .next (s.reportActivity.repliedWith 0x30 .full [])) ∧
      (known = true ∨ s.roster.entries.length < 192 →
        ∃ t, exec (.enroll number (byte o.val) (flag b)) s =
            .next
              (t.replied 0x30
                [Config.enrollResultCode (!known),
                  byte (s.roster.entries.length + if known then 0 else 1), changed t]) ∧
          t.roster.find v = some { serial := v, owner := o, banned := b } ∧
          (∀ w, w ≠ v → t.roster.find w = s.roster.find w) ∧ t.roster.closed = s.roster.closed ∧
          t.roster.editions = s.roster.editions ∧ judged t (fun i => decide (i.tile.serial = v))) ∧
      (known = false → exec (.withdraw number) s = .next (s.reportActivity.repliedWith 0x31 .refused [4])) ∧
      (∀ e, s.roster.find v = some e →
        ∃ t, exec (.withdraw number) s =
            .next (t.replied 0x31 [byte e.owner.val, flag e.banned, byte (s.roster.entries.length - 1), changed t]) ∧
          t.roster.find v = none ∧ (∀ w, w ≠ v → t.roster.find w = s.roster.find w) ∧
          t.roster.closed = s.roster.closed ∧ t.roster.editions = s.roster.editions ∧
          judged t (fun i => decide (i.tile.serial = v)))) ∧
    ∃ t, exec (.setRosterPolicy (flag closed) editions) s =
        .next (t.replied 0x33 ([flag s.roster.closed] ++ bytes32 s.roster.editions ++ [changed t])) ∧
      t.roster = { s.roster with closed := closed, editions := editions } ∧ judged t (fun _ => true)) ∧
  (∀ (v : Serial) (edition : Fin 32) (e : RosterEntry) (r : Roster),
    (r.find v = none →
      ((r.verdict v edition).1 = true ↔ r.editions.getLsbD edition.val = true ∧ r.closed = false) ∧
        (r.verdict v edition).2 = 0) ∧
    (r.find v = some e →
      ((r.verdict v edition).1 = true ↔ r.editions.getLsbD edition.val = true ∧ e.banned = false) ∧
        (r.verdict v edition).2 = e.owner))

/-! ### The Pattern Table and matching -/

/-- DEFINE_PATTERN reads the header and the pieces in use, answers the first field out of range or the first inconsistency with its fault and piece, refuses a pattern in use, and otherwise replaces the record whole. A definition is consistent exactly when piece 0 is a tile piece at (0, 0), with no facing but 0 under TURNING, no EMPTY piece asks for a facing or a side, and no two pieces share an offset (R76, R77, R78). The first of R77's faults is answered: piece 0 away from (0, 0) is fault 2, an EMPTY piece 0 fault 3, a facing of 1, 2 or 3 on a TURNING piece 0 fault 4, all at piece 0; then, piece by piece, an EMPTY piece with a requirement is fault 5 and a piece at the offset of one before it fault 6, at that piece. That two faults of one piece are tried in the order of R77's table is assumption 20. A piece's bytes read as a piece exactly when its offsets lie in -7 to 7 and its kind test, facing and side are codes of section 12.3 (R75, R172). That the piece number takes one byte in the reply is assumption 35. -/
def Obligations.DefinePatternChecksThenReplaces : Prop :=
  (∀ (pattern n rotation anchor ax ay : Byte) (pieces : Table 6 PieceBytes) (p : Fin 32) (d : Pattern) (q : QuestId)
    (s : State), s.listening →
    let send (a : Byte) := exec (.definePattern a n rotation anchor ax ay pieces) s
    let faulty (a : Byte) (code : Byte) (place : Nat) : Prop :=
      send a = .next (s.reportActivity.repliedWith 0x50 .badValue [code, byte place])
    let used := pieces.toList.take n.toNat
    (31 < pattern.toNat ∨ n = 0 ∨ 6 < n.toNat ∨ 2 < rotation.toNat ∨ 1 < anchor.toNat ∨
        (anchor = 1 ∧ (15 < ax.toNat ∨ 15 < ay.toNat)) → faulty pattern 1 0) ∧
    (1 ≤ n.toNat → n.toNat ≤ 6 → d.rotation.code = rotation →
      (anchor = 0 ∧ d.anchor = none ∨ ∃ b, anchor = 1 ∧ ax = byte b.x.val ∧ ay = byte b.y.val ∧ d.anchor = some b) →
      (∀ i b, used[i]? = some b → pieceOf b = none → (∀ j b', j < i → used[j]? = some b' → (pieceOf b').isSome = true) →
        faulty (byte p.val) 1 i) ∧
      (used.map pieceOf = d.pieces.map some →
        (∀ f i, d.inconsistency = some (f, i) → faulty (byte p.val) f.code i) ∧
        (∀ first rest, d.pieces = first :: rest →
          let central : Prop := first.dx = 0 ∧ first.dy = 0
          let turns : Prop := d.rotation = .turning ∧ first.facing ≠ none ∧ first.facing ≠ some 0
          let requires (x : Piece) : Prop := x.test = .empty ∧ (x.facing ≠ none ∨ x.side ≠ none)
          let repeats (i : Nat) (x : Piece) : Prop :=
            ∃ j y, j < i ∧ d.pieces[j]? = some y ∧ y.dx = x.dx ∧ y.dy = x.dy
          (¬central → faulty (byte p.val) 2 0) ∧ (central → first.test = .empty → faulty (byte p.val) 3 0) ∧
          (central → first.test ≠ .empty → turns → faulty (byte p.val) 4 0) ∧
          (central → first.test ≠ .empty → ¬turns →
            ∀ i x, d.pieces[i]? = some x →
              (∀ j y, j < i → d.pieces[j]? = some y → ¬requires y ∧ ¬repeats j y) →
              (requires x → faulty (byte p.val) 5 i) ∧ (¬requires x → repeats i x → faulty (byte p.val) 6 i))) ∧
        (d.inconsistency = none →
          (s.usedBy p = some q →
            send (byte p.val) = .next (s.reportActivity.repliedWith 0x50 .refused [5, byte q.val])) ∧
          (s.usedBy p = none →
            send (byte p.val) =
              .next
                ({ s.reportActivity with patterns := Table.put s.patterns p (some d) }.replied 0x50
                  [if (Table.read s.patterns p).isSome then 1 else 0])))))) ∧
  (∀ (d : Pattern) (first : Piece) (rest : List Piece), d.pieces = first :: rest →
    (d.inconsistency = none ↔
      first.dx = 0 ∧ first.dy = 0 ∧ first.test ≠ .empty ∧
        (d.rotation = .turning → first.facing = none ∨ first.facing = some 0) ∧
        (∀ p ∈ d.pieces, p.test = .empty → p.facing = none ∧ p.side = none) ∧
        d.pieces.Pairwise fun p q => p.dx ≠ q.dx ∨ p.dy ≠ q.dy)) ∧
  (∀ (b : PieceBytes) (p : Piece),
    pieceOf b = some p ↔
      (-7 ≤ p.dx ∧ p.dx ≤ 7 ∧ b.dx.toInt = p.dx) ∧ (-7 ≤ p.dy ∧ p.dy ≤ 7 ∧ b.dy.toInt = p.dy) ∧
        b.kindTest =
          (match p.test with
            | .tile (.exact k) => byte k.val
            | .tile (.family k) => byte (64 + k.val)
            | .tile .anyTile => 0x80
            | .empty => 0xC0) ∧
        b.facing = (match p.facing with | none => 0xFF | some f => byte f.val) ∧
        b.side = match p.side with | none => 0 | some .a => 1 | some .b => 2)

/-- ERASE_PATTERN empties a record unless a quest in play names it; the quests and the pass-wanted flag are untouched. -/
def Obligations.ErasePatternEmptiesTheRecord : Prop :=
  ∀ (a : Byte) (p : Fin 32) (q : QuestId) (s : State), s.listening →
    let holds (k : QuestId) : Prop :=
      ((s.quest k).state = .running ∨ (s.quest k).state = .paused) ∧
        ∃ st ∈ (s.quest k).stages, (∃ m, st.test = .form p m) ∨ ∃ m d, st.test = .hold p m d
    (31 < a.toNat → exec (.erasePattern a) s = .next (s.reportActivity.repliedWith 0x51 .badValue [])) ∧
    (holds q → (∀ k, k < q → ¬holds k) →
      exec (.erasePattern (byte p.val)) s = .next (s.reportActivity.repliedWith 0x51 .refused [5, byte q.val])) ∧
    ((∀ k, ¬holds k) →
      exec (.erasePattern (byte p.val)) s =
        .next
          ({ s.reportActivity with patterns := Table.put s.patterns p none }.replied 0x51
            [if (Table.read s.patterns p).isSome then 1 else 0]))

/-- The matching anchors are the candidates at which some rotation tried passes every piece, each listed once with the first such rotation, in board order; a piece passes by R86 or R87 at its turned target (R82 to R88). The live view gives nothing where no placed lane covers the position or the covering cell is RETIRED, the covering cell alone where that cell has no incumbent, and otherwise the cell with its incumbent's kind, side, facing, counting verdict, owner and placed_by, in every tracking state (R81, R10). -/
def Obligations.MatchingAnchors : Prop :=
  (∀ (d : Pattern) (v : View) (f : OwnerFilter) (b : Pos) (c : CellId) (t : Fin 4) (p : Piece),
    let turned : Int × Int :=
      match t with
      | 0 => (p.dx, p.dy)
      | 1 => (-p.dy, p.dx)
      | 2 => (-p.dx, -p.dy)
      | 3 => (p.dy, -p.dx)
    let at_ (g : Pos) : Prop := (g.x.val : Int) = b.x.val + turned.1 ∧ (g.y.val : Int) = b.y.val + turned.2
    let owned (i : TileView) : Prop := (∀ o, f = .owner o → i.owner = o) ∧ ∀ o, f = .placed o → i.placedBy = o
    let kindOk (k : TileTest) (i : TileView) : Prop :=
      (∀ e, k = .exact e → i.kind = e) ∧ ∀ e, k = .family e → i.kind.val / 8 = e.val
    (∀ k, p.test = .tile k →
      (p.passes v f b t = true ↔
        ∃ g e i, at_ g ∧ v.look g = some (e, some i) ∧ i.counting = true ∧ owned i ∧ kindOk k i ∧
          (∀ x, p.side = some x → i.side = x) ∧ ∀ x, p.facing = some x → i.facing = t + x)) ∧
    (p.test = .empty → (p.passes v f b t = true ↔ ∃ g e, at_ g ∧ v.look g = some (e, none))) ∧
    ((b, c, t) ∈ d.anchors v f ↔
      ∃ i, v.look b = some (c, some i) ∧ (∀ a, d.anchor = some a → a = b) ∧
        ((d.rotation = .fixed ∧ t = 0) ∨ (d.rotation = .turning ∧ t = i.facing) ∨ d.rotation = .any) ∧
        (∀ q ∈ d.pieces, q.passes v f b t = true) ∧
        (d.rotation = .any → ∀ u, u < t → ∃ q ∈ d.pieces, q.passes v f b u = false)) ∧
    (d.anchors v f).Pairwise fun x y => x.1.y < y.1.y ∨ (x.1.y = y.1.y ∧ x.1.x < y.1.x)) ∧
  (∀ (b : Pos) (s : State),
    (s.covering b = none → s.view.look b = none) ∧
    ∀ c, s.covering b = some c →
      ((s.cell c).state = .retired → s.view.look b = none) ∧
      ((s.cell c).state ≠ .retired → (s.cell c).incumbent = none → s.view.look b = some (c, none)) ∧
      ∀ i, (s.cell c).state ≠ .retired → (s.cell c).incumbent = some i →
        s.view.look b =
          some (c, some { kind := i.tile.kind, side := i.tile.side, facing := i.facing, counting := i.counting
                          owner := i.owner, placedBy := i.placedBy }))

/-! ### The Quest Engine -/

/-- DEFINE_QUEST makes a quest that is not in play DORMANT with the definition given and its progress reset, or names the first fault; ERASE_QUEST makes any quest but a RUNNING one EMPTY. A stage record reads as the stage its bytes spell exactly when every field its kind uses is in range, its hint region is in order, and a cooperative quest's filter is ANY (R107, R109, R110, R111). The order of the checks within a stage is assumption 20. That the stage number takes one byte in the reply is assumption 35. -/
def Obligations.DefineAndEraseQuests : Prop :=
  (∀ (a owner count : Byte) (stages : Table 4 StageBytes) (q : QuestId) (o : Player) (sts : List Stage) (s : State),
    s.listening →
    let r := s.quest q
    let send (a owner : Byte) := exec (.defineQuest a owner count stages) s
    let used := stages.toList.take count.toNat
    (23 < a.toNat ∨ 4 < owner.toNat ∨ count = 0 ∨ 4 < count.toNat →
      send a owner = .next (s.reportActivity.repliedWith 0x58 .badValue [1, 0])) ∧
    (23 < a.toNat → exec (.eraseQuest a) s = .next (s.reportActivity.repliedWith 0x59 .badValue [])) ∧
    (1 ≤ count.toNat → count.toNat ≤ 4 →
      (∀ i b f, used[i]? = some b → readStage o b = .error f →
        (∀ j b', j < i → used[j]? = some b' → ∃ st, readStage o b' = .ok st) →
        send (byte q.val) (byte o.val) =
          .next (s.reportActivity.repliedWith 0x58 .badValue [f.code, byte i])) ∧
      (used.map (readStage o) = sts.map .ok →
        (r.state = .running ∨ r.state = .paused →
          send (byte q.val) (byte o.val) = .next (s.reportActivity.repliedWith 0x58 .refused [7, r.state.code])) ∧
        (r.state ≠ .running → r.state ≠ .paused →
          send (byte q.val) (byte o.val) =
            .next
              ((s.reportActivity.setQuest q
                { state := .dormant, owner := o, stages := sts
                  progress :=
                    { stage := 0, started := none, deadline := none, remaining := none, holdSince := none, earned := 0
                      failReason := none } }).replied 0x58 [r.state.code])))) ∧
    (r.state = .running → exec (.eraseQuest (byte q.val)) s = .next (s.reportActivity.repliedWith 0x59 .refused [7, 2])) ∧
    (r.state ≠ .running →
      ∃ t, exec (.eraseQuest (byte q.val)) s = .next (t.replied 0x59 [r.state.code]) ∧ (t.quest q).state = .empty ∧
        (t.quest q).stages = [] ∧ (∀ k, k ≠ q → t.quest k = s.quest k) ∧
        t.quests.passWanted = s.quests.passWanted ∧ t.inSet q = false ∧ (∀ k, k ≠ q → t.inSet k = s.inSet k) ∧
        t.rest = s.reportActivity.rest ∧ s.sameBut t [.quests, .rest])) ∧
  (∀ (o : Player) (b : StageBytes) (st : Stage),
    (readStage o b = .ok st ↔
      (match st.test with
        | .form p m => b.kind = 0 ∧ b.pattern = byte p.val ∧ b.m = byte m ∧ 1 ≤ m ∧ m ≤ 8
        | .hold p m d =>
          b.kind = 1 ∧ b.pattern = byte p.val ∧ b.m = byte m ∧ 1 ≤ m ∧ m ≤ 8 ∧ b.d.toNat = d ∧ 1 ≤ d ∧ d ≤ 2400
        | .collect k m => b.kind = 2 ∧ b.kindTest = k.code ∧ b.m = byte m ∧ 1 ≤ m ∧ m ≤ 32
        | .clear k m => b.kind = 3 ∧ b.kindTest = k.code ∧ b.m = byte m ∧ m ≤ 32) ∧
      b.filter = st.filter.code ∧ (o = 0 → st.filter = .any) ∧ b.reward = byte st.reward ∧ st.reward ≤ 250 ∧
      b.limit.toNat = st.limit ∧ st.limit ≤ 4800 ∧
      (match st.hint with
        | none => b.x0 = 0xFF
        | some g =>
          b.x0 = byte g.x0.val ∧ b.y0 = byte g.y0.val ∧ b.x1 = byte g.x1.val ∧ b.y1 = byte g.y1.val ∧ g.x0 ≤ g.x1 ∧
            g.y0 ≤ g.y1) ∧
      match st.cue with
      | none => b.cue = 0xFF
      | some c => b.cue = byte c.val))

/-- START_QUEST runs a DORMANT quest from stage 0 with its deadline and hint, and wants a pass; a quest in another state, or one that names an EMPTY pattern, is refused and nothing changes. A lane whose drives change is marked stale or, while it runs, loads them (R32, R136); where the guard does not move, no other mark changes until the arbiters have been asked. -/
def Obligations.StartQuestRunsADormantQuest : Prop :=
  ∀ (a : Byte) (q : QuestId) (p : Fin 32) (first : Stage) (rest : List Stage) (s : State), s.listening →
    let r := s.quest q
    let missing (k : Fin 32) : Prop :=
      Table.read s.patterns k = none ∧
        ∃ st ∈ r.stages, (∃ m, st.test = .form k m) ∨ ∃ m d, st.test = .hold k m d
    (23 < a.toNat → exec (.startQuest a) s = .next (s.reportActivity.repliedWith 0x5B .badValue [])) ∧
    (r.state ≠ .dormant →
      exec (.startQuest (byte q.val)) s = .next (s.reportActivity.repliedWith 0x5B .refused [8, r.state.code])) ∧
    (r.state = .dormant → missing p → (∀ k, k < p → ¬missing k) →
      exec (.startQuest (byte q.val)) s = .next (s.reportActivity.repliedWith 0x5B .refused [6, byte p.val])) ∧
    (r.state = .dormant → r.stages = first :: rest → (∀ k, ¬missing k) →
      ∃ t, exec (.startQuest (byte q.val)) s = .next (t.replied 0x5B []) ∧
        t.quest q =
          { r with
            state := .running
            progress :=
              { r.progress with
                stage := 0, started := some s.play.clock, holdSince := none, remaining := none
                deadline :=
                  if first.limit = 0 then none else some (min 16777215 (s.play.clock + first.limit)) } } ∧
        (∀ k, k ≠ q → t.quest k = s.quest k) ∧
        (if s.quests.pass = none then t.quests.passWanted = false ∧ t.inSet q = true
          else t.quests.pass = s.quests.pass ∧ t.quests.passWanted = true) ∧
        t.lamps =
          { s.lamps with
            guard := t.lamps.guard
            hints := if first.hint.isSome then Table.put s.lamps.hints q first.hint else s.lamps.hints } ∧
        (t.lamps.guard = s.lamps.guard → t.notices = s.notices) ∧ s.drivesFollow t ∧ s.drivesAlone t ∧ s.lanesSteady t ∧
        t.rest = s.reportActivity.rest ∧ s.sameBut t [.quests, .lamps, .notices, .lanes, .rest])

/-- PAUSE_QUEST keeps the ticks left and withdraws the hint, dropping a hold in progress and the result of a pass in flight; RESUME_QUEST sets the deadline from the ticks kept, posts the hint and wants a pass. That the stage index takes one byte in the reply is the model's choice, assumption 35 (R113, R114). A lane whose drives change is marked stale or, while it runs, loads them (R32, R136); where the guard does not move, no other mark changes until the arbiters have been asked. -/
def Obligations.PauseAndResumeQuests : Prop :=
  ∀ (a : Byte) (q : QuestId) (st : Stage) (s : State), s.listening →
    let r := s.quest q
    (23 < a.toNat →
      exec (.pauseQuest a) s = .next (s.reportActivity.repliedWith 0x5C .badValue []) ∧
        exec (.resumeQuest a) s = .next (s.reportActivity.repliedWith 0x5D .badValue [])) ∧
    (r.state ≠ .running →
      exec (.pauseQuest (byte q.val)) s = .next (s.reportActivity.repliedWith 0x5C .refused [8, r.state.code])) ∧
    (r.state ≠ .paused →
      exec (.resumeQuest (byte q.val)) s = .next (s.reportActivity.repliedWith 0x5D .refused [8, r.state.code])) ∧
    (r.state = .running →
      let left := r.progress.deadline.map fun d => d - s.play.clock
      ∃ t, exec (.pauseQuest (byte q.val)) s =
          .next
            (t.replied 0x5C
              (byte r.progress.stage :: match left with | none => [0, 0, 0, 0] | some d => 1 :: three d)) ∧
        t.quest q =
          { r with
            state := .paused
            progress := { r.progress with remaining := left, deadline := none, holdSince := none } } ∧
        (∀ k, k ≠ q → t.quest k = s.quest k) ∧ (s.quests.pass.isSome = true → t.inSet q = false) ∧
        t.lamps = { s.lamps with guard := t.lamps.guard, hints := Table.put s.lamps.hints q none } ∧
        (t.lamps.guard = s.lamps.guard → t.notices = s.notices) ∧ s.drivesFollow t ∧ s.drivesAlone t ∧ s.lanesSteady t ∧
        t.rest = s.reportActivity.rest ∧ s.sameBut t [.quests, .lamps, .notices, .lanes, .rest]) ∧
    (r.state = .paused → r.stages[r.progress.stage]? = some st →
      ∃ t, exec (.resumeQuest (byte q.val)) s = .next (t.replied 0x5D []) ∧
        t.quest q =
          { r with
            state := .running
            progress :=
              match r.progress.remaining with
              | none => r.progress
              | some d => { r.progress with deadline := some (min 16777215 (s.play.clock + d)), remaining := none } } ∧
        (∀ k, k ≠ q → t.quest k = s.quest k) ∧
        (if s.quests.pass = none then t.quests.passWanted = false ∧ t.inSet q = true
          else t.quests.pass = s.quests.pass ∧ t.quests.passWanted = true) ∧
        t.lamps =
          { s.lamps with
            guard := t.lamps.guard
            hints := if st.hint.isSome then Table.put s.lamps.hints q st.hint else s.lamps.hints } ∧
        (t.lamps.guard = s.lamps.guard → t.notices = s.notices) ∧ s.drivesFollow t ∧ s.drivesAlone t ∧ s.lanesSteady t ∧
        t.rest = s.reportActivity.rest ∧ s.sameBut t [.quests, .lamps, .notices, .lanes, .rest])

/-- ABANDON_QUEST fails a quest in play with its QUEST_FAILED notice; SET_PROGRESS puts one that is not in play back to a stage, PAUSED, after its checks in order (R115, R116). A lane whose drives change is marked stale or, while it runs, loads them (R32, R136); where the guard does not move, no other mark changes until the arbiters have been asked. -/
def Obligations.AbandonAndSetProgress : Prop :=
  ∀ (a stage : Byte) (earned : BitVec 16) (q : QuestId) (st : Stage) (s : State), s.listening →
    let r := s.quest q
    let put := exec (.setProgress (byte q.val) stage earned) s
    let missing (k : Fin 32) : Prop :=
      Table.read s.patterns k = none ∧
        ∃ st ∈ r.stages, (∃ m, st.test = .form k m) ∨ ∃ m d, st.test = .hold k m d
    (23 < a.toNat →
      exec (.abandonQuest a) s = .next (s.reportActivity.repliedWith 0x5E .badValue []) ∧
        exec (.setProgress a stage earned) s = .next (s.reportActivity.repliedWith 0x5F .badValue [])) ∧
    (r.state ≠ .running → r.state ≠ .paused →
      exec (.abandonQuest (byte q.val)) s = .next (s.reportActivity.repliedWith 0x5E .refused [8, r.state.code])) ∧
    (r.state = .running ∨ r.state = .paused →
      ∃ t, exec (.abandonQuest (byte q.val)) s = .next (t.replied 0x5E []) ∧
        t.quest q =
          { r with
            state := .failed
            progress :=
              { r.progress with
                deadline := none, remaining := none, holdSince := none, failReason := some .abandoned } } ∧
        (∀ k, k ≠ q → t.quest k = s.quest k) ∧ (s.quests.pass.isSome = true → t.inSet q = false) ∧
        t.lamps = { s.lamps with guard := t.lamps.guard, hints := Table.put s.lamps.hints q none } ∧
        (s.files .quest → t.lamps.guard = s.lamps.guard →
          t.lastNotice (.questFailed q r.progress.stage .abandoned r.progress.earned)) ∧
        s.drivesFollow t ∧ s.drivesAlone t ∧ s.lanesSteady t ∧ t.rest = s.reportActivity.rest ∧
        s.sameBut t [.quests, .lamps, .notices, .lanes, .rest]) ∧
    (3 < stage.toNat ∨ 1500 < earned.toNat ∨ (r.state ≠ .empty ∧ r.stages.length ≤ stage.toNat) →
      put = .next (s.reportActivity.repliedWith 0x5F .badValue [])) ∧
    (stage.toNat ≤ 3 → earned.toNat ≤ 1500 →
      (r.state = .empty → put = .next (s.reportActivity.repliedWith 0x5F .refused [8, 0])) ∧
      (r.state ≠ .empty → r.stages[stage.toNat]? = some st →
        (r.state = .running ∨ r.state = .paused →
          put = .next (s.reportActivity.repliedWith 0x5F .refused [7, r.state.code])) ∧
        (r.state ≠ .running → r.state ≠ .paused →
          (∀ p, missing p → (∀ k, k < p → ¬missing k) →
            put = .next (s.reportActivity.repliedWith 0x5F .refused [6, byte p.val])) ∧
          ((∀ k, ¬missing k) →
            put =
              .next
                ((s.reportActivity.setQuest q
                  { r with
                    state := .paused
                    progress :=
                      { stage := stage.toNat, started := some s.play.clock, deadline := none
                        remaining := if st.limit = 0 then none else some st.limit
                        holdSince := none, earned := earned.toNat, failReason := none } }).replied 0x5F [])))))

/-- PASS_COMMIT ends the pass and applies its results quest by quest. A quest not in the evaluated set is untouched. A met FORM, COLLECT or CLEAR stage advances its quest: its points, its counter's score, the next stage with its start, deadline and hint or the quest DONE, its flash and its cue. A formed HOLD starts its hold, a broken one loses it with HOLD_BROKEN, and every other result changes nothing. The notices are those of the quests in quest order, and a pass that was wanted, or that an advance wants, starts with its snapshot (R119, R121, R122, R127). A stage is met, or a HOLD formed, by its pattern's match count under its filter, or by the counting tiles that pass its filter and its kind test (R107, R108). That the wanted pass starts once the event has been taken whole is assumption 9; the points of a timed stage whose quest has no deadline, which no run meets, are assumption 29. A lane whose drives change is marked stale or, while it runs, loads them (R32, R136). -/
def Obligations.PassCommitAppliesItsResults : Prop :=
  (∀ (p : Pass) (s : State),
    s.chip = .running → s.quests.pass = some p → (p.evaluated.map (·.1)).Nodup →
    let clock := s.play.clock
    let ticks (c : Fin 16) : Nat := [1, 2, 4, 4, 6, 8, 3, 2, 5, 6, 10, 12, 8, 8, 16, 1].getD c.val 0
    let offer (x : List (Fin 16) × Option Nat) (c : Fin 16) : List (Fin 16) × Option Nat :=
      if 8 ≤ x.1.length then x else (x.1 ++ [c], if x.1 = [] then some (ticks c) else x.2)
    let stage (q : QuestId) : Option Stage := (s.quest q).stages[(s.quest q).progress.stage]?
    let met (q : QuestId) (st : Stage) : Bool := st.holds (s.quest q).owner p.view p.patterns
    let points (q : QuestId) (st : Stage) : Nat :=
      st.reward + timeBonus st.reward st.limit (s.quest q).progress.deadline clock
    let advances : List (QuestId × Stage) :=
      p.evaluated.filterMap fun e =>
        (stage e.1).bind fun st =>
          match st.test with
          | .hold _ _ _ => none
          | _ => if met e.1 st then some (e.1, st) else none
    let told : List NoticeBody :=
      p.evaluated.filterMap fun e =>
        (stage e.1).bind fun st =>
          let r := s.quest e.1
          match st.test, r.progress.holdSince, met e.1 st with
          | .hold _ _ _, some since, false =>
            some (.holdBroken e.1 r.progress.stage (min 65535 (clock - since)) p.epoch)
          | .hold _ _ _, _, _ => none
          | _, _, true =>
            some
              (if r.progress.stage + 1 = r.stages.length then
                .questDone e.1 r.progress.stage (points e.1 st) r.owner false p.epoch
              else .stageDone e.1 r.progress.stage (points e.1 st) r.owner false p.epoch)
          | _, _, false => none
    ∃ t, exec .passCommit s = .next t ∧ t.epoch = s.epoch ∧ t.cells = s.cells ∧ t.plan = s.plan ∧
      t.play = { s.play with scores := t.play.scores } ∧ s.drivesFollow t ∧ s.lanesSteady t ∧
      (∀ q, (∀ e ∈ p.evaluated, e.1 ≠ q) → t.quest q = s.quest q) ∧
      (∀ e ∈ p.evaluated, ∀ st, stage e.1 = some st →
        let r := s.quest e.1
        let at_ := r.progress.stage
        let earned := min 1500 (r.progress.earned + points e.1 st)
        let held (v : Option Nat) : Quest := { r with progress := { r.progress with holdSince := v } }
        ((∃ k m d, st.test = .hold k m d) →
          (met e.1 st = true → r.progress.holdSince = none → t.quest e.1 = held (some clock)) ∧
          (met e.1 st = true → r.progress.holdSince.isSome = true → t.quest e.1 = r) ∧
          (met e.1 st = false → t.quest e.1 = held none)) ∧
        ((∀ k m d, st.test ≠ .hold k m d) →
          (met e.1 st = false → t.quest e.1 = r) ∧
          (met e.1 st = true →
            (∀ next, r.stages[at_ + 1]? = some next →
              t.quest e.1 =
                { r with
                  progress :=
                    { r.progress with
                      stage := at_ + 1, earned := earned, started := some clock, holdSince := none
                      deadline := if next.limit = 0 then none else some (min 16777215 (clock + next.limit)) } }) ∧
            (r.stages.length = at_ + 1 →
              t.quest e.1 =
                { r with
                  state := .done
                  progress :=
                    { r.progress with
                      stage := at_ + 1, earned := earned, deadline := none, remaining := none, holdSince := none } }) ∧
            Table.read t.lamps.hints e.1 = (r.stages[at_ + 1]?).bind (·.hint) ∧
            (∀ g, st.hint = some g → Table.read t.lamps.flashes e.1 = some { region := g, left := 8 })))) ∧
      (∀ q, (∀ a ∈ advances, a.1 ≠ q) → Table.read t.lamps.hints q = Table.read s.lamps.hints q) ∧
      (∀ q, (∀ a ∈ advances, a.1 = q → a.2.hint = none) →
        Table.read t.lamps.flashes q = Table.read s.lamps.flashes q) ∧
      (∀ k, Table.read t.play.scores k =
        ((advances.filter fun a => decide ((s.quest a.1).owner = k)).map fun a => points a.1 a.2).foldl
          (fun v x => min 9999 (v + x)) (Table.read s.play.scores k)) ∧
      (t.lamps.cues, t.lamps.sounder) =
        (advances.filterMap fun a => a.2.cue).foldl offer (s.lamps.cues, s.lamps.sounder) ∧
      t.lamps =
        { s.lamps with
          hints := t.lamps.hints, flashes := t.lamps.flashes, cues := t.lamps.cues, sounder := t.lamps.sounder
          guard := t.lamps.guard } ∧
      s.filed t told ∧ t.rest = (if advances = [] then s.rest else s.reportActivity.rest) ∧
      t.quests.passWanted = false ∧
      t.quests.pass =
        (if s.quests.passWanted = true ∨ advances ≠ [] then
          let running : List (QuestId × Nat) :=
            (List.finRange 24).filterMap fun q =>
              if (t.quest q).state = .running then some (q, (t.quest q).progress.stage) else none
          some
            { epoch := s.epoch, view := s.view, evaluated := running
              patterns :=
                Table.each s.patterns fun k d =>
                  if running.any fun e =>
                    match ((t.quest e.1).stages[e.2]?).map Stage.test with
                    | some (.form j _) => decide (j = k)
                    | some (.hold j _ _) => decide (j = k)
                    | _ => false
                  then d else none }
        else none) ∧
      s.sameBut t [.quests, .play, .lamps, .notices, .lanes, .rest]) ∧
  (∀ (st : Stage) (o : Player) (v : View) (patterns : Table 32 (Option Pattern)),
    let filter : OwnerFilter :=
      match st.filter with
      | .any => .any
      | .questOwner => .owner o
      | .placedByOwner => .placed o
    let owned (i : TileView) : Bool :=
      match st.filter with
      | .any => true
      | .questOwner => decide (i.owner = o)
      | .placedByOwner => decide (i.placedBy = o)
    let anchors (k : Fin 32) : Nat :=
      match Table.read patterns k with
      | some d => (d.anchors v filter).length
      | none => 0
    let collected (k : TileTest) : Nat :=
      allPositions.countP fun b =>
        match v.look b with
        | some (_, some i) =>
          i.counting && owned i &&
            match k with
            | .anyTile => true
            | .exact e => decide (i.kind = e)
            | .family e => decide (i.kind.val / 8 = e.val)
        | _ => false
    st.holds o v patterns =
      match st.test with
      | .form k m => decide (m ≤ anchors k)
      | .hold k m _ => decide (m ≤ anchors k)
      | .collect k m => decide (m ≤ collected k)
      | .clear k m => decide (collected k ≤ m))

/-- The time bonus: 0 for a stage without a limit, and otherwise (reward × R) div (2 × L) with R the ticks left, at least 0 and at most L; it is at most half the reward. -/
def Obligations.TimeBonus : Prop :=
  ∀ (reward limit deadline clock : Nat),
    timeBonus reward 0 (some deadline) clock = 0 ∧ timeBonus reward 0 none clock = 0 ∧
    (0 < limit →
      timeBonus reward limit (some deadline) clock =
        (reward * if deadline ≤ clock then 0 else if limit < deadline - clock then limit else deadline - clock) /
          (2 * limit) ∧
      timeBonus reward limit (some deadline) clock ≤ reward / 2 ∧
      (deadline ≤ clock → timeBonus reward limit (some deadline) clock = 0))

/-- HOLD_COMPLETE advances a RUNNING quest whose hold has lasted d ticks: its points credited, its STAGE_DONE or QUEST_DONE notice made, its next stage current and a pass wanted. DEADLINE_EXPIRY fails one whose deadline is reached, unless its hold completes first (R122, R123, R124, R104). That these are commands of their own, guarded by the condition, is assumption 8. The points are computed from the deadline the quest holds; those of a timed stage without one, which no run meets, are assumption 29. A lane whose drives change is marked stale or, while it runs, loads them (R32, R136). -/
def Obligations.TickDutiesAdvanceOrFail : Prop :=
  ∀ (q : QuestId) (st : Stage) (k : Fin 32) (m d since : Nat) (s : State), s.chip = .running →
    s.play.clockRunning = true →
    let r := s.quest q
    let clock := s.play.clock
    let points := st.reward + timeBonus st.reward st.limit r.progress.deadline clock
    let completes : Prop := r.progress.holdSince = some since ∧ since ≤ clock ∧ d ≤ clock - since
    r.state = .running → r.stages[r.progress.stage]? = some st →
    (st.test = .hold k m d → completes →
      ∃ t, exec (.holdComplete q) s = .next t ∧
        Table.read t.play.scores r.owner = min 9999 (Table.read s.play.scores r.owner + points) ∧
        (∀ j, j ≠ r.owner → Table.read t.play.scores j = Table.read s.play.scores j) ∧
        t.play = { s.play with scores := t.play.scores } ∧
        (∀ next, r.stages[r.progress.stage + 1]? = some next →
          t.quest q =
            { r with
              progress :=
                { r.progress with
                  stage := r.progress.stage + 1, earned := min 1500 (r.progress.earned + points)
                  started := some clock, holdSince := none
                  deadline := if next.limit = 0 then none else some (min 16777215 (clock + next.limit)) } } ∧
          Table.read t.lamps.hints q = next.hint) ∧
        (r.stages.length = r.progress.stage + 1 →
          t.quest q =
            { r with
              state := .done
              progress :=
                { r.progress with
                  stage := r.progress.stage + 1, earned := min 1500 (r.progress.earned + points), deadline := none
                  remaining := none, holdSince := none } } ∧
          Table.read t.lamps.hints q = none) ∧
        (∀ g, st.hint = some g → Table.read t.lamps.flashes q = some { region := g, left := 8 }) ∧
        (∀ c, st.cue = some c → s.lamps.cues.length < 8 → t.lamps.cues = s.lamps.cues ++ [c]) ∧
        (st.cue = none → t.lamps.cues = s.lamps.cues) ∧
        (∀ j, j ≠ q → t.quest j = s.quest j) ∧
        s.filed t
          [if r.stages.length = r.progress.stage + 1 then
            .questDone q r.progress.stage points r.owner true s.epoch
          else .stageDone q r.progress.stage points r.owner true s.epoch] ∧
        (s.quests.pass = none → t.quests.passWanted = false ∧ t.quests.pass.isSome = true) ∧
        (∀ p, s.quests.pass = some p →
          t.quests.passWanted = true ∧
            t.quests.pass = some { p with evaluated := p.evaluated.filter fun e => decide (e.1 ≠ q) }) ∧
        s.drivesFollow t ∧ s.lanesSteady t ∧ t.rest = s.reportActivity.rest ∧
        s.sameBut t [.quests, .play, .lamps, .notices, .lanes, .rest]) ∧
    (¬(∃ k m d since, st.test = .hold k m d ∧ r.progress.holdSince = some since ∧ since ≤ clock ∧ d ≤ clock - since) →
      ∀ due, r.progress.deadline = some due → due ≤ clock →
      ∃ t, exec (.deadlineExpiry q) s = .next t ∧
        t.quest q =
          { r with
            state := .failed
            progress :=
              { r.progress with
                deadline := none, remaining := none, holdSince := none, failReason := some .time } } ∧
        (s.files .quest → t.lamps.guard = s.lamps.guard →
          t.lastNotice (.questFailed q r.progress.stage .time r.progress.earned)) ∧
        t.lamps = { s.lamps with guard := t.lamps.guard, hints := Table.put s.lamps.hints q none } ∧
        (∀ j, j ≠ q → t.quest j = s.quest j) ∧
        s.filed t [.questFailed q r.progress.stage .time r.progress.earned] ∧
        (∀ p, s.quests.pass = some p →
          t.quests.passWanted = s.quests.passWanted ∧
            t.quests.pass = some { p with evaluated := p.evaluated.filter fun e => decide (e.1 ≠ q) }) ∧
        s.drivesFollow t ∧ s.lanesSteady t ∧ t.rest = s.reportActivity.rest ∧
        s.sameBut t [.quests, .lamps, .notices, .lanes, .rest])

/-! ### Lamps, cues and the guard -/

/-- SET_LAMPS sets the host setting of every live position of the rectangle clipped to the grid and of no other cell; a drive that changes marks its lane stale, and a RUNNING lane with no slot in flight loads its new drives in its turn at the arbiter (R27, R32, R132, R136). -/
def Obligations.SetLampsSetsTheRectangle : Prop :=
  ∀ (x0 y0 x1 y1 code : Byte) (v : LampSetting) (s : State), s.listening → s.planLawful →
    let reached (c : CellId) : Bool :=
      decide ((s.cell c).state ≠ .retired) &&
        match s.position c with
        | some b => decide (x0.toNat ≤ b.x.val ∧ b.x.val ≤ x1.toNat ∧ y0.toNat ≤ b.y.val ∧ b.y.val ≤ y1.toNat)
        | none => false
    (5 < code.toNat ∨ x1.toNat < x0.toNat ∨ y1.toNat < y0.toNat →
      exec (.setLamps x0 y0 x1 y1 code) s = .next (s.reportActivity.repliedWith 0x60 .badValue [])) ∧
    (x0.toNat ≤ x1.toNat → y0.toNat ≤ y1.toNat →
      ∃ t, exec (.setLamps x0 y0 x1 y1 v.code) s =
          .next
            (t.replied 0x60
              [byte (allCells.countP reached), byte (allCells.countP fun c => reached c && decide (s.hostSetting c ≠ v))]) ∧
        (∀ c, t.hostSetting c = if reached c then v else s.hostSetting c) ∧
        t.lamps = { s.lamps with host := t.lamps.host, guard := t.lamps.guard } ∧
        (t.lamps.guard = s.lamps.guard → t.notices = s.notices) ∧
        s.drivesFollow t ∧ s.drivesAlone t ∧
        s.lanesSteady t ∧ t.quests.records = s.quests.records ∧ t.rest = s.reportActivity.rest ∧
        s.sameBut t [.lamps, .notices, .lanes, .quests, .rest])

/-- The drive of a lamp from its cell's effective setting, the blink phase and the guard, and the effective setting by the cases of R135 in order (R134, R135, R136). The nominal load Ln and the dimmed load Ld are the sums of R137: the lamps of RUNNING lanes at their on-values, and 8 while the sounder plays. -/
def Obligations.LampDrives : Prop :=
  (∀ (c : CellId) (b : Pos) (q : QuestId) (s : State),
    ((s.cell c).state = .retired ∨ s.rest.part = .resting → s.effective c = .off) ∧
    ((s.cell c).state ≠ .retired → s.rest.part ≠ .resting →
      (s.hostSetting c ≠ .free → s.effective c = s.hostSetting c) ∧
      (s.hostSetting c = .free →
        (s.position c = none → s.effective c = .off) ∧
        (s.position c = some b →
          let flashes (k : QuestId) : Prop := ∃ f, Table.read s.lamps.flashes k = some f ∧ f.region.covers b = true
          let hints (k : QuestId) : Prop := ∃ r, Table.read s.lamps.hints k = some r ∧ r.covers b = true
          (flashes q → s.effective c = .bright) ∧
          ((∀ k, ¬flashes k) → hints q → s.effective c = .blinkDim) ∧
          ((∀ k, ¬flashes k) → (∀ k, ¬hints k) → s.effective c = .off)))) ∧
    s.drive c =
      match s.effective c with
      | .free | .off => .off
      | .dim => .dim
      | .bright => if s.lamps.guard = .clear then .bright else .dim
      | .blinkDim => if s.lamps.phaseOn then .dim else .off
      | .blinkBright => if s.lamps.phaseOn then (if s.lamps.guard = .clear then .bright else .dim) else .off) ∧
  (∀ (n : Lane) (s : State),
    let units (top : Nat) (c : CellId) : Nat :=
      if (s.lane c.lane).state = .running then
        match s.effective c with
        | .free | .off => 0
        | .dim => 1
        | .bright => top
        | .blinkDim => if s.lamps.phaseOn then 1 else 0
        | .blinkBright => if s.lamps.phaseOn then top else 0
      else 0
    let sounds : Nat := if s.lamps.sounder.isSome then 8 else 0
    s.ln = (allCells.map (units 2)).sum + sounds ∧ s.ld = (allCells.map (units 1)).sum + sounds ∧ s.ln ≤ 200 ∧
      s.ld ≤ 104 ∧ s.ld ≤ s.ln ∧ s.laneDrive n = Vector.ofFn fun i => s.drive ⟨n, i⟩)

/-- SET_LOAD_LIMIT clamps the limit into 16 to 200 and evaluates the guard once by the table of R138, with a GUARD notice into and out of HOLDING; a SETTLING guard stays. A lane whose drives change with the guard is marked stale, and a RUNNING one with no slot in flight loads them in its turn. That the limit takes one byte in the reply is assumption 13 (R138, R141). -/
def Obligations.SetLoadLimitEvaluatesTheGuard : Prop :=
  ∀ (limit : Byte) (s : State), s.listening →
    let l := if limit.toNat < 16 then 16 else if 200 < limit.toNat then 200 else limit.toNat
    let g := s.lamps.guard
    ∃ t, exec (.setLoadLimit limit) s =
        .next (t.replied 0x64 [byte s.lamps.limit, byte l, t.lamps.guard.code]) ∧
      let h := t.lamps.guard
      t.lamps = { s.lamps with limit := l, guard := h } ∧
      (g = .clear →
        (l < s.ln → s.ld ≤ l → h = .dimmed) ∧ (l < s.ln → l < s.ld → h = .holding) ∧ (s.ln ≤ l → h = .clear)) ∧
      (g = .dimmed →
        (l < s.ld → h = .holding) ∧ (s.ld ≤ l → s.ln ≤ l - 8 → h = .clear) ∧
          (s.ld ≤ l → l - 8 < s.ln → h = .dimmed)) ∧
      (g = .holding →
        (s.ld ≤ l - 8 → s.ln ≤ l - 8 → h = .clear) ∧ (s.ld ≤ l - 8 → l - 8 < s.ln → h = .dimmed) ∧
          (l - 8 < s.ld → h = .holding)) ∧
      (g = .settling → h = .settling) ∧
      t.notices =
        (if g ≠ h ∧ (g = .holding ∨ h = .holding) then (s.notify (.guard g h s.ln s.ld l)).notices else s.notices) ∧
      s.drivesFollow t ∧ s.drivesAlone t ∧ s.lanesSteady t ∧ t.quests.records = s.quests.records ∧
      t.rest = s.reportActivity.rest ∧
      s.sameBut t [.lamps, .notices, .lanes, .quests, .rest]

/-- PLAY_CUE appends a cue, which starts at once in an empty queue, or is answered FULL; STOP_CUES empties the queue and silences the sounder; CUE_END makes the next cue the head, which starts at once. A lane whose drives change with the guard is marked stale, and a RUNNING one with no slot in flight loads them in its turn (R32, R136, R143, R144, R145). That CUE_END is a command of its own, guarded by its condition, is assumption 8. That a frame's start byte restarts an expired timer, so that STOP_CUES does not rest the part, is assumption 36. -/
def Obligations.CuesPlayInTurn : Prop :=
  ∀ (a : Byte) (c : Fin 16) (rest : List (Fin 16)) (s : State),
    let ticks (c : Fin 16) : Nat := [1, 2, 4, 4, 6, 8, 3, 2, 5, 6, 10, 12, 8, 8, 16, 1].getD c.val 0
    let frame (t : State) : Prop :=
      t.lamps = { s.lamps with cues := t.lamps.cues, sounder := t.lamps.sounder, guard := t.lamps.guard } ∧
        (t.lamps.guard = s.lamps.guard → t.notices = s.notices) ∧ s.drivesFollow t ∧ s.drivesAlone t ∧ s.lanesSteady t ∧
        t.quests.records = s.quests.records ∧ s.sameBut t [.lamps, .notices, .lanes, .quests, .rest]
    (s.listening →
      (15 < a.toNat → exec (.playCue a) s = .next (s.reportActivity.repliedWith 0x62 .badValue [])) ∧
      (8 ≤ s.lamps.cues.length →
        exec (.playCue (byte c.val)) s = .next (s.reportActivity.repliedWith 0x62 .full [])) ∧
      (s.lamps.cues.length < 8 →
        ∃ t, exec (.playCue (byte c.val)) s =
            .next
              (t.replied 0x62 [byte (s.lamps.cues.length + 1), if s.lamps.cues = [] then 1 else 0]) ∧
          t.lamps.cues = s.lamps.cues ++ [c] ∧
          t.lamps.sounder = (if s.lamps.cues = [] then some (ticks c) else s.lamps.sounder) ∧
          t.rest = s.reportActivity.rest ∧ frame t) ∧
      (s.rest.delay ≠ 0 ∨ s.rest.activity ≠ .expired →
        ∃ t, exec .stopCues s =
            .next (t.replied 0x63 [byte s.lamps.cues.length, if s.lamps.sounder.isSome then 1 else 0]) ∧
          t.lamps.cues = [] ∧ t.lamps.sounder = none ∧ t.rest = s.reportActivity.rest ∧ frame t)) ∧
    (s.chip = .running → s.lamps.sounder = some 1 → s.lamps.cues = c :: rest →
      s.rest.activity ≠ .expired ∨ rest ≠ [] ∧ s.rest.part = .ready ∧ s.rest.delay ≠ 0 →
      ∃ t, exec .cueEnd s = .next t ∧ t.lamps.cues = rest ∧ t.lamps.sounder = rest.head?.map ticks ∧
        t.rest = (if rest = [] then s.rest else s.reportActivity.rest) ∧ frame t)

/-- BLINK_PHASE_CHANGE turns the phase at the second tick and FLASH_EXPIRY removes a flash at its last tick, each marking stale the lanes whose drives it changes, and a TICK likewise; a RUNNING lane with no slot in flight loads its new drives in its turn at the arbiter. A TICK restarts the tick generator, raises a running clock by one, held at its end, and leaves a paused one; flashes, blink phase and the playing cue each take the tick whether the clock runs or not. A running tick does its duties quest by quest in quest order: a hold that has lasted its ticks advances the quest, and otherwise a deadline that is reached fails it (R27, R32, R100, R103, R124, R133, R136, R143). A part about to rest whose lamps take the tick first may pause its clock before the clock takes it (R169); of that case only the frame, the blink phase and the tick timer are said. The order of the two paths is the command's operand (assumption 7), that the others are commands of their own is assumption 8, and the points of a timed stage without a deadline are assumption 29. -/
def Obligations.TicksFlashesAndBlink : Prop :=
  (∀ (q : QuestId) (f : Flash) (s : State), s.chip = .running →
    let frame (t : State) : Prop :=
      (t.lamps.guard = s.lamps.guard → t.notices = s.notices) ∧ s.lanesSteady t ∧
        t.quests.records = s.quests.records ∧
        s.drivesFollow t ∧ s.drivesAlone t ∧
        s.sameBut t [.lamps, .notices, .lanes, .quests]
    (s.lamps.blinkCount = 1 →
      ∃ t, exec .blinkPhaseChange s = .next t ∧
        t.lamps = { s.lamps with phaseOn := !s.lamps.phaseOn, blinkCount := 0, guard := t.lamps.guard } ∧ frame t) ∧
    (Table.read s.lamps.flashes q = some f → f.left = 1 →
      ∃ t, exec (.flashExpiry q) s = .next t ∧
        t.lamps =
          { s.lamps with flashes := Table.put s.lamps.flashes q none, guard := t.lamps.guard } ∧ frame t)) ∧
  (∀ (order : TickOrder) (s : State),
    s.chip = .running →
    let clock := if s.play.clockRunning then min 16777215 (s.play.clock + 1) else s.play.clock
    let ticks (c : Fin 16) : Nat := [1, 2, 4, 4, 6, 8, 3, 2, 5, 6, 10, 12, 8, 8, 16, 1].getD c.val 0
    let offer (x : List (Fin 16) × Option Nat) (c : Fin 16) : List (Fin 16) × Option Nat :=
      if 8 ≤ x.1.length then x else (x.1 ++ [c], if x.1 = [] then some (ticks c) else x.2)
    let play (x : List (Fin 16) × Option Nat) : List (Fin 16) × Option Nat :=
      match x.2 with
      | none => x
      | some k => if k ≤ 1 then (x.1.drop 1, (x.1.drop 1).head?.map ticks) else (x.1, some (k - 1))
    let fade (f : Option Flash) : Option Flash :=
      f.bind fun f => if f.left ≤ 1 then none else some { f with left := f.left - 1 }
    let completes (q : QuestId) : Option Stage :=
      let r := s.quest q
      match s.play.clockRunning, r.state, r.stages[r.progress.stage]?, r.progress.holdSince with
      | true, .running, some st, some since =>
        match st.test with
        | .hold _ _ d => if since ≤ clock ∧ d ≤ clock - since then some st else none
        | _ => none
      | _, _, _, _ => none
    let fails (q : QuestId) : Bool :=
      s.play.clockRunning && (completes q).isNone && decide ((s.quest q).state = .running) &&
        match (s.quest q).progress.deadline with
        | some due => decide (due ≤ clock)
        | none => false
    let points (q : QuestId) (st : Stage) : Nat :=
      st.reward + timeBonus st.reward st.limit (s.quest q).progress.deadline clock
    let advances : List (QuestId × Stage) :=
      (List.finRange 24).filterMap fun q => (completes q).map fun st => (q, st)
    let told : List NoticeBody :=
      (List.finRange 24).filterMap fun q =>
        let r := s.quest q
        match completes q with
        | some st =>
          some
            (if r.progress.stage + 1 = r.stages.length then
              .questDone q r.progress.stage (points q st) r.owner true s.epoch
            else .stageDone q r.progress.stage (points q st) r.owner true s.epoch)
        | none => if fails q then some (.questFailed q r.progress.stage .time r.progress.earned) else none
    let acts : Prop := advances ≠ [] ∨ ∃ q, fails q = true
    ∃ t, exec (.tick order) s = .next t ∧ t.play.tickTimer = 125 ∧
      t.lamps.phaseOn = (if 1 ≤ s.lamps.blinkCount then !s.lamps.phaseOn else s.lamps.phaseOn) ∧
      t.lamps.blinkCount = (if 1 ≤ s.lamps.blinkCount then 0 else s.lamps.blinkCount + 1) ∧
      (s.play.clockRunning = false → t.play = { s.play with tickTimer := 125 } ∧
        t.quests.records = s.quests.records) ∧
      (s.play.clockRunning = false ∨ s.rest.activity ≠ .expired ∨ order = .clockFirst →
        t.play.clock = clock ∧
        (∀ q,
          let r := s.quest q
          let at_ := r.progress.stage
          let posted (st : Stage) : Option Flash := st.hint.map fun g => { region := g, left := 8 }
          (∀ st, completes q = some st →
            (∀ next, r.stages[at_ + 1]? = some next →
              t.quest q =
                { r with
                  progress :=
                    { r.progress with
                      stage := at_ + 1, earned := min 1500 (r.progress.earned + points q st), started := some clock
                      holdSince := none
                      deadline := if next.limit = 0 then none else some (min 16777215 (clock + next.limit)) } }) ∧
            (r.stages.length = at_ + 1 →
              t.quest q =
                { r with
                  state := .done
                  progress :=
                    { r.progress with
                      stage := at_ + 1, earned := min 1500 (r.progress.earned + points q st), deadline := none
                      remaining := none, holdSince := none } }) ∧
            Table.read t.lamps.hints q = (r.stages[at_ + 1]?).bind (·.hint)) ∧
          (fails q = true →
            t.quest q =
              { r with
                state := .failed
                progress :=
                  { r.progress with
                    deadline := none, remaining := none, holdSince := none, failReason := some .time } } ∧
            Table.read t.lamps.hints q = none) ∧
          (completes q = none → fails q = false →
            t.quest q = r ∧ Table.read t.lamps.hints q = Table.read s.lamps.hints q) ∧
          Table.read t.lamps.flashes q =
            match order with
            | .clockFirst => fade (((completes q).bind posted).or (Table.read s.lamps.flashes q))
            | .lampsFirst => ((completes q).bind posted).or (fade (Table.read s.lamps.flashes q))) ∧
        (∀ k, Table.read t.play.scores k =
          ((advances.filter fun a => decide ((s.quest a.1).owner = k)).map fun a => points a.1 a.2).foldl
            (fun v x => min 9999 (v + x)) (Table.read s.play.scores k)) ∧
        (t.lamps.cues, t.lamps.sounder) =
          (let cues := advances.filterMap fun a => a.2.cue
          match order with
          | .clockFirst => play (cues.foldl offer (s.lamps.cues, s.lamps.sounder))
          | .lampsFirst => cues.foldl offer (play (s.lamps.cues, s.lamps.sounder))) ∧
        (s.quests.pass = none →
          t.quests.passWanted = false ∧
            (t.quests.pass.isSome = true ↔ s.quests.passWanted = true ∨ advances ≠ [])) ∧
        (∀ p, s.quests.pass = some p →
          t.quests.passWanted = (s.quests.passWanted || !advances.isEmpty) ∧
            t.quests.pass =
              some { p with evaluated := p.evaluated.filter fun e => (completes e.1).isNone && !fails e.1 })) ∧
      (s.rest.activity ≠ .expired →
        let ticked : State := { s with play := { s.play with clock := clock } }
        t.play = { s.play with clock := clock, scores := t.play.scores, tickTimer := 125 } ∧
          (t.rest = s.rest ∨ t.rest = s.reportActivity.rest) ∧ (acts → t.rest = s.reportActivity.rest) ∧
          s.lanesSteady t ∧
          ∃ u : NoticeUnit, s.filed { s with notices := u } [] ∧ { ticked with notices := u }.filed t told) ∧
      t.lamps =
        { s.lamps with
          hints := t.lamps.hints, flashes := t.lamps.flashes, phaseOn := t.lamps.phaseOn
          blinkCount := t.lamps.blinkCount, guard := t.lamps.guard, cues := t.lamps.cues
          sounder := t.lamps.sounder } ∧
      t.epoch = s.epoch ∧ t.cells = s.cells ∧ t.plan = s.plan ∧ s.drivesFollow t ∧
      s.sameBut t [.play, .quests, .lamps, .notices, .lanes, .rest])

/-! ### Rest, wake, start-up and new games -/

/-- SET_REST clamps the delay, takes auto-pause, and restarts or stops the activity timer. When the activity timer runs out with the sounder idle the part rests: RESTING with every lamp OFF, the lanes in SWEEP, a running clock paused if auto-pause is on, and REST queued; while a cue plays it waits, and REST_ENTRY is the rest that follows (R169). That REST_ENTRY is guarded by its condition is assumption 8. On the change to SWEEP a lane's scan stops waiting, its pace is gone, a slot in flight goes on, and a RUNNING lane's sweep timer starts at 250 ms; its stale flag is set where the rest changed a drive (R31, R32, R136). The arbiter then looks for a grant, at the end of the event (assumption 9). -/
def Obligations.SetRestAndRest : Prop :=
  (∀ (delay : BitVec 16) (a : Byte) (on : Bool) (s : State), s.listening →
    let d := if delay.toNat = 0 then 0 else if delay.toNat < 10 then 10 else if 3600 < delay.toNat then 3600 else delay.toNat
    (1 < a.toNat → exec (.setRest delay a) s = .next (s.reportActivity.repliedWith 0x05 .badValue [])) ∧
    exec (.setRest delay (flag on)) s =
      .next
        ({ s with
            rest := { s.rest with delay := d, autoPause := on, activity := if d = 0 then .stopped else .running d } }.replied
          0x05 (two s.rest.delay ++ [flag s.rest.autoPause] ++ two d ++ [flag on]))) ∧
  (∀ (n : Lane) (c : CellId) (k : Nat) (s : State), s.chip = .running → s.rest.part = .ready →
    let u := s.lane n
    let pauses := s.rest.autoPause && s.play.clockRunning
    let sweeps (t : State) : Prop :=
      s.drivesFollow t ∧
        t.laneGoes n
          { u with
            mode := .sweep, waiting := false, pace := none, sweep := none
            sweepTimer := if u.state = .running then some 250 else none
            stale := u.stale || decide (s.laneDrive n ≠ t.laneDrive n) }
    let rests (t : State) : Prop :=
      t.rest.part = .resting ∧ t.rest.activity = .stopped ∧ t.rest.delay = s.rest.delay ∧
        t.rest.autoPause = s.rest.autoPause ∧ (pauses = true → t.rest.autoPaused = true) ∧
        (pauses = false → t.rest.autoPaused = s.rest.autoPaused) ∧
        t.play = { s.play with clockRunning := s.play.clockRunning && !pauses } ∧ t.effective c = .off ∧
        (t.lane n).mode = .sweep ∧ (t.lane n).state = (s.lane n).state ∧
        ((s.lane n).state = .running → (t.lane n).sweepTimer = some 250) ∧ sweeps t ∧
        (s.notices.opened = true → s.notices.modes.play ≠ .off → s.notices.queue.length + 3 ≤ 32 →
          t.lastNotice (.rest s.rest.delay s.rest.autoPause pauses)) ∧
        t.quests.records = s.quests.records ∧ s.sameBut t [.rest, .play, .lamps, .notices, .lanes, .quests]
    (s.rest.activity = .running k → s.lamps.sounder = none →
      ∃ t, exec .activityTimerExpiry s = .next t ∧ rests t) ∧
    (s.rest.activity = .running k → s.lamps.sounder.isSome = true →
      ∃ t, exec .activityTimerExpiry s = .next t ∧ t.rest = { s.rest with activity := .expired } ∧ s.lanesSteady t ∧
        t.quests.records = s.quests.records ∧ s.sameBut t [.rest, .lanes, .quests]) ∧
    (s.rest.activity = .expired → s.lamps.sounder = none → ∃ t, exec .restEntry s = .next t ∧ rests t) ∧
    (s.rest.activity = .expired → s.lamps.sounder = some 1 → s.lamps.cues.length = 1 →
      ∃ t, exec .cueEnd s = .next t ∧ t.rest.part = .resting ∧ t.lamps.cues = [] ∧ t.lamps.sounder = none ∧ sweeps t))

/-- A frame's start byte, a read that steps its cell, and a connector event that takes a lane transition wake a RESTING part: READY with its activity timer full, the auto-paused flag cleared, an auto-paused clock running again, and WAKE last, with its cause (R170). Each lane changes to NORMAL: its sweep is abandoned and its sweep timer stopped, its pointer is the cell the sweep would have read next or slot 0, and its scan waits at once if it is RUNNING with a cell to read (R31); stale marks follow the drives (R32, R136). A read that passes the guard leaves map, trace, first-fault record and quests as the same read of a READY part does. It wakes the part when it changes the cell's state, a count, its fault score or its entries, and otherwise leaves it RESTING, with no notice, and its lane as any read ends (R38 step 6). CONNECTOR_LOST wakes a part from a RUNNING or LINKING lane, back to ABSENT or LOST, with a hold timer that goes on, starts afresh, or at hold time 0 clears the lane at once; CONNECTOR_SEEN from an ABSENT or LOST one. A connector level that is only noted wakes nothing (R15). The model's own readings: a committed board change counts as a change where arrive_n or lift_n is 1 (assumption 15); the read's lane grants before the wake and the other lanes after (assumption 9); the fairness count starts again with the scan's wait (assumption 10); the guard is evaluated before WAKE (assumption 14); the clearing at hold time 0 is assumption 18. -/
def Obligations.WakesOfTheRestingPart : Prop :=
  ∀ (n : Lane) (c : CellId) (k : SlotKind) (marks : List Mark) (s : State), s.chip = .running →
    s.rest.part = .resting →
    let u := s.lane n
    let woken : RestController :=
      { s.rest with
        part := .ready, autoPaused := false
        activity := if s.rest.delay = 0 then .stopped else .running s.rest.delay }
    let scans (m : Lane) (t : State) : Prop :=
      let v := s.lane m
      let reads : Prop := v.state = .running ∧ ∃ i : Slot, (s.cell ⟨m, i⟩).state ≠ .retired
      t.laneGoes m
        { v with
          mode := .normal, sweepTimer := none, sweep := none, pace := none, waiting := decide reads
          pointer := if v.waiting then v.sweep.getD 0 else 0
          fairness := if reads then 0 else v.fairness
          stale := v.stale || decide (s.laneDrive m ≠ t.laneDrive m) }
    let tells (room : Nat) (cause : WakeCause) (t : State) : Prop :=
      s.notices.opened = true → s.notices.modes.play ≠ .off → s.notices.queue.length + room ≤ 32 →
        t.lastNotice (.wake cause s.rest.autoPaused)
    let wakes (t : State) : Prop :=
      t.rest = woken ∧ (t.lane n).mode = .normal ∧ (t.lane n).sweepTimer = none ∧ (∀ m, m ≠ n → scans m t) ∧
        s.drivesFollow t
    (s.link.ignoring = false → s.link.asm = .hunting →
      ∃ t, exec (.receiveByte (.good 0xA5)) s = .next t ∧ wakes t ∧ scans n t ∧ (t.lane n).state = u.state ∧
        t.play = { s.play with clockRunning := s.play.clockRunning || s.rest.autoPaused } ∧ tells 3 .frame t ∧
        t.quests.records = s.quests.records ∧ s.sameBut t [.rest, .play, .lamps, .notices, .lanes, .quests, .link]) ∧
    (s.readInFlight n = some (c, k) → s.lamps.guard = .clear ∨ s.lamps.guard = .dimmed →
      ∃ t v, exec (.readSlotEnd n marks) s = .next t ∧
        exec (.readSlotEnd n marks) { s with rest := { s.rest with part := .ready } } = .next v ∧
        let steps : Prop :=
          (v.cell c).state ≠ (s.cell c).state ∨
            (v.cell c).candidate.map (·.arrive) ≠ (s.cell c).candidate.map (·.arrive) ∨
            (v.cell c).lift ≠ (s.cell c).lift ∨ (v.cell c).absent ≠ (s.cell c).absent ∨
            (v.cell c).score ≠ (s.cell c).score ∨ (v.cell c).entries ≠ (s.cell c).entries ∨ v.epoch ≠ s.epoch
        t.cells = v.cells ∧ t.epoch = v.epoch ∧ t.watch = v.watch ∧ t.firstFault = v.firstFault ∧
          t.quests = v.quests ∧ (t.lane n).state = u.state ∧
          (steps →
            wakes t ∧ tells 8 (.tracker c) t ∧
              t.play = { v.play with clockRunning := v.play.clockRunning || s.rest.autoPaused }) ∧
          (¬steps →
            t.rest = s.rest ∧ s.lanesSteady t ∧
              t.laneGoes n (u.slotEnded c.slot (decide ((v.cell c).candidate ≠ (s.cell c).candidate))) ∧
              t.notices = s.notices ∧ t.play = s.play ∧ t.lamps = s.lamps) ∧
          (∀ code, (s.cell c).state = .vacant → (hear false marks).kind = .decoded code →
            max (Table.read s.sensing.floors c.lane) ((s.cell c).peak / 2) ≤ (hear false marks).amplitude →
            2 ≤ s.sensing.arriveN → (t.cell c).state = .arriving ∧ wakes t ∧ tells 3 (.tracker c) t) ∧
          ((s.cell c).state = .vacant → (hear false marks).kind = .absent → t.rest = s.rest ∧ t.cells = s.cells) ∧
          s.sameBut t [.rest, .play, .lamps, .notices, .lanes, .quests, .cells, .epoch, .watch, .firstFault]) ∧
    (u.state = .running ∨ u.state = .linking →
      ∃ t, exec (.connectorLost n) s = .next t ∧ wakes t ∧ (t.lane n).connector = false ∧
        (u.state = .running → u.checkPending = false → u.parkWaiting = false → s.sensing.hold ≠ 0 →
          (t.lane n).state = .lost ∧ (t.lane n).hold = some s.sensing.hold ∧ tells 5 (.connector n) t) ∧
        (u.state = .linking → u.returnState = some .absent →
          (t.lane n).state = .absent ∧ tells 3 (.connector n) t) ∧
        (u.state = .linking → u.returnState = some .lost →
          (u.hold.isSome = true ∨ s.sensing.hold ≠ 0 →
            (t.lane n).state = .lost ∧ (t.lane n).hold = u.hold.or (some s.sensing.hold) ∧
              tells 3 (.connector n) t) ∧
          (u.hold = none → s.sensing.hold = 0 → (t.lane n).state = .absent ∧ (t.lane n).hold = none))) ∧
    (u.state = .absent ∨ u.state = .lost ∨ u.state = .parked →
      ∃ t, exec (.connectorLost n) s = .next t ∧ t.rest = s.rest ∧ t.lane n = { u with connector := false }) ∧
    (u.state = .absent ∨ u.state = .lost →
      ∃ t, exec (.connectorSeen n) s = .next t ∧ wakes t ∧ (t.lane n).state = .linking ∧ tells 3 (.connector n) t) ∧
    (u.state = .linking ∨ u.state = .running ∨ u.state = .parked →
      ∃ t, exec (.connectorSeen n) s = .next t ∧ t.rest = s.rest)

/-- START_UP_END makes the part READY and queues STARTED as the first notice of the opened unit; GUARD_SETTLE_END evaluates the guard once by the HOLDING rows (R139, R140, R155, R168). GUARD_SETTLE_END leaves each lane with a stale mark where one of its drives changed (R32, R136), as the arbiter, which grants at the end of the event, left it (assumption 9). -/
def Obligations.StartUpAndSettleEnd : Prop :=
  ∀ (s : State), s.chip = .running →
    (s.rest.part = .starting → s.rest.startUp.isSome = true → s.notices = NoticeUnit.reset →
      exec .startUpEnd s =
        .next
          { s with
            rest :=
              { s.rest with
                part := .ready, startUp := none
                activity := if s.rest.delay = 0 then .stopped else .running s.rest.delay }
            notices :=
              { NoticeUnit.reset with
                opened := true, next := 1
                queue :=
                  [{ seq := 0
                     body :=
                       .started s.rest.startReason (Table.each s.lanes fun _ u => u.connector)
                         (Table.each s.lanes fun _ u => decide (u.state = .running))
                     epoch := s.epoch, clock := s.play.clock }] } }) ∧
    (s.lamps.guard = .settling → s.lamps.settle.isSome = true →
      let low := s.lamps.limit - 8
      ∃ t, exec .guardSettleEnd s = .next t ∧
        let h := t.lamps.guard
        t.lamps = { s.lamps with settle := none, guard := h } ∧
        (low < s.ld → h = .holding) ∧ (s.ld ≤ low → low < s.ln → h = .dimmed) ∧
        (s.ld ≤ low → s.ln ≤ low → h = .clear) ∧
        t.notices =
          (if h = .holding then (s.notify (.guard .settling h s.ln s.ld s.lamps.limit)).notices else s.notices) ∧
        s.drivesFollow t ∧
        (∀ n, t.laneGoes n
          { s.lane n with stale := (s.lane n).stale || decide (s.laneDrive n ≠ t.laneDrive n) }) ∧
        s.lanesSteady t ∧ t.quests.records = s.quests.records ∧ s.sameBut t [.lamps, .notices, .lanes, .quests])

/-- NEW_GAME resets quests, turns, clock, scores, quest lamps, cues and the notice queue, and keeps definitions, plan, map, roster, patterns, host lamps, modes and counters (R93, R106, R129, R131, R145, R155). That its own frame restarts an expired timer, so that it does not rest the part, is R167's and assumption 36. A lane whose drives change is marked stale or, while it runs, loads them (R32, R136); where the guard does not move, no other mark changes until the arbiters have been asked. -/
def Obligations.NewGameResetsTheGame : Prop :=
  ∀ (s : State), s.listening → s.rest.delay ≠ 0 ∨ s.rest.activity ≠ .expired →
    ∃ t, exec .newGame s = .next (t.replied 0x04 []) ∧
      (∀ q, ((s.quest q).state = .empty → t.quest q = s.quest q) ∧
        ((s.quest q).state ≠ .empty →
          t.quest q =
            { s.quest q with
              state := .dormant
              progress :=
                { stage := 0, started := none, deadline := none, remaining := none, holdSince := none, earned := 0
                  failReason := none } })) ∧
      t.quests.passWanted = false ∧ t.quests.pass = none ∧
      t.play =
        { s.play with
          current := if s.play.turns then 1 else 0, turnNumber := 1, moves := 0, clock := 0, clockRunning := false
          scores := t.play.scores } ∧
      (∀ k, Table.read t.play.scores k = 0) ∧
      t.lamps =
        { s.lamps with
          hints := t.lamps.hints, flashes := t.lamps.flashes, cues := [], sounder := none, guard := t.lamps.guard } ∧
      (∀ q, Table.read t.lamps.hints q = none ∧ Table.read t.lamps.flashes q = none) ∧
      t.notices.queue = [] ∧ t.notices.dropped = 0 ∧ t.notices.modes = s.notices.modes ∧
      t.notices.opened = s.notices.opened ∧ (t.lamps.guard = s.lamps.guard → t.notices.next = s.notices.next) ∧
      t.attn = false ∧ s.drivesFollow t ∧ s.drivesAlone t ∧ s.lanesSteady t ∧ t.rest = s.reportActivity.rest ∧
      s.sameBut t [.quests, .play, .lamps, .notices, .lanes, .rest]

/-! ### What every step keeps -/

/-- The state right after reset is the state RESET_END leaves after a power-up, which is the model's choice (assumption 6), and every law below holds there. -/
def Obligations.LawsHoldAtReset : Prop :=
  exec .resetEnd { State.reset with chip := .held .power } = .next State.reset ∧ State.reset.planLawful ∧
    State.reset.cellsLawful ∧ State.reset.serialsUnique ∧ State.reset.roster.lawful ∧ State.reset.questsLawful ∧
    State.reset.passLawful ∧ State.reset.play.inRange ∧ State.reset.lamps.inRange ∧ State.reset.notices.inRange ∧
    (∀ n, (State.reset.lane n).lawful) ∧ State.reset.linkLawful ∧ State.reset.restLawful

/-- Every step keeps the plan's standing law (placed lanes lie on the grid and share no position), and the roster at most 192 entries with one entry a serial (R3, R4, R65). The entries' rising order is assumption 24. -/
def Obligations.StepKeepsThePlanAndRoster : Prop :=
  (∀ s t, s.planLawful → step s = .next t → t.planLawful) ∧
  (∀ s t, s.roster.lawful → step s = .next t → t.roster.lawful)

/-- Every step keeps the cell records as R36 and R37 say (incumbent and candidate present by state, counts and parameters in range), and keeps a serial the incumbent of at most one cell (R44). -/
def Obligations.StepKeepsTheCells : Prop :=
  (∀ s t, s.cellsLawful → step s = .next t → t.cellsLawful) ∧
  (∀ s t, s.serialsUnique → step s = .next t → t.serialsUnique)

/-- Every step keeps quests, pass, patterns in use and hints in agreement (R106, R108, R120, R126). -/
def Obligations.StepKeepsTheQuestsLawful : Prop :=
  ∀ s t, s.questsLawful ∧ s.passLawful → step s = .next t → t.questsLawful ∧ t.passLawful

/-- Every step keeps the play record, the lamps and the notices in their ranges (R93, R131, R146), and the part state in agreement with its timers, the auto-paused flag and the Notice Unit (R155, R167). -/
def Obligations.StepKeepsTheRanges : Prop :=
  (∀ s t, s.play.inRange ∧ s.lamps.inRange ∧ s.notices.inRange → step s = .next t →
    t.play.inRange ∧ t.lamps.inRange ∧ t.notices.inRange) ∧
  (∀ s t, s.restLawful → step s = .next t → t.restLawful)

/-- Every step keeps each lane's items in agreement with its state, and the link within its room with its request in hand where a lane's work waits (R14, R17, R33, R159, R162, R164). -/
def Obligations.StepKeepsLanesAndLinkLawful : Prop :=
  ∀ s t, (∀ n, (s.lane n).lawful) ∧ s.linkLawful → step s = .next t → (∀ n, (t.lane n).lawful) ∧ t.linkLawful
end

