-- ==== Sys2Proof/Laws/Tables.lean ====
section
/-!
SUPPORT. The laws of tables: what a read gives after a write, a map or a fill.
-/

namespace Sys2Proof.Table

variable {n : Nat} {α β : Type}

@[simp] theorem read_put_same (t : Table n α) (i : Fin n) (a : α) : (t.put i a).read i = a := by
  simp [Table.put, Table.read, Vector.get_eq_getElem]

theorem read_put_ne (t : Table n α) {i j : Fin n} (a : α) (h : j ≠ i) : (t.put i a).read j = t.read j := by
  have : i.val ≠ j.val := fun e => h (Fin.ext e.symm)
  simp [Table.put, Table.read, Vector.get_eq_getElem, this]

theorem read_put (t : Table n α) (i j : Fin n) (a : α) : (t.put i a).read j = if j = i then a else t.read j := by
  by_cases h : j = i
  · subst h; simp
  · simp [read_put_ne t a h, h]

@[simp] theorem read_each (t : Table n α) (f : Fin n → α → β) (i : Fin n) : (t.each f).read i = f i (t.read i) := by
  simp [Table.each, Table.read, Vector.get_eq_getElem]

@[simp] theorem read_full (i : Fin n) (a : α) : (Table.full n a).read i = a := by
  simp [Table.full, Table.read, Vector.get_eq_getElem]

/-- Two tables that read alike are one. -/
theorem ext_read {t u : Table n α} (h : ∀ i, t.read i = u.read i) : t = u := by
  apply Vector.ext
  intro i hi
  have := h ⟨i, hi⟩
  simpa [Table.read, Vector.get_eq_getElem] using this

end Sys2Proof.Table
end

