-- ==== Sys2Proof/Laws/State.lean ====
section
/-!
SUPPORT. What every plain update leaves as it was, field by field, and what it gives back where it wrote.
-/

namespace Sys2Proof.Machine

open Sys2Proof

variable (s : State)

/-! ### setLane -/

@[simp] theorem setLane_chip (n : Lane) (u : LaneUnit) : (s.setLane n u).chip = s.chip := rfl
@[simp] theorem setLane_rest (n : Lane) (u : LaneUnit) : (s.setLane n u).rest = s.rest := rfl
@[simp] theorem setLane_plan (n : Lane) (u : LaneUnit) : (s.setLane n u).plan = s.plan := rfl
@[simp] theorem setLane_cells (n : Lane) (u : LaneUnit) : (s.setLane n u).cells = s.cells := rfl
@[simp] theorem setLane_cell (n : Lane) (u : LaneUnit) (x : CellId) : (s.setLane n u).cell x = s.cell x := rfl
@[simp] theorem setLane_epoch (n : Lane) (u : LaneUnit) : (s.setLane n u).epoch = s.epoch := rfl
@[simp] theorem setLane_sensing (n : Lane) (u : LaneUnit) : (s.setLane n u).sensing = s.sensing := rfl
@[simp] theorem setLane_firstFault (n : Lane) (u : LaneUnit) : (s.setLane n u).firstFault = s.firstFault := rfl
@[simp] theorem setLane_watch (n : Lane) (u : LaneUnit) : (s.setLane n u).watch = s.watch := rfl
@[simp] theorem setLane_roster (n : Lane) (u : LaneUnit) : (s.setLane n u).roster = s.roster := rfl
@[simp] theorem setLane_patterns (n : Lane) (u : LaneUnit) : (s.setLane n u).patterns = s.patterns := rfl
@[simp] theorem setLane_quests (n : Lane) (u : LaneUnit) : (s.setLane n u).quests = s.quests := rfl
@[simp] theorem setLane_quest (n : Lane) (u : LaneUnit) (x : QuestId) : (s.setLane n u).quest x = s.quest x := rfl
@[simp] theorem setLane_play (n : Lane) (u : LaneUnit) : (s.setLane n u).play = s.play := rfl
@[simp] theorem setLane_lamps (n : Lane) (u : LaneUnit) : (s.setLane n u).lamps = s.lamps := rfl
@[simp] theorem setLane_notices (n : Lane) (u : LaneUnit) : (s.setLane n u).notices = s.notices := rfl
@[simp] theorem setLane_link (n : Lane) (u : LaneUnit) : (s.setLane n u).link = s.link := rfl
@[simp] theorem setLane_pending (n : Lane) (u : LaneUnit) : (s.setLane n u).pending = s.pending := rfl

/-! ### setCell -/

@[simp] theorem setCell_chip (c : CellId) (r : CellRec) : (s.setCell c r).chip = s.chip := rfl
@[simp] theorem setCell_rest (c : CellId) (r : CellRec) : (s.setCell c r).rest = s.rest := rfl
@[simp] theorem setCell_plan (c : CellId) (r : CellRec) : (s.setCell c r).plan = s.plan := rfl
@[simp] theorem setCell_lanes (c : CellId) (r : CellRec) : (s.setCell c r).lanes = s.lanes := rfl
@[simp] theorem setCell_lane (c : CellId) (r : CellRec) (x : Lane) : (s.setCell c r).lane x = s.lane x := rfl
@[simp] theorem setCell_epoch (c : CellId) (r : CellRec) : (s.setCell c r).epoch = s.epoch := rfl
@[simp] theorem setCell_sensing (c : CellId) (r : CellRec) : (s.setCell c r).sensing = s.sensing := rfl
@[simp] theorem setCell_firstFault (c : CellId) (r : CellRec) : (s.setCell c r).firstFault = s.firstFault := rfl
@[simp] theorem setCell_watch (c : CellId) (r : CellRec) : (s.setCell c r).watch = s.watch := rfl
@[simp] theorem setCell_roster (c : CellId) (r : CellRec) : (s.setCell c r).roster = s.roster := rfl
@[simp] theorem setCell_patterns (c : CellId) (r : CellRec) : (s.setCell c r).patterns = s.patterns := rfl
@[simp] theorem setCell_quests (c : CellId) (r : CellRec) : (s.setCell c r).quests = s.quests := rfl
@[simp] theorem setCell_quest (c : CellId) (r : CellRec) (x : QuestId) : (s.setCell c r).quest x = s.quest x := rfl
@[simp] theorem setCell_play (c : CellId) (r : CellRec) : (s.setCell c r).play = s.play := rfl
@[simp] theorem setCell_lamps (c : CellId) (r : CellRec) : (s.setCell c r).lamps = s.lamps := rfl
@[simp] theorem setCell_notices (c : CellId) (r : CellRec) : (s.setCell c r).notices = s.notices := rfl
@[simp] theorem setCell_link (c : CellId) (r : CellRec) : (s.setCell c r).link = s.link := rfl
@[simp] theorem setCell_pending (c : CellId) (r : CellRec) : (s.setCell c r).pending = s.pending := rfl

/-! ### mapCells -/

@[simp] theorem mapCells_chip (f : CellId → CellRec → CellRec) : (s.mapCells f).chip = s.chip := rfl
@[simp] theorem mapCells_rest (f : CellId → CellRec → CellRec) : (s.mapCells f).rest = s.rest := rfl
@[simp] theorem mapCells_plan (f : CellId → CellRec → CellRec) : (s.mapCells f).plan = s.plan := rfl
@[simp] theorem mapCells_lanes (f : CellId → CellRec → CellRec) : (s.mapCells f).lanes = s.lanes := rfl
@[simp] theorem mapCells_lane (f : CellId → CellRec → CellRec) (x : Lane) : (s.mapCells f).lane x = s.lane x := rfl
@[simp] theorem mapCells_epoch (f : CellId → CellRec → CellRec) : (s.mapCells f).epoch = s.epoch := rfl
@[simp] theorem mapCells_sensing (f : CellId → CellRec → CellRec) : (s.mapCells f).sensing = s.sensing := rfl
@[simp] theorem mapCells_firstFault (f : CellId → CellRec → CellRec) : (s.mapCells f).firstFault = s.firstFault := rfl
@[simp] theorem mapCells_watch (f : CellId → CellRec → CellRec) : (s.mapCells f).watch = s.watch := rfl
@[simp] theorem mapCells_roster (f : CellId → CellRec → CellRec) : (s.mapCells f).roster = s.roster := rfl
@[simp] theorem mapCells_patterns (f : CellId → CellRec → CellRec) : (s.mapCells f).patterns = s.patterns := rfl
@[simp] theorem mapCells_quests (f : CellId → CellRec → CellRec) : (s.mapCells f).quests = s.quests := rfl
@[simp] theorem mapCells_quest (f : CellId → CellRec → CellRec) (x : QuestId) : (s.mapCells f).quest x = s.quest x := rfl
@[simp] theorem mapCells_play (f : CellId → CellRec → CellRec) : (s.mapCells f).play = s.play := rfl
@[simp] theorem mapCells_lamps (f : CellId → CellRec → CellRec) : (s.mapCells f).lamps = s.lamps := rfl
@[simp] theorem mapCells_notices (f : CellId → CellRec → CellRec) : (s.mapCells f).notices = s.notices := rfl
@[simp] theorem mapCells_link (f : CellId → CellRec → CellRec) : (s.mapCells f).link = s.link := rfl
@[simp] theorem mapCells_pending (f : CellId → CellRec → CellRec) : (s.mapCells f).pending = s.pending := rfl

/-! ### mapLanes -/

@[simp] theorem mapLanes_chip (f : Lane → LaneUnit → LaneUnit) : (s.mapLanes f).chip = s.chip := rfl
@[simp] theorem mapLanes_rest (f : Lane → LaneUnit → LaneUnit) : (s.mapLanes f).rest = s.rest := rfl
@[simp] theorem mapLanes_plan (f : Lane → LaneUnit → LaneUnit) : (s.mapLanes f).plan = s.plan := rfl
@[simp] theorem mapLanes_cells (f : Lane → LaneUnit → LaneUnit) : (s.mapLanes f).cells = s.cells := rfl
@[simp] theorem mapLanes_cell (f : Lane → LaneUnit → LaneUnit) (x : CellId) : (s.mapLanes f).cell x = s.cell x := rfl
@[simp] theorem mapLanes_epoch (f : Lane → LaneUnit → LaneUnit) : (s.mapLanes f).epoch = s.epoch := rfl
@[simp] theorem mapLanes_sensing (f : Lane → LaneUnit → LaneUnit) : (s.mapLanes f).sensing = s.sensing := rfl
@[simp] theorem mapLanes_firstFault (f : Lane → LaneUnit → LaneUnit) : (s.mapLanes f).firstFault = s.firstFault := rfl
@[simp] theorem mapLanes_watch (f : Lane → LaneUnit → LaneUnit) : (s.mapLanes f).watch = s.watch := rfl
@[simp] theorem mapLanes_roster (f : Lane → LaneUnit → LaneUnit) : (s.mapLanes f).roster = s.roster := rfl
@[simp] theorem mapLanes_patterns (f : Lane → LaneUnit → LaneUnit) : (s.mapLanes f).patterns = s.patterns := rfl
@[simp] theorem mapLanes_quests (f : Lane → LaneUnit → LaneUnit) : (s.mapLanes f).quests = s.quests := rfl
@[simp] theorem mapLanes_quest (f : Lane → LaneUnit → LaneUnit) (x : QuestId) : (s.mapLanes f).quest x = s.quest x := rfl
@[simp] theorem mapLanes_play (f : Lane → LaneUnit → LaneUnit) : (s.mapLanes f).play = s.play := rfl
@[simp] theorem mapLanes_lamps (f : Lane → LaneUnit → LaneUnit) : (s.mapLanes f).lamps = s.lamps := rfl
@[simp] theorem mapLanes_notices (f : Lane → LaneUnit → LaneUnit) : (s.mapLanes f).notices = s.notices := rfl
@[simp] theorem mapLanes_link (f : Lane → LaneUnit → LaneUnit) : (s.mapLanes f).link = s.link := rfl
@[simp] theorem mapLanes_pending (f : Lane → LaneUnit → LaneUnit) : (s.mapLanes f).pending = s.pending := rfl

/-! ### setQuest -/

@[simp] theorem setQuest_chip (q : QuestId) (r : Quest) : (s.setQuest q r).chip = s.chip := rfl
@[simp] theorem setQuest_rest (q : QuestId) (r : Quest) : (s.setQuest q r).rest = s.rest := rfl
@[simp] theorem setQuest_plan (q : QuestId) (r : Quest) : (s.setQuest q r).plan = s.plan := rfl
@[simp] theorem setQuest_lanes (q : QuestId) (r : Quest) : (s.setQuest q r).lanes = s.lanes := rfl
@[simp] theorem setQuest_lane (q : QuestId) (r : Quest) (x : Lane) : (s.setQuest q r).lane x = s.lane x := rfl
@[simp] theorem setQuest_cells (q : QuestId) (r : Quest) : (s.setQuest q r).cells = s.cells := rfl
@[simp] theorem setQuest_cell (q : QuestId) (r : Quest) (x : CellId) : (s.setQuest q r).cell x = s.cell x := rfl
@[simp] theorem setQuest_epoch (q : QuestId) (r : Quest) : (s.setQuest q r).epoch = s.epoch := rfl
@[simp] theorem setQuest_sensing (q : QuestId) (r : Quest) : (s.setQuest q r).sensing = s.sensing := rfl
@[simp] theorem setQuest_firstFault (q : QuestId) (r : Quest) : (s.setQuest q r).firstFault = s.firstFault := rfl
@[simp] theorem setQuest_watch (q : QuestId) (r : Quest) : (s.setQuest q r).watch = s.watch := rfl
@[simp] theorem setQuest_roster (q : QuestId) (r : Quest) : (s.setQuest q r).roster = s.roster := rfl
@[simp] theorem setQuest_patterns (q : QuestId) (r : Quest) : (s.setQuest q r).patterns = s.patterns := rfl
@[simp] theorem setQuest_play (q : QuestId) (r : Quest) : (s.setQuest q r).play = s.play := rfl
@[simp] theorem setQuest_lamps (q : QuestId) (r : Quest) : (s.setQuest q r).lamps = s.lamps := rfl
@[simp] theorem setQuest_notices (q : QuestId) (r : Quest) : (s.setQuest q r).notices = s.notices := rfl
@[simp] theorem setQuest_link (q : QuestId) (r : Quest) : (s.setQuest q r).link = s.link := rfl
@[simp] theorem setQuest_pending (q : QuestId) (r : Quest) : (s.setQuest q r).pending = s.pending := rfl

/-! ### wantPass -/

@[simp] theorem wantPass_chip : (s.wantPass).chip = s.chip := rfl
@[simp] theorem wantPass_rest : (s.wantPass).rest = s.rest := rfl
@[simp] theorem wantPass_plan : (s.wantPass).plan = s.plan := rfl
@[simp] theorem wantPass_lanes : (s.wantPass).lanes = s.lanes := rfl
@[simp] theorem wantPass_lane (x : Lane) : (s.wantPass).lane x = s.lane x := rfl
@[simp] theorem wantPass_cells : (s.wantPass).cells = s.cells := rfl
@[simp] theorem wantPass_cell (x : CellId) : (s.wantPass).cell x = s.cell x := rfl
@[simp] theorem wantPass_epoch : (s.wantPass).epoch = s.epoch := rfl
@[simp] theorem wantPass_sensing : (s.wantPass).sensing = s.sensing := rfl
@[simp] theorem wantPass_firstFault : (s.wantPass).firstFault = s.firstFault := rfl
@[simp] theorem wantPass_watch : (s.wantPass).watch = s.watch := rfl
@[simp] theorem wantPass_roster : (s.wantPass).roster = s.roster := rfl
@[simp] theorem wantPass_patterns : (s.wantPass).patterns = s.patterns := rfl
@[simp] theorem wantPass_play : (s.wantPass).play = s.play := rfl
@[simp] theorem wantPass_lamps : (s.wantPass).lamps = s.lamps := rfl
@[simp] theorem wantPass_notices : (s.wantPass).notices = s.notices := rfl
@[simp] theorem wantPass_link : (s.wantPass).link = s.link := rfl
@[simp] theorem wantPass_pending : (s.wantPass).pending = s.pending := rfl

/-! ### leaveSet -/

@[simp] theorem leaveSet_chip (q : QuestId) : (s.leaveSet q).chip = s.chip := rfl
@[simp] theorem leaveSet_rest (q : QuestId) : (s.leaveSet q).rest = s.rest := rfl
@[simp] theorem leaveSet_plan (q : QuestId) : (s.leaveSet q).plan = s.plan := rfl
@[simp] theorem leaveSet_lanes (q : QuestId) : (s.leaveSet q).lanes = s.lanes := rfl
@[simp] theorem leaveSet_lane (q : QuestId) (x : Lane) : (s.leaveSet q).lane x = s.lane x := rfl
@[simp] theorem leaveSet_cells (q : QuestId) : (s.leaveSet q).cells = s.cells := rfl
@[simp] theorem leaveSet_cell (q : QuestId) (x : CellId) : (s.leaveSet q).cell x = s.cell x := rfl
@[simp] theorem leaveSet_epoch (q : QuestId) : (s.leaveSet q).epoch = s.epoch := rfl
@[simp] theorem leaveSet_sensing (q : QuestId) : (s.leaveSet q).sensing = s.sensing := rfl
@[simp] theorem leaveSet_firstFault (q : QuestId) : (s.leaveSet q).firstFault = s.firstFault := rfl
@[simp] theorem leaveSet_watch (q : QuestId) : (s.leaveSet q).watch = s.watch := rfl
@[simp] theorem leaveSet_roster (q : QuestId) : (s.leaveSet q).roster = s.roster := rfl
@[simp] theorem leaveSet_patterns (q : QuestId) : (s.leaveSet q).patterns = s.patterns := rfl
@[simp] theorem leaveSet_play (q : QuestId) : (s.leaveSet q).play = s.play := rfl
@[simp] theorem leaveSet_lamps (q : QuestId) : (s.leaveSet q).lamps = s.lamps := rfl
@[simp] theorem leaveSet_notices (q : QuestId) : (s.leaveSet q).notices = s.notices := rfl
@[simp] theorem leaveSet_link (q : QuestId) : (s.leaveSet q).link = s.link := rfl
@[simp] theorem leaveSet_pending (q : QuestId) : (s.leaveSet q).pending = s.pending := rfl

/-! ### pushReply -/

@[simp] theorem pushReply_chip (r : Reply) : (s.pushReply r).chip = s.chip := rfl
@[simp] theorem pushReply_rest (r : Reply) : (s.pushReply r).rest = s.rest := rfl
@[simp] theorem pushReply_plan (r : Reply) : (s.pushReply r).plan = s.plan := rfl
@[simp] theorem pushReply_lanes (r : Reply) : (s.pushReply r).lanes = s.lanes := rfl
@[simp] theorem pushReply_lane (r : Reply) (x : Lane) : (s.pushReply r).lane x = s.lane x := rfl
@[simp] theorem pushReply_cells (r : Reply) : (s.pushReply r).cells = s.cells := rfl
@[simp] theorem pushReply_cell (r : Reply) (x : CellId) : (s.pushReply r).cell x = s.cell x := rfl
@[simp] theorem pushReply_epoch (r : Reply) : (s.pushReply r).epoch = s.epoch := rfl
@[simp] theorem pushReply_sensing (r : Reply) : (s.pushReply r).sensing = s.sensing := rfl
@[simp] theorem pushReply_firstFault (r : Reply) : (s.pushReply r).firstFault = s.firstFault := rfl
@[simp] theorem pushReply_watch (r : Reply) : (s.pushReply r).watch = s.watch := rfl
@[simp] theorem pushReply_roster (r : Reply) : (s.pushReply r).roster = s.roster := rfl
@[simp] theorem pushReply_patterns (r : Reply) : (s.pushReply r).patterns = s.patterns := rfl
@[simp] theorem pushReply_quests (r : Reply) : (s.pushReply r).quests = s.quests := rfl
@[simp] theorem pushReply_quest (r : Reply) (x : QuestId) : (s.pushReply r).quest x = s.quest x := rfl
@[simp] theorem pushReply_play (r : Reply) : (s.pushReply r).play = s.play := rfl
@[simp] theorem pushReply_lamps (r : Reply) : (s.pushReply r).lamps = s.lamps := rfl
@[simp] theorem pushReply_notices (r : Reply) : (s.pushReply r).notices = s.notices := rfl
@[simp] theorem pushReply_pending (r : Reply) : (s.pushReply r).pending = s.pending := rfl

/-! ### refaceLane -/

@[simp] theorem refaceLane_chip (n : Lane) : (s.refaceLane n).chip = s.chip := rfl
@[simp] theorem refaceLane_rest (n : Lane) : (s.refaceLane n).rest = s.rest := rfl
@[simp] theorem refaceLane_plan (n : Lane) : (s.refaceLane n).plan = s.plan := rfl
@[simp] theorem refaceLane_lanes (n : Lane) : (s.refaceLane n).lanes = s.lanes := rfl
@[simp] theorem refaceLane_lane (n : Lane) (x : Lane) : (s.refaceLane n).lane x = s.lane x := rfl
@[simp] theorem refaceLane_epoch (n : Lane) : (s.refaceLane n).epoch = s.epoch := rfl
@[simp] theorem refaceLane_sensing (n : Lane) : (s.refaceLane n).sensing = s.sensing := rfl
@[simp] theorem refaceLane_firstFault (n : Lane) : (s.refaceLane n).firstFault = s.firstFault := rfl
@[simp] theorem refaceLane_watch (n : Lane) : (s.refaceLane n).watch = s.watch := rfl
@[simp] theorem refaceLane_roster (n : Lane) : (s.refaceLane n).roster = s.roster := rfl
@[simp] theorem refaceLane_patterns (n : Lane) : (s.refaceLane n).patterns = s.patterns := rfl
@[simp] theorem refaceLane_quests (n : Lane) : (s.refaceLane n).quests = s.quests := rfl
@[simp] theorem refaceLane_quest (n : Lane) (x : QuestId) : (s.refaceLane n).quest x = s.quest x := rfl
@[simp] theorem refaceLane_play (n : Lane) : (s.refaceLane n).play = s.play := rfl
@[simp] theorem refaceLane_lamps (n : Lane) : (s.refaceLane n).lamps = s.lamps := rfl
@[simp] theorem refaceLane_notices (n : Lane) : (s.refaceLane n).notices = s.notices := rfl
@[simp] theorem refaceLane_link (n : Lane) : (s.refaceLane n).link = s.link := rfl
@[simp] theorem refaceLane_pending (n : Lane) : (s.refaceLane n).pending = s.pending := rfl

/-! ### credit -/

@[simp] theorem credit_chip (k : Player) (p : Nat) : (s.credit k p).chip = s.chip := rfl
@[simp] theorem credit_rest (k : Player) (p : Nat) : (s.credit k p).rest = s.rest := rfl
@[simp] theorem credit_plan (k : Player) (p : Nat) : (s.credit k p).plan = s.plan := rfl
@[simp] theorem credit_lanes (k : Player) (p : Nat) : (s.credit k p).lanes = s.lanes := rfl
@[simp] theorem credit_lane (k : Player) (p : Nat) (x : Lane) : (s.credit k p).lane x = s.lane x := rfl
@[simp] theorem credit_cells (k : Player) (p : Nat) : (s.credit k p).cells = s.cells := rfl
@[simp] theorem credit_cell (k : Player) (p : Nat) (x : CellId) : (s.credit k p).cell x = s.cell x := rfl
@[simp] theorem credit_epoch (k : Player) (p : Nat) : (s.credit k p).epoch = s.epoch := rfl
@[simp] theorem credit_sensing (k : Player) (p : Nat) : (s.credit k p).sensing = s.sensing := rfl
@[simp] theorem credit_firstFault (k : Player) (p : Nat) : (s.credit k p).firstFault = s.firstFault := rfl
@[simp] theorem credit_watch (k : Player) (p : Nat) : (s.credit k p).watch = s.watch := rfl
@[simp] theorem credit_roster (k : Player) (p : Nat) : (s.credit k p).roster = s.roster := rfl
@[simp] theorem credit_patterns (k : Player) (p : Nat) : (s.credit k p).patterns = s.patterns := rfl
@[simp] theorem credit_quests (k : Player) (p : Nat) : (s.credit k p).quests = s.quests := rfl
@[simp] theorem credit_quest (k : Player) (p : Nat) (x : QuestId) : (s.credit k p).quest x = s.quest x := rfl
@[simp] theorem credit_lamps (k : Player) (p : Nat) : (s.credit k p).lamps = s.lamps := rfl
@[simp] theorem credit_notices (k : Player) (p : Nat) : (s.credit k p).notices = s.notices := rfl
@[simp] theorem credit_link (k : Player) (p : Nat) : (s.credit k p).link = s.link := rfl
@[simp] theorem credit_pending (k : Player) (p : Nat) : (s.credit k p).pending = s.pending := rfl

/-! ### setAsm -/

@[simp] theorem setAsm_chip (a : Assembler) (g : Option Nat) : (s.setAsm a g).chip = s.chip := rfl
@[simp] theorem setAsm_rest (a : Assembler) (g : Option Nat) : (s.setAsm a g).rest = s.rest := rfl
@[simp] theorem setAsm_plan (a : Assembler) (g : Option Nat) : (s.setAsm a g).plan = s.plan := rfl
@[simp] theorem setAsm_lanes (a : Assembler) (g : Option Nat) : (s.setAsm a g).lanes = s.lanes := rfl
@[simp] theorem setAsm_lane (a : Assembler) (g : Option Nat) (x : Lane) : (s.setAsm a g).lane x = s.lane x := rfl
@[simp] theorem setAsm_cells (a : Assembler) (g : Option Nat) : (s.setAsm a g).cells = s.cells := rfl
@[simp] theorem setAsm_cell (a : Assembler) (g : Option Nat) (x : CellId) : (s.setAsm a g).cell x = s.cell x := rfl
@[simp] theorem setAsm_epoch (a : Assembler) (g : Option Nat) : (s.setAsm a g).epoch = s.epoch := rfl
@[simp] theorem setAsm_sensing (a : Assembler) (g : Option Nat) : (s.setAsm a g).sensing = s.sensing := rfl
@[simp] theorem setAsm_firstFault (a : Assembler) (g : Option Nat) : (s.setAsm a g).firstFault = s.firstFault := rfl
@[simp] theorem setAsm_watch (a : Assembler) (g : Option Nat) : (s.setAsm a g).watch = s.watch := rfl
@[simp] theorem setAsm_roster (a : Assembler) (g : Option Nat) : (s.setAsm a g).roster = s.roster := rfl
@[simp] theorem setAsm_patterns (a : Assembler) (g : Option Nat) : (s.setAsm a g).patterns = s.patterns := rfl
@[simp] theorem setAsm_quests (a : Assembler) (g : Option Nat) : (s.setAsm a g).quests = s.quests := rfl
@[simp] theorem setAsm_quest (a : Assembler) (g : Option Nat) (x : QuestId) : (s.setAsm a g).quest x = s.quest x := rfl
@[simp] theorem setAsm_play (a : Assembler) (g : Option Nat) : (s.setAsm a g).play = s.play := rfl
@[simp] theorem setAsm_lamps (a : Assembler) (g : Option Nat) : (s.setAsm a g).lamps = s.lamps := rfl
@[simp] theorem setAsm_notices (a : Assembler) (g : Option Nat) : (s.setAsm a g).notices = s.notices := rfl
@[simp] theorem setAsm_pending (a : Assembler) (g : Option Nat) : (s.setAsm a g).pending = s.pending := rfl

/-! ### setPattern -/

@[simp] theorem setPattern_chip (p : Fin 32) (d : Option Pattern) : (s.setPattern p d).chip = s.chip := rfl
@[simp] theorem setPattern_rest (p : Fin 32) (d : Option Pattern) : (s.setPattern p d).rest = s.rest := rfl
@[simp] theorem setPattern_plan (p : Fin 32) (d : Option Pattern) : (s.setPattern p d).plan = s.plan := rfl
@[simp] theorem setPattern_lanes (p : Fin 32) (d : Option Pattern) : (s.setPattern p d).lanes = s.lanes := rfl
@[simp] theorem setPattern_lane (p : Fin 32) (d : Option Pattern) (x : Lane) : (s.setPattern p d).lane x = s.lane x := rfl
@[simp] theorem setPattern_cells (p : Fin 32) (d : Option Pattern) : (s.setPattern p d).cells = s.cells := rfl
@[simp] theorem setPattern_cell (p : Fin 32) (d : Option Pattern) (x : CellId) : (s.setPattern p d).cell x = s.cell x := rfl
@[simp] theorem setPattern_epoch (p : Fin 32) (d : Option Pattern) : (s.setPattern p d).epoch = s.epoch := rfl
@[simp] theorem setPattern_sensing (p : Fin 32) (d : Option Pattern) : (s.setPattern p d).sensing = s.sensing := rfl
@[simp] theorem setPattern_firstFault (p : Fin 32) (d : Option Pattern) : (s.setPattern p d).firstFault = s.firstFault := rfl
@[simp] theorem setPattern_watch (p : Fin 32) (d : Option Pattern) : (s.setPattern p d).watch = s.watch := rfl
@[simp] theorem setPattern_roster (p : Fin 32) (d : Option Pattern) : (s.setPattern p d).roster = s.roster := rfl
@[simp] theorem setPattern_quests (p : Fin 32) (d : Option Pattern) : (s.setPattern p d).quests = s.quests := rfl
@[simp] theorem setPattern_quest (p : Fin 32) (d : Option Pattern) (x : QuestId) : (s.setPattern p d).quest x = s.quest x := rfl
@[simp] theorem setPattern_play (p : Fin 32) (d : Option Pattern) : (s.setPattern p d).play = s.play := rfl
@[simp] theorem setPattern_lamps (p : Fin 32) (d : Option Pattern) : (s.setPattern p d).lamps = s.lamps := rfl
@[simp] theorem setPattern_notices (p : Fin 32) (d : Option Pattern) : (s.setPattern p d).notices = s.notices := rfl
@[simp] theorem setPattern_link (p : Fin 32) (d : Option Pattern) : (s.setPattern p d).link = s.link := rfl
@[simp] theorem setPattern_pending (p : Fin 32) (d : Option Pattern) : (s.setPattern p d).pending = s.pending := rfl

/-! ### setHost -/

@[simp] theorem setHost_chip (l : List CellId) (v : LampSetting) : (s.setHost l v).chip = s.chip := rfl
@[simp] theorem setHost_rest (l : List CellId) (v : LampSetting) : (s.setHost l v).rest = s.rest := rfl
@[simp] theorem setHost_plan (l : List CellId) (v : LampSetting) : (s.setHost l v).plan = s.plan := rfl
@[simp] theorem setHost_lanes (l : List CellId) (v : LampSetting) : (s.setHost l v).lanes = s.lanes := rfl
@[simp] theorem setHost_lane (l : List CellId) (v : LampSetting) (x : Lane) : (s.setHost l v).lane x = s.lane x := rfl
@[simp] theorem setHost_cells (l : List CellId) (v : LampSetting) : (s.setHost l v).cells = s.cells := rfl
@[simp] theorem setHost_cell (l : List CellId) (v : LampSetting) (x : CellId) : (s.setHost l v).cell x = s.cell x := rfl
@[simp] theorem setHost_epoch (l : List CellId) (v : LampSetting) : (s.setHost l v).epoch = s.epoch := rfl
@[simp] theorem setHost_sensing (l : List CellId) (v : LampSetting) : (s.setHost l v).sensing = s.sensing := rfl
@[simp] theorem setHost_firstFault (l : List CellId) (v : LampSetting) : (s.setHost l v).firstFault = s.firstFault := rfl
@[simp] theorem setHost_watch (l : List CellId) (v : LampSetting) : (s.setHost l v).watch = s.watch := rfl
@[simp] theorem setHost_roster (l : List CellId) (v : LampSetting) : (s.setHost l v).roster = s.roster := rfl
@[simp] theorem setHost_patterns (l : List CellId) (v : LampSetting) : (s.setHost l v).patterns = s.patterns := rfl
@[simp] theorem setHost_quests (l : List CellId) (v : LampSetting) : (s.setHost l v).quests = s.quests := rfl
@[simp] theorem setHost_quest (l : List CellId) (v : LampSetting) (x : QuestId) : (s.setHost l v).quest x = s.quest x := rfl
@[simp] theorem setHost_play (l : List CellId) (v : LampSetting) : (s.setHost l v).play = s.play := rfl
@[simp] theorem setHost_notices (l : List CellId) (v : LampSetting) : (s.setHost l v).notices = s.notices := rfl
@[simp] theorem setHost_link (l : List CellId) (v : LampSetting) : (s.setHost l v).link = s.link := rfl
@[simp] theorem setHost_pending (l : List CellId) (v : LampSetting) : (s.setHost l v).pending = s.pending := rfl

/-! ### setHoldSince -/

@[simp] theorem setHoldSince_chip (q : QuestId) (v : Option Nat) : (s.setHoldSince q v).chip = s.chip := rfl
@[simp] theorem setHoldSince_rest (q : QuestId) (v : Option Nat) : (s.setHoldSince q v).rest = s.rest := rfl
@[simp] theorem setHoldSince_plan (q : QuestId) (v : Option Nat) : (s.setHoldSince q v).plan = s.plan := rfl
@[simp] theorem setHoldSince_lanes (q : QuestId) (v : Option Nat) : (s.setHoldSince q v).lanes = s.lanes := rfl
@[simp] theorem setHoldSince_lane (q : QuestId) (v : Option Nat) (x : Lane) : (s.setHoldSince q v).lane x = s.lane x := rfl
@[simp] theorem setHoldSince_cells (q : QuestId) (v : Option Nat) : (s.setHoldSince q v).cells = s.cells := rfl
@[simp] theorem setHoldSince_cell (q : QuestId) (v : Option Nat) (x : CellId) : (s.setHoldSince q v).cell x = s.cell x := rfl
@[simp] theorem setHoldSince_epoch (q : QuestId) (v : Option Nat) : (s.setHoldSince q v).epoch = s.epoch := rfl
@[simp] theorem setHoldSince_sensing (q : QuestId) (v : Option Nat) : (s.setHoldSince q v).sensing = s.sensing := rfl
@[simp] theorem setHoldSince_firstFault (q : QuestId) (v : Option Nat) : (s.setHoldSince q v).firstFault = s.firstFault := rfl
@[simp] theorem setHoldSince_watch (q : QuestId) (v : Option Nat) : (s.setHoldSince q v).watch = s.watch := rfl
@[simp] theorem setHoldSince_roster (q : QuestId) (v : Option Nat) : (s.setHoldSince q v).roster = s.roster := rfl
@[simp] theorem setHoldSince_patterns (q : QuestId) (v : Option Nat) : (s.setHoldSince q v).patterns = s.patterns := rfl
@[simp] theorem setHoldSince_play (q : QuestId) (v : Option Nat) : (s.setHoldSince q v).play = s.play := rfl
@[simp] theorem setHoldSince_lamps (q : QuestId) (v : Option Nat) : (s.setHoldSince q v).lamps = s.lamps := rfl
@[simp] theorem setHoldSince_notices (q : QuestId) (v : Option Nat) : (s.setHoldSince q v).notices = s.notices := rfl
@[simp] theorem setHoldSince_link (q : QuestId) (v : Option Nat) : (s.setHoldSince q v).link = s.link := rfl
@[simp] theorem setHoldSince_pending (q : QuestId) (v : Option Nat) : (s.setHoldSince q v).pending = s.pending := rfl

/-! ### What a write gives back -/

@[simp] theorem setLane_lane_same (n : Lane) (u : LaneUnit) : (s.setLane n u).lane n = u := by
  simp [State.setLane, State.lane]

theorem setLane_lane_ne {n m : Lane} (u : LaneUnit) (h : m ≠ n) : (s.setLane n u).lane m = s.lane m := by
  simp [State.setLane, State.lane, Table.read_put_ne _ _ h]

theorem setLane_lane (n m : Lane) (u : LaneUnit) : (s.setLane n u).lane m = if m = n then u else s.lane m := by
  simp [State.setLane, State.lane, Table.read_put]

@[simp] theorem setCell_cell_same (c : CellId) (r : CellRec) : (s.setCell c r).cell c = r := by
  simp [State.setCell, State.cell, putCell]

theorem setCell_cell_ne {c d : CellId} (r : CellRec) (h : d ≠ c) : (s.setCell c r).cell d = s.cell d := by
  obtain ⟨n, i⟩ := c
  obtain ⟨m, j⟩ := d
  by_cases hm : m = n
  · subst hm
    have hj : j ≠ i := fun e => h (by rw [e])
    simp [State.setCell, State.cell, putCell, Table.read_put_ne _ _ hj]
  · simp [State.setCell, State.cell, putCell, Table.read_put_ne _ _ hm]

theorem setCell_cell (c d : CellId) (r : CellRec) : (s.setCell c r).cell d = if d = c then r else s.cell d := by
  by_cases h : d = c
  · subst h; simp
  · simp [setCell_cell_ne s r h, h]

@[simp] theorem mapCells_cell (f : CellId → CellRec → CellRec) (c : CellId) :
    (s.mapCells f).cell c = f c (s.cell c) := by
  simp [State.mapCells, State.cell]

@[simp] theorem mapLanes_lane (f : Lane → LaneUnit → LaneUnit) (n : Lane) :
    (s.mapLanes f).lane n = f n (s.lane n) := by
  simp [State.mapLanes, State.lane]

@[simp] theorem setQuest_quest_same (q : QuestId) (r : Quest) : (s.setQuest q r).quest q = r := by
  simp [State.setQuest, State.quest]

theorem setQuest_quest_ne {q p : QuestId} (r : Quest) (h : p ≠ q) : (s.setQuest q r).quest p = s.quest p := by
  simp [State.setQuest, State.quest, Table.read_put_ne _ _ h]

@[simp] theorem setQuest_pass (q : QuestId) (r : Quest) : (s.setQuest q r).quests.pass = s.quests.pass := rfl
@[simp] theorem setQuest_passWanted (q : QuestId) (r : Quest) :
    (s.setQuest q r).quests.passWanted = s.quests.passWanted := rfl
@[simp] theorem wantPass_passWanted : s.wantPass.quests.passWanted = true := rfl
@[simp] theorem wantPass_pass : s.wantPass.quests.pass = s.quests.pass := rfl
@[simp] theorem wantPass_records : s.wantPass.quests.records = s.quests.records := rfl
@[simp] theorem wantPass_quest (q : QuestId) : s.wantPass.quest q = s.quest q := rfl
@[simp] theorem leaveSet_quest (q p : QuestId) : (s.leaveSet q).quest p = s.quest p := rfl
@[simp] theorem leaveSet_passWanted (q : QuestId) : (s.leaveSet q).quests.passWanted = s.quests.passWanted := rfl

/-- After a quest has left the evaluated set, the set is what it was without that quest. -/
theorem leaveSet_pass (q : QuestId) :
    (s.leaveSet q).quests.pass =
      s.quests.pass.map fun p => { p with evaluated := p.evaluated.filter fun e => decide (e.1 ≠ q) } := rfl

@[simp] theorem pushReply_replies (r : Reply) : (s.pushReply r).link.replies = s.link.replies ++ [r] := rfl
@[simp] theorem pushReply_asm (r : Reply) : (s.pushReply r).link.asm = s.link.asm := rfl
@[simp] theorem pushReply_gap (r : Reply) : (s.pushReply r).link.gap = s.link.gap := rfl
@[simp] theorem pushReply_inHand (r : Reply) : (s.pushReply r).link.inHand = s.link.inHand := rfl
@[simp] theorem pushReply_ignoring (r : Reply) : (s.pushReply r).link.ignoring = s.link.ignoring := rfl

/-- A cell record reads as its lane's row does. -/
theorem cell_eq (c : CellId) : s.cell c = Table.read (Table.read s.cells c.lane) c.slot := rfl

/-- Two maps whose every cell reads alike are one. -/
theorem cells_ext {s t : State} (h : ∀ c, s.cell c = t.cell c) : s.cells = t.cells :=
  Table.ext_read fun n => Table.ext_read fun i => h ⟨n, i⟩

/-- Two states whose every lane reads alike have one table of lanes. -/
theorem lanes_ext {s t : State} (h : ∀ n, s.lane n = t.lane n) : s.lanes = t.lanes := Table.ext_read h

/-- Every cell is in the list of all cells. -/
theorem mem_allCells (c : CellId) : c ∈ allCells := by
  simp only [allCells, laneCells, List.mem_flatMap, List.mem_map]
  exact ⟨c.lane, List.mem_finRange _, c.slot, List.mem_finRange _, rfl⟩

/-- A cell of lane `n` is in its list. -/
theorem mem_laneCells (n : Lane) (c : CellId) : c ∈ laneCells n ↔ c.lane = n := by
  obtain ⟨m, i⟩ := c
  simp only [laneCells, List.mem_map]
  constructor
  · rintro ⟨j, _, h⟩
    exact (congrArg CellId.lane h).symm
  · rintro rfl
    exact ⟨i, List.mem_finRange _, rfl⟩

end Sys2Proof.Machine
end

