-- ==== Sys2Proof/Laws/Frames.lean ====
section
/-!
SUPPORT. What every shared operation leaves as it was: one lemma per operation, each part of it a simp rule.
-/

namespace Sys2Proof.Machine

open Sys2Proof

variable (s : State)

@[simp] theorem notify_frame (b : NoticeBody) :
    (s.notify b).chip = s.chip ∧ (s.notify b).rest = s.rest ∧ (s.notify b).plan = s.plan ∧
    (s.notify b).lanes = s.lanes ∧ (s.notify b).cells = s.cells ∧ (s.notify b).epoch = s.epoch ∧
    (s.notify b).sensing = s.sensing ∧ (s.notify b).firstFault = s.firstFault ∧ (s.notify b).watch = s.watch ∧
    (s.notify b).roster = s.roster ∧ (s.notify b).patterns = s.patterns ∧ (s.notify b).quests = s.quests ∧
    (s.notify b).play = s.play ∧ (s.notify b).lamps = s.lamps ∧ (s.notify b).link = s.link ∧
    (s.notify b).pending = s.pending ∧ (∀ x, (s.notify b).cell x = s.cell x) ∧
    (∀ x, (s.notify b).lane x = s.lane x) ∧ (∀ x, (s.notify b).quest x = s.quest x) := by
  unfold State.notify
  (repeat' split) <;> simp [State.cell, State.lane, State.quest]

@[simp] theorem reportActivity_frame :
    (s.reportActivity).chip = s.chip ∧ (s.reportActivity).plan = s.plan ∧ (s.reportActivity).lanes = s.lanes ∧
    (s.reportActivity).cells = s.cells ∧ (s.reportActivity).epoch = s.epoch ∧
    (s.reportActivity).sensing = s.sensing ∧ (s.reportActivity).firstFault = s.firstFault ∧
    (s.reportActivity).watch = s.watch ∧ (s.reportActivity).roster = s.roster ∧
    (s.reportActivity).patterns = s.patterns ∧ (s.reportActivity).quests = s.quests ∧
    (s.reportActivity).play = s.play ∧ (s.reportActivity).lamps = s.lamps ∧ (s.reportActivity).notices = s.notices ∧
    (s.reportActivity).link = s.link ∧ (s.reportActivity).pending = s.pending ∧
    (∀ x, (s.reportActivity).cell x = s.cell x) ∧ (∀ x, (s.reportActivity).lane x = s.lane x) ∧
    (∀ x, (s.reportActivity).quest x = s.quest x) := by
  unfold State.reportActivity
  (repeat' split) <;> simp [State.cell, State.lane, State.quest]

@[simp] theorem postFault_frame (k : FaultCause) (p : FaultPlace) (o : OutcomeKind) (v : Nat) :
    (s.postFault k p o v).chip = s.chip ∧ (s.postFault k p o v).rest = s.rest ∧ (s.postFault k p o v).plan = s.plan ∧
    (s.postFault k p o v).lanes = s.lanes ∧ (s.postFault k p o v).cells = s.cells ∧
    (s.postFault k p o v).epoch = s.epoch ∧ (s.postFault k p o v).sensing = s.sensing ∧
    (s.postFault k p o v).watch = s.watch ∧ (s.postFault k p o v).roster = s.roster ∧
    (s.postFault k p o v).patterns = s.patterns ∧ (s.postFault k p o v).quests = s.quests ∧
    (s.postFault k p o v).play = s.play ∧ (s.postFault k p o v).lamps = s.lamps ∧
    (s.postFault k p o v).notices = s.notices ∧ (s.postFault k p o v).link = s.link ∧
    (s.postFault k p o v).pending = s.pending ∧ (∀ x, (s.postFault k p o v).cell x = s.cell x) ∧
    (∀ x, (s.postFault k p o v).lane x = s.lane x) ∧ (∀ x, (s.postFault k p o v).quest x = s.quest x) := by
  unfold State.postFault
  (repeat' split) <;> simp [State.cell, State.lane, State.quest]

@[simp] theorem requestConfirm_frame (c : CellId) :
    (s.requestConfirm c).chip = s.chip ∧ (s.requestConfirm c).rest = s.rest ∧ (s.requestConfirm c).plan = s.plan ∧
    (s.requestConfirm c).cells = s.cells ∧ (s.requestConfirm c).epoch = s.epoch ∧
    (s.requestConfirm c).sensing = s.sensing ∧ (s.requestConfirm c).firstFault = s.firstFault ∧
    (s.requestConfirm c).watch = s.watch ∧ (s.requestConfirm c).roster = s.roster ∧
    (s.requestConfirm c).patterns = s.patterns ∧ (s.requestConfirm c).quests = s.quests ∧
    (s.requestConfirm c).play = s.play ∧ (s.requestConfirm c).lamps = s.lamps ∧
    (s.requestConfirm c).notices = s.notices ∧ (s.requestConfirm c).link = s.link ∧
    (s.requestConfirm c).pending = s.pending ∧ (∀ x, (s.requestConfirm c).cell x = s.cell x) ∧
    (∀ x, (s.requestConfirm c).quest x = s.quest x) := by
  unfold State.requestConfirm
  try dsimp only
  split <;> simp [State.cell, State.quest]

@[simp] theorem beginWaiting_frame (n : Lane) :
    (s.beginWaiting n).chip = s.chip ∧ (s.beginWaiting n).rest = s.rest ∧ (s.beginWaiting n).plan = s.plan ∧
    (s.beginWaiting n).cells = s.cells ∧ (s.beginWaiting n).epoch = s.epoch ∧
    (s.beginWaiting n).sensing = s.sensing ∧ (s.beginWaiting n).firstFault = s.firstFault ∧
    (s.beginWaiting n).watch = s.watch ∧ (s.beginWaiting n).roster = s.roster ∧
    (s.beginWaiting n).patterns = s.patterns ∧ (s.beginWaiting n).quests = s.quests ∧
    (s.beginWaiting n).play = s.play ∧ (s.beginWaiting n).lamps = s.lamps ∧ (s.beginWaiting n).notices = s.notices ∧
    (s.beginWaiting n).link = s.link ∧ (s.beginWaiting n).pending = s.pending ∧
    (∀ x, (s.beginWaiting n).cell x = s.cell x) ∧ (∀ x, (s.beginWaiting n).quest x = s.quest x) := by
  unfold State.beginWaiting
  (repeat' split) <;> simp [State.cell, State.quest]

@[simp] theorem stopDeadScan_frame (n : Lane) :
    (s.stopDeadScan n).chip = s.chip ∧ (s.stopDeadScan n).rest = s.rest ∧ (s.stopDeadScan n).plan = s.plan ∧
    (s.stopDeadScan n).cells = s.cells ∧ (s.stopDeadScan n).epoch = s.epoch ∧
    (s.stopDeadScan n).sensing = s.sensing ∧ (s.stopDeadScan n).firstFault = s.firstFault ∧
    (s.stopDeadScan n).watch = s.watch ∧ (s.stopDeadScan n).roster = s.roster ∧
    (s.stopDeadScan n).patterns = s.patterns ∧ (s.stopDeadScan n).quests = s.quests ∧
    (s.stopDeadScan n).play = s.play ∧ (s.stopDeadScan n).lamps = s.lamps ∧ (s.stopDeadScan n).notices = s.notices ∧
    (s.stopDeadScan n).link = s.link ∧ (s.stopDeadScan n).pending = s.pending ∧
    (∀ x, (s.stopDeadScan n).cell x = s.cell x) ∧ (∀ x, (s.stopDeadScan n).quest x = s.quest x) := by
  unfold State.stopDeadScan
  try dsimp only
  (repeat' split) <;> simp [State.cell, State.quest]

@[simp] theorem select_frame (c : Option CellId) :
    (s.select c).chip = s.chip ∧ (s.select c).rest = s.rest ∧ (s.select c).plan = s.plan ∧
    (s.select c).lanes = s.lanes ∧ (s.select c).cells = s.cells ∧ (s.select c).epoch = s.epoch ∧
    (s.select c).sensing = s.sensing ∧ (s.select c).firstFault = s.firstFault ∧ (s.select c).roster = s.roster ∧
    (s.select c).patterns = s.patterns ∧ (s.select c).quests = s.quests ∧ (s.select c).play = s.play ∧
    (s.select c).lamps = s.lamps ∧ (s.select c).notices = s.notices ∧ (s.select c).link = s.link ∧
    (s.select c).pending = s.pending ∧ (∀ x, (s.select c).cell x = s.cell x) ∧
    (∀ x, (s.select c).lane x = s.lane x) ∧ (∀ x, (s.select c).quest x = s.quest x) := by
  unfold State.select
  (repeat' split) <;> simp [State.cell, State.lane, State.quest]

/-- Marking stale changes nothing but stale flags. -/
@[simp] theorem markStale_frame (b : State) :
    (State.markStale b s).chip = s.chip ∧ (State.markStale b s).rest = s.rest ∧ (State.markStale b s).plan = s.plan ∧
    (State.markStale b s).cells = s.cells ∧ (State.markStale b s).epoch = s.epoch ∧
    (State.markStale b s).sensing = s.sensing ∧ (State.markStale b s).firstFault = s.firstFault ∧
    (State.markStale b s).watch = s.watch ∧ (State.markStale b s).roster = s.roster ∧
    (State.markStale b s).patterns = s.patterns ∧ (State.markStale b s).quests = s.quests ∧
    (State.markStale b s).play = s.play ∧ (State.markStale b s).lamps = s.lamps ∧
    (State.markStale b s).notices = s.notices ∧ (State.markStale b s).link = s.link ∧
    (State.markStale b s).pending = s.pending ∧ (∀ x, (State.markStale b s).cell x = s.cell x) ∧
    (∀ x, (State.markStale b s).quest x = s.quest x) := by
  unfold State.markStale
  simp

theorem markStale_lane (b : State) (n : Lane) :
    (State.markStale b s).lane n =
      if b.laneDrive n = s.laneDrive n then s.lane n else { s.lane n with stale := true } := by
  unfold State.markStale
  rw [mapLanes_lane]

@[simp] theorem guardTo_frame (g : Guard) :
    (s.guardTo g).chip = s.chip ∧ (s.guardTo g).rest = s.rest ∧ (s.guardTo g).plan = s.plan ∧
    (s.guardTo g).cells = s.cells ∧ (s.guardTo g).epoch = s.epoch ∧ (s.guardTo g).sensing = s.sensing ∧
    (s.guardTo g).firstFault = s.firstFault ∧ (s.guardTo g).watch = s.watch ∧ (s.guardTo g).roster = s.roster ∧
    (s.guardTo g).patterns = s.patterns ∧ (s.guardTo g).quests = s.quests ∧ (s.guardTo g).play = s.play ∧
    (s.guardTo g).link = s.link ∧ (s.guardTo g).pending = s.pending ∧ (∀ x, (s.guardTo g).cell x = s.cell x) ∧
    (∀ x, (s.guardTo g).quest x = s.quest x) := by
  unfold State.guardTo State.markStale
  try dsimp only
  (repeat' split) <;> simp [State.cell, State.quest]

@[simp] theorem evalGuard_frame :
    (s.evalGuard).chip = s.chip ∧ (s.evalGuard).rest = s.rest ∧ (s.evalGuard).plan = s.plan ∧
    (s.evalGuard).cells = s.cells ∧ (s.evalGuard).epoch = s.epoch ∧ (s.evalGuard).sensing = s.sensing ∧
    (s.evalGuard).firstFault = s.firstFault ∧ (s.evalGuard).watch = s.watch ∧ (s.evalGuard).roster = s.roster ∧
    (s.evalGuard).patterns = s.patterns ∧ (s.evalGuard).quests = s.quests ∧ (s.evalGuard).play = s.play ∧
    (s.evalGuard).link = s.link ∧ (s.evalGuard).pending = s.pending ∧ (∀ x, (s.evalGuard).cell x = s.cell x) ∧
    (∀ x, (s.evalGuard).quest x = s.quest x) := by
  unfold State.evalGuard
  simp [State.cell, State.quest]

/-- An event at the lamps changes, beside what `f` does, the guard, stale flags and notices alone. -/
@[simp] theorem lampEvent_frame (f : State → State) :
    (s.lampEvent f).chip = (f s).chip ∧ (s.lampEvent f).rest = (f s).rest ∧ (s.lampEvent f).plan = (f s).plan ∧
    (s.lampEvent f).cells = (f s).cells ∧ (s.lampEvent f).epoch = (f s).epoch ∧
    (s.lampEvent f).sensing = (f s).sensing ∧ (s.lampEvent f).firstFault = (f s).firstFault ∧
    (s.lampEvent f).watch = (f s).watch ∧ (s.lampEvent f).roster = (f s).roster ∧
    (s.lampEvent f).patterns = (f s).patterns ∧ (s.lampEvent f).quests = (f s).quests ∧
    (s.lampEvent f).play = (f s).play ∧ (s.lampEvent f).link = (f s).link ∧ (s.lampEvent f).pending = (f s).pending ∧
    (∀ x, (s.lampEvent f).cell x = (f s).cell x) ∧ (∀ x, (s.lampEvent f).quest x = (f s).quest x) := by
  unfold State.lampEvent
  dsimp only
  split <;> simp [State.cell, State.quest]

@[simp] theorem setHint_frame (q : QuestId) (r : Option Region) :
    (s.setHint q r).chip = s.chip ∧ (s.setHint q r).rest = s.rest ∧ (s.setHint q r).plan = s.plan ∧
    (s.setHint q r).cells = s.cells ∧ (s.setHint q r).epoch = s.epoch ∧ (s.setHint q r).sensing = s.sensing ∧
    (s.setHint q r).firstFault = s.firstFault ∧ (s.setHint q r).watch = s.watch ∧ (s.setHint q r).roster = s.roster ∧
    (s.setHint q r).patterns = s.patterns ∧ (s.setHint q r).quests = s.quests ∧ (s.setHint q r).play = s.play ∧
    (s.setHint q r).link = s.link ∧ (s.setHint q r).pending = s.pending ∧ (∀ x, (s.setHint q r).cell x = s.cell x) ∧
    (∀ x, (s.setHint q r).quest x = s.quest x) := by
  unfold State.setHint
  simp [State.cell, State.quest]

@[simp] theorem postHint_frame (q : QuestId) (r : Option Region) :
    (s.postHint q r).chip = s.chip ∧ (s.postHint q r).rest = s.rest ∧ (s.postHint q r).plan = s.plan ∧
    (s.postHint q r).cells = s.cells ∧ (s.postHint q r).epoch = s.epoch ∧ (s.postHint q r).sensing = s.sensing ∧
    (s.postHint q r).firstFault = s.firstFault ∧ (s.postHint q r).watch = s.watch ∧
    (s.postHint q r).roster = s.roster ∧ (s.postHint q r).patterns = s.patterns ∧
    (s.postHint q r).quests = s.quests ∧ (s.postHint q r).play = s.play ∧ (s.postHint q r).link = s.link ∧
    (s.postHint q r).pending = s.pending ∧ (∀ x, (s.postHint q r).cell x = s.cell x) ∧
    (∀ x, (s.postHint q r).quest x = s.quest x) := by
  unfold State.postHint
  (repeat' split) <;> simp [State.cell, State.quest]

@[simp] theorem postFlash_frame (q : QuestId) (r : Region) :
    (s.postFlash q r).chip = s.chip ∧ (s.postFlash q r).rest = s.rest ∧ (s.postFlash q r).plan = s.plan ∧
    (s.postFlash q r).cells = s.cells ∧ (s.postFlash q r).epoch = s.epoch ∧ (s.postFlash q r).sensing = s.sensing ∧
    (s.postFlash q r).firstFault = s.firstFault ∧ (s.postFlash q r).watch = s.watch ∧
    (s.postFlash q r).roster = s.roster ∧ (s.postFlash q r).patterns = s.patterns ∧
    (s.postFlash q r).quests = s.quests ∧ (s.postFlash q r).play = s.play ∧ (s.postFlash q r).link = s.link ∧
    (s.postFlash q r).pending = s.pending ∧ (∀ x, (s.postFlash q r).cell x = s.cell x) ∧
    (∀ x, (s.postFlash q r).quest x = s.quest x) := by
  unfold State.postFlash
  simp [State.cell, State.quest]

@[simp] theorem tickFlashes_frame :
    (s.tickFlashes).chip = s.chip ∧ (s.tickFlashes).rest = s.rest ∧ (s.tickFlashes).plan = s.plan ∧
    (s.tickFlashes).cells = s.cells ∧ (s.tickFlashes).epoch = s.epoch ∧ (s.tickFlashes).sensing = s.sensing ∧
    (s.tickFlashes).firstFault = s.firstFault ∧ (s.tickFlashes).watch = s.watch ∧ (s.tickFlashes).roster = s.roster ∧
    (s.tickFlashes).patterns = s.patterns ∧ (s.tickFlashes).quests = s.quests ∧ (s.tickFlashes).play = s.play ∧
    (s.tickFlashes).link = s.link ∧ (s.tickFlashes).pending = s.pending ∧ (∀ x, (s.tickFlashes).cell x = s.cell x) ∧
    (∀ x, (s.tickFlashes).quest x = s.quest x) := by
  unfold State.tickFlashes
  simp [State.cell, State.quest]

@[simp] theorem toggleBlink_frame :
    (s.toggleBlink).chip = s.chip ∧ (s.toggleBlink).rest = s.rest ∧ (s.toggleBlink).plan = s.plan ∧
    (s.toggleBlink).cells = s.cells ∧ (s.toggleBlink).epoch = s.epoch ∧ (s.toggleBlink).sensing = s.sensing ∧
    (s.toggleBlink).firstFault = s.firstFault ∧ (s.toggleBlink).watch = s.watch ∧ (s.toggleBlink).roster = s.roster ∧
    (s.toggleBlink).patterns = s.patterns ∧ (s.toggleBlink).quests = s.quests ∧ (s.toggleBlink).play = s.play ∧
    (s.toggleBlink).link = s.link ∧ (s.toggleBlink).pending = s.pending ∧ (∀ x, (s.toggleBlink).cell x = s.cell x) ∧
    (∀ x, (s.toggleBlink).quest x = s.quest x) := by
  unfold State.toggleBlink
  simp [State.cell, State.quest]

@[simp] theorem tickBlink_frame :
    (s.tickBlink).chip = s.chip ∧ (s.tickBlink).rest = s.rest ∧ (s.tickBlink).plan = s.plan ∧
    (s.tickBlink).cells = s.cells ∧ (s.tickBlink).epoch = s.epoch ∧ (s.tickBlink).sensing = s.sensing ∧
    (s.tickBlink).firstFault = s.firstFault ∧ (s.tickBlink).watch = s.watch ∧ (s.tickBlink).roster = s.roster ∧
    (s.tickBlink).patterns = s.patterns ∧ (s.tickBlink).quests = s.quests ∧ (s.tickBlink).play = s.play ∧
    (s.tickBlink).link = s.link ∧ (s.tickBlink).pending = s.pending ∧ (∀ x, (s.tickBlink).cell x = s.cell x) ∧
    (∀ x, (s.tickBlink).quest x = s.quest x) := by
  unfold State.tickBlink
  (repeat' split) <;> simp [State.cell, State.quest]

@[simp] theorem silence_frame :
    (s.silence).chip = s.chip ∧ (s.silence).rest = s.rest ∧ (s.silence).plan = s.plan ∧ (s.silence).cells = s.cells ∧
    (s.silence).epoch = s.epoch ∧ (s.silence).sensing = s.sensing ∧ (s.silence).firstFault = s.firstFault ∧
    (s.silence).watch = s.watch ∧ (s.silence).roster = s.roster ∧ (s.silence).patterns = s.patterns ∧
    (s.silence).quests = s.quests ∧ (s.silence).play = s.play ∧ (s.silence).link = s.link ∧
    (s.silence).pending = s.pending ∧ (∀ x, (s.silence).cell x = s.cell x) ∧
    (∀ x, (s.silence).quest x = s.quest x) := by
  unfold State.silence
  simp [State.cell, State.quest]

@[simp] theorem enqueueCue_frame (c : Fin 16) :
    (s.enqueueCue c).chip = s.chip ∧ (s.enqueueCue c).plan = s.plan ∧ (s.enqueueCue c).cells = s.cells ∧
    (s.enqueueCue c).epoch = s.epoch ∧ (s.enqueueCue c).sensing = s.sensing ∧
    (s.enqueueCue c).firstFault = s.firstFault ∧ (s.enqueueCue c).watch = s.watch ∧
    (s.enqueueCue c).roster = s.roster ∧ (s.enqueueCue c).patterns = s.patterns ∧
    (s.enqueueCue c).quests = s.quests ∧ (s.enqueueCue c).play = s.play ∧ (s.enqueueCue c).link = s.link ∧
    (s.enqueueCue c).pending = s.pending ∧ (∀ x, (s.enqueueCue c).cell x = s.cell x) ∧
    (∀ x, (s.enqueueCue c).quest x = s.quest x) := by
  unfold State.enqueueCue
  try dsimp only
  split <;> simp [State.cell, State.quest]

@[simp] theorem offerCue_frame (c : Fin 16) :
    (s.offerCue c).chip = s.chip ∧ (s.offerCue c).plan = s.plan ∧ (s.offerCue c).cells = s.cells ∧
    (s.offerCue c).epoch = s.epoch ∧ (s.offerCue c).sensing = s.sensing ∧ (s.offerCue c).firstFault = s.firstFault ∧
    (s.offerCue c).watch = s.watch ∧ (s.offerCue c).roster = s.roster ∧ (s.offerCue c).patterns = s.patterns ∧
    (s.offerCue c).quests = s.quests ∧ (s.offerCue c).play = s.play ∧ (s.offerCue c).link = s.link ∧
    (s.offerCue c).pending = s.pending ∧ (∀ x, (s.offerCue c).cell x = s.cell x) ∧
    (∀ x, (s.offerCue c).quest x = s.quest x) := by
  unfold State.offerCue
  (repeat' split) <;> simp [State.cell, State.quest]

@[simp] theorem nextCue_frame :
    (s.nextCue).chip = s.chip ∧ (s.nextCue).plan = s.plan ∧ (s.nextCue).cells = s.cells ∧
    (s.nextCue).epoch = s.epoch ∧ (s.nextCue).sensing = s.sensing ∧ (s.nextCue).firstFault = s.firstFault ∧
    (s.nextCue).watch = s.watch ∧ (s.nextCue).roster = s.roster ∧ (s.nextCue).patterns = s.patterns ∧
    (s.nextCue).quests = s.quests ∧ (s.nextCue).play = s.play ∧ (s.nextCue).link = s.link ∧
    (s.nextCue).pending = s.pending ∧ (∀ x, (s.nextCue).cell x = s.cell x) ∧
    (∀ x, (s.nextCue).quest x = s.quest x) := by
  unfold State.nextCue
  try dsimp only
  split <;> simp [State.cell, State.quest]

@[simp] theorem endTurn_frame (b : Bool) :
    (s.endTurn b).chip = s.chip ∧ (s.endTurn b).rest = s.rest ∧ (s.endTurn b).plan = s.plan ∧
    (s.endTurn b).lanes = s.lanes ∧ (s.endTurn b).cells = s.cells ∧ (s.endTurn b).epoch = s.epoch ∧
    (s.endTurn b).sensing = s.sensing ∧ (s.endTurn b).firstFault = s.firstFault ∧ (s.endTurn b).watch = s.watch ∧
    (s.endTurn b).roster = s.roster ∧ (s.endTurn b).patterns = s.patterns ∧ (s.endTurn b).quests = s.quests ∧
    (s.endTurn b).lamps = s.lamps ∧ (s.endTurn b).link = s.link ∧ (s.endTurn b).pending = s.pending ∧
    (∀ x, (s.endTurn b).cell x = s.cell x) ∧ (∀ x, (s.endTurn b).lane x = s.lane x) ∧
    (∀ x, (s.endTurn b).quest x = s.quest x) := by
  unfold State.endTurn
  simp [State.cell, State.lane, State.quest]

@[simp] theorem takeMove_frame :
    (s.takeMove).chip = s.chip ∧ (s.takeMove).rest = s.rest ∧ (s.takeMove).plan = s.plan ∧
    (s.takeMove).lanes = s.lanes ∧ (s.takeMove).cells = s.cells ∧ (s.takeMove).epoch = s.epoch ∧
    (s.takeMove).sensing = s.sensing ∧ (s.takeMove).firstFault = s.firstFault ∧ (s.takeMove).watch = s.watch ∧
    (s.takeMove).roster = s.roster ∧ (s.takeMove).patterns = s.patterns ∧ (s.takeMove).quests = s.quests ∧
    (s.takeMove).lamps = s.lamps ∧ (s.takeMove).link = s.link ∧ (s.takeMove).pending = s.pending ∧
    (∀ x, (s.takeMove).cell x = s.cell x) ∧ (∀ x, (s.takeMove).lane x = s.lane x) ∧
    (∀ x, (s.takeMove).quest x = s.quest x) := by
  unfold State.takeMove
  try dsimp only
  (repeat' split) <;> simp [State.cell, State.lane, State.quest]

@[simp] theorem setClockRunning_frame (a b : Bool) :
    (s.setClockRunning a b).chip = s.chip ∧ (s.setClockRunning a b).rest = s.rest ∧
    (s.setClockRunning a b).plan = s.plan ∧ (s.setClockRunning a b).lanes = s.lanes ∧
    (s.setClockRunning a b).cells = s.cells ∧ (s.setClockRunning a b).epoch = s.epoch ∧
    (s.setClockRunning a b).sensing = s.sensing ∧ (s.setClockRunning a b).firstFault = s.firstFault ∧
    (s.setClockRunning a b).watch = s.watch ∧ (s.setClockRunning a b).roster = s.roster ∧
    (s.setClockRunning a b).patterns = s.patterns ∧ (s.setClockRunning a b).quests = s.quests ∧
    (s.setClockRunning a b).lamps = s.lamps ∧ (s.setClockRunning a b).link = s.link ∧
    (s.setClockRunning a b).pending = s.pending ∧ (∀ x, (s.setClockRunning a b).cell x = s.cell x) ∧
    (∀ x, (s.setClockRunning a b).lane x = s.lane x) ∧ (∀ x, (s.setClockRunning a b).quest x = s.quest x) := by
  unfold State.setClockRunning
  simp [State.cell, State.lane, State.quest]

@[simp] theorem commit_frame (b : NoticeBody) :
    (s.commit b).chip = s.chip ∧ (s.commit b).plan = s.plan ∧ (s.commit b).lanes = s.lanes ∧
    (s.commit b).cells = s.cells ∧ (s.commit b).sensing = s.sensing ∧ (s.commit b).firstFault = s.firstFault ∧
    (s.commit b).watch = s.watch ∧ (s.commit b).roster = s.roster ∧ (s.commit b).patterns = s.patterns ∧
    (s.commit b).play = s.play ∧ (s.commit b).lamps = s.lamps ∧ (s.commit b).link = s.link ∧
    (s.commit b).pending = s.pending ∧ (∀ x, (s.commit b).cell x = s.cell x) ∧
    (∀ x, (s.commit b).lane x = s.lane x) := by
  unfold State.commit
  simp [State.cell, State.lane]

@[simp] theorem reportMove_frame (c : CellId) :
    (s.reportMove c).chip = s.chip ∧ (s.reportMove c).rest = s.rest ∧ (s.reportMove c).plan = s.plan ∧
    (s.reportMove c).lanes = s.lanes ∧ (s.reportMove c).cells = s.cells ∧ (s.reportMove c).epoch = s.epoch ∧
    (s.reportMove c).sensing = s.sensing ∧ (s.reportMove c).firstFault = s.firstFault ∧
    (s.reportMove c).watch = s.watch ∧ (s.reportMove c).roster = s.roster ∧ (s.reportMove c).patterns = s.patterns ∧
    (s.reportMove c).quests = s.quests ∧ (s.reportMove c).lamps = s.lamps ∧ (s.reportMove c).link = s.link ∧
    (s.reportMove c).pending = s.pending ∧ (∀ x, (s.reportMove c).cell x = s.cell x) ∧
    (∀ x, (s.reportMove c).lane x = s.lane x) ∧ (∀ x, (s.reportMove c).quest x = s.quest x) := by
  unfold State.reportMove
  (repeat' split) <;> simp [State.cell, State.lane, State.quest]

@[simp] theorem seat_frame (c : CellId) (t : TileRead) (p : Bool) :
    (s.seat c t p).chip = s.chip ∧ (s.seat c t p).plan = s.plan ∧ (s.seat c t p).lanes = s.lanes ∧
    (s.seat c t p).sensing = s.sensing ∧ (s.seat c t p).firstFault = s.firstFault ∧ (s.seat c t p).watch = s.watch ∧
    (s.seat c t p).roster = s.roster ∧ (s.seat c t p).patterns = s.patterns ∧ (s.seat c t p).lamps = s.lamps ∧
    (s.seat c t p).link = s.link ∧ (s.seat c t p).pending = s.pending ∧ (∀ x, (s.seat c t p).lane x = s.lane x) := by
  unfold State.seat
  simp [State.lane]

@[simp] theorem promote_frame (x' : Serial) :
    (s.promote x').chip = s.chip ∧ (s.promote x').plan = s.plan ∧ (s.promote x').lanes = s.lanes ∧
    (s.promote x').sensing = s.sensing ∧ (s.promote x').firstFault = s.firstFault ∧ (s.promote x').watch = s.watch ∧
    (s.promote x').roster = s.roster ∧ (s.promote x').patterns = s.patterns ∧ (s.promote x').lamps = s.lamps ∧
    (s.promote x').link = s.link ∧ (s.promote x').pending = s.pending ∧ (∀ x, (s.promote x').lane x = s.lane x) := by
  unfold State.promote
  (repeat' split) <;> simp [State.lane]

@[simp] theorem becomeTwin_frame (c : CellId) (t : Candidate) (h : CellId) :
    (s.becomeTwin c t h).chip = s.chip ∧ (s.becomeTwin c t h).plan = s.plan ∧ (s.becomeTwin c t h).lanes = s.lanes ∧
    (s.becomeTwin c t h).sensing = s.sensing ∧ (s.becomeTwin c t h).firstFault = s.firstFault ∧
    (s.becomeTwin c t h).watch = s.watch ∧ (s.becomeTwin c t h).roster = s.roster ∧
    (s.becomeTwin c t h).patterns = s.patterns ∧ (s.becomeTwin c t h).lamps = s.lamps ∧
    (s.becomeTwin c t h).link = s.link ∧ (s.becomeTwin c t h).pending = s.pending ∧
    (∀ x, (s.becomeTwin c t h).lane x = s.lane x) := by
  unfold State.becomeTwin
  simp [State.lane]

@[simp] theorem completeArrival_frame (c : CellId) (t : Candidate) :
    (s.completeArrival c t).chip = s.chip ∧ (s.completeArrival c t).plan = s.plan ∧
    (s.completeArrival c t).lanes = s.lanes ∧ (s.completeArrival c t).sensing = s.sensing ∧
    (s.completeArrival c t).firstFault = s.firstFault ∧ (s.completeArrival c t).watch = s.watch ∧
    (s.completeArrival c t).roster = s.roster ∧ (s.completeArrival c t).patterns = s.patterns ∧
    (s.completeArrival c t).lamps = s.lamps ∧ (s.completeArrival c t).link = s.link ∧
    (s.completeArrival c t).pending = s.pending ∧ (∀ x, (s.completeArrival c t).lane x = s.lane x) := by
  unfold State.completeArrival
  (repeat' split) <;> simp [State.lane]

@[simp] theorem completeShift_frame (c : CellId) (i : Incumbent) (t : Candidate) (a : Nat) :
    (s.completeShift c i t a).chip = s.chip ∧ (s.completeShift c i t a).plan = s.plan ∧
    (s.completeShift c i t a).lanes = s.lanes ∧ (s.completeShift c i t a).sensing = s.sensing ∧
    (s.completeShift c i t a).firstFault = s.firstFault ∧ (s.completeShift c i t a).watch = s.watch ∧
    (s.completeShift c i t a).roster = s.roster ∧ (s.completeShift c i t a).patterns = s.patterns ∧
    (s.completeShift c i t a).lamps = s.lamps ∧ (s.completeShift c i t a).link = s.link ∧
    (s.completeShift c i t a).pending = s.pending ∧ (∀ x, (s.completeShift c i t a).lane x = s.lane x) := by
  unfold State.completeShift
  try dsimp only
  (repeat' split) <;> simp [State.lane]

@[simp] theorem liftRead_frame (c : CellId) (x' : Serial) :
    (s.liftRead c x').chip = s.chip ∧ (s.liftRead c x').plan = s.plan ∧ (s.liftRead c x').lanes = s.lanes ∧
    (s.liftRead c x').sensing = s.sensing ∧ (s.liftRead c x').firstFault = s.firstFault ∧
    (s.liftRead c x').watch = s.watch ∧ (s.liftRead c x').roster = s.roster ∧
    (s.liftRead c x').patterns = s.patterns ∧ (s.liftRead c x').lamps = s.lamps ∧ (s.liftRead c x').link = s.link ∧
    (s.liftRead c x').pending = s.pending ∧ (∀ x, (s.liftRead c x').lane x = s.lane x) := by
  unfold State.liftRead
  simp [State.lane]

@[simp] theorem enterArriving_frame (c : CellId) (t : TileRead) :
    (s.enterArriving c t).chip = s.chip ∧ (s.enterArriving c t).plan = s.plan ∧
    (s.enterArriving c t).sensing = s.sensing ∧ (s.enterArriving c t).firstFault = s.firstFault ∧
    (s.enterArriving c t).watch = s.watch ∧ (s.enterArriving c t).roster = s.roster ∧
    (s.enterArriving c t).patterns = s.patterns ∧ (s.enterArriving c t).lamps = s.lamps ∧
    (s.enterArriving c t).link = s.link ∧ (s.enterArriving c t).pending = s.pending := by
  unfold State.enterArriving
  try dsimp only
  (repeat' split) <;> simp

@[simp] theorem enterShifting_frame (c : CellId) (i : Incumbent) (t : TileRead) (a : Nat) :
    (s.enterShifting c i t a).chip = s.chip ∧ (s.enterShifting c i t a).plan = s.plan ∧
    (s.enterShifting c i t a).sensing = s.sensing ∧ (s.enterShifting c i t a).firstFault = s.firstFault ∧
    (s.enterShifting c i t a).watch = s.watch ∧ (s.enterShifting c i t a).roster = s.roster ∧
    (s.enterShifting c i t a).patterns = s.patterns ∧ (s.enterShifting c i t a).lamps = s.lamps ∧
    (s.enterShifting c i t a).link = s.link ∧ (s.enterShifting c i t a).pending = s.pending := by
  unfold State.enterShifting
  try dsimp only
  (repeat' split) <;> simp

@[simp] theorem enterLifting_frame (c : CellId) (x' : Serial) :
    (s.enterLifting c x').chip = s.chip ∧ (s.enterLifting c x').plan = s.plan ∧
    (s.enterLifting c x').sensing = s.sensing ∧ (s.enterLifting c x').firstFault = s.firstFault ∧
    (s.enterLifting c x').watch = s.watch ∧ (s.enterLifting c x').roster = s.roster ∧
    (s.enterLifting c x').patterns = s.patterns ∧ (s.enterLifting c x').lamps = s.lamps ∧
    (s.enterLifting c x').link = s.link ∧ (s.enterLifting c x').pending = s.pending := by
  unfold State.enterLifting
  try dsimp only
  (repeat' split) <;> simp

@[simp] theorem retire_frame (c : CellId) (a : Bool) :
    (s.retire c a).chip = s.chip ∧ (s.retire c a).plan = s.plan ∧ (s.retire c a).sensing = s.sensing ∧
    (s.retire c a).firstFault = s.firstFault ∧ (s.retire c a).watch = s.watch ∧ (s.retire c a).roster = s.roster ∧
    (s.retire c a).patterns = s.patterns ∧ (s.retire c a).link = s.link ∧ (s.retire c a).pending = s.pending := by
  unfold State.retire
  try dsimp only
  (repeat' split) <;> simp

@[simp] theorem enterSuspect_frame (c : CellId) (o : OutcomeKind) :
    (s.enterSuspect c o).chip = s.chip ∧ (s.enterSuspect c o).plan = s.plan ∧
    (s.enterSuspect c o).sensing = s.sensing ∧ (s.enterSuspect c o).watch = s.watch ∧
    (s.enterSuspect c o).roster = s.roster ∧ (s.enterSuspect c o).patterns = s.patterns ∧
    (s.enterSuspect c o).link = s.link ∧ (s.enterSuspect c o).pending = s.pending := by
  unfold State.enterSuspect
  try dsimp only
  (repeat' split) <;> simp

@[simp] theorem scoreFault_frame (c : CellId) (k : SlotKind) (o : OutcomeKind) :
    (s.scoreFault c k o).chip = s.chip ∧ (s.scoreFault c k o).plan = s.plan ∧
    (s.scoreFault c k o).sensing = s.sensing ∧ (s.scoreFault c k o).watch = s.watch ∧
    (s.scoreFault c k o).roster = s.roster ∧ (s.scoreFault c k o).patterns = s.patterns ∧
    (s.scoreFault c k o).link = s.link ∧ (s.scoreFault c k o).pending = s.pending := by
  unfold State.scoreFault
  try dsimp only
  (repeat' split) <;> simp

@[simp] theorem matchIncumbent_frame (c : CellId) (k : SlotKind) :
    (s.matchIncumbent c k).chip = s.chip ∧ (s.matchIncumbent c k).rest = s.rest ∧
    (s.matchIncumbent c k).plan = s.plan ∧ (s.matchIncumbent c k).lanes = s.lanes ∧
    (s.matchIncumbent c k).epoch = s.epoch ∧ (s.matchIncumbent c k).sensing = s.sensing ∧
    (s.matchIncumbent c k).firstFault = s.firstFault ∧ (s.matchIncumbent c k).watch = s.watch ∧
    (s.matchIncumbent c k).roster = s.roster ∧ (s.matchIncumbent c k).patterns = s.patterns ∧
    (s.matchIncumbent c k).quests = s.quests ∧ (s.matchIncumbent c k).play = s.play ∧
    (s.matchIncumbent c k).lamps = s.lamps ∧ (s.matchIncumbent c k).notices = s.notices ∧
    (s.matchIncumbent c k).link = s.link ∧ (s.matchIncumbent c k).pending = s.pending ∧
    (∀ x, (s.matchIncumbent c k).lane x = s.lane x) ∧ (∀ x, (s.matchIncumbent c k).quest x = s.quest x) := by
  unfold State.matchIncumbent
  simp [State.lane, State.quest]

@[simp] theorem recover_frame (c : CellId) :
    (s.recover c).chip = s.chip ∧ (s.recover c).rest = s.rest ∧ (s.recover c).plan = s.plan ∧
    (s.recover c).lanes = s.lanes ∧ (s.recover c).epoch = s.epoch ∧ (s.recover c).sensing = s.sensing ∧
    (s.recover c).firstFault = s.firstFault ∧ (s.recover c).watch = s.watch ∧ (s.recover c).roster = s.roster ∧
    (s.recover c).patterns = s.patterns ∧ (s.recover c).quests = s.quests ∧ (s.recover c).play = s.play ∧
    (s.recover c).lamps = s.lamps ∧ (s.recover c).link = s.link ∧ (s.recover c).pending = s.pending ∧
    (∀ x, (s.recover c).lane x = s.lane x) ∧ (∀ x, (s.recover c).quest x = s.quest x) := by
  unfold State.recover
  try dsimp only
  (repeat' split) <;> simp [State.lane, State.quest]

@[simp] theorem stepVacant_frame (c : CellId) (o : Outcome) :
    (s.stepVacant c o).chip = s.chip ∧ (s.stepVacant c o).plan = s.plan ∧ (s.stepVacant c o).sensing = s.sensing ∧
    (s.stepVacant c o).watch = s.watch ∧ (s.stepVacant c o).roster = s.roster ∧
    (s.stepVacant c o).patterns = s.patterns ∧ (s.stepVacant c o).link = s.link ∧
    (s.stepVacant c o).pending = s.pending := by
  unfold State.stepVacant
  try dsimp only
  (repeat' split) <;> simp

@[simp] theorem stepArriving_frame (c : CellId) (d : Candidate) (k : SlotKind) (o : Outcome) :
    (s.stepArriving c d k o).chip = s.chip ∧ (s.stepArriving c d k o).plan = s.plan ∧
    (s.stepArriving c d k o).sensing = s.sensing ∧ (s.stepArriving c d k o).watch = s.watch ∧
    (s.stepArriving c d k o).roster = s.roster ∧ (s.stepArriving c d k o).patterns = s.patterns ∧
    (s.stepArriving c d k o).link = s.link ∧ (s.stepArriving c d k o).pending = s.pending := by
  unfold State.stepArriving
  try dsimp only
  (repeat' split) <;> simp

@[simp] theorem stepSeated_frame (c : CellId) (i : Incumbent) (k : SlotKind) (o : Outcome) (a : Nat) :
    (s.stepSeated c i k o a).chip = s.chip ∧ (s.stepSeated c i k o a).plan = s.plan ∧
    (s.stepSeated c i k o a).sensing = s.sensing ∧ (s.stepSeated c i k o a).watch = s.watch ∧
    (s.stepSeated c i k o a).roster = s.roster ∧ (s.stepSeated c i k o a).patterns = s.patterns ∧
    (s.stepSeated c i k o a).link = s.link ∧ (s.stepSeated c i k o a).pending = s.pending := by
  unfold State.stepSeated
  try dsimp only
  (repeat' split) <;> simp

@[simp] theorem stepShifting_frame (c : CellId) (i : Incumbent) (d : Candidate) (k : SlotKind) (o : Outcome) (a : Nat) :
    (s.stepShifting c i d k o a).chip = s.chip ∧ (s.stepShifting c i d k o a).plan = s.plan ∧
    (s.stepShifting c i d k o a).sensing = s.sensing ∧ (s.stepShifting c i d k o a).watch = s.watch ∧
    (s.stepShifting c i d k o a).roster = s.roster ∧ (s.stepShifting c i d k o a).patterns = s.patterns ∧
    (s.stepShifting c i d k o a).link = s.link ∧ (s.stepShifting c i d k o a).pending = s.pending := by
  unfold State.stepShifting
  try dsimp only
  (repeat' split) <;> simp

@[simp] theorem stepLifting_frame (c : CellId) (i : Incumbent) (k : SlotKind) (o : Outcome) (a : Nat) :
    (s.stepLifting c i k o a).chip = s.chip ∧ (s.stepLifting c i k o a).plan = s.plan ∧
    (s.stepLifting c i k o a).sensing = s.sensing ∧ (s.stepLifting c i k o a).watch = s.watch ∧
    (s.stepLifting c i k o a).roster = s.roster ∧ (s.stepLifting c i k o a).patterns = s.patterns ∧
    (s.stepLifting c i k o a).link = s.link ∧ (s.stepLifting c i k o a).pending = s.pending := by
  unfold State.stepLifting
  try dsimp only
  (repeat' split) <;> simp

@[simp] theorem stepTwin_frame (c : CellId) (d : Candidate) (k : SlotKind) (o : Outcome) :
    (s.stepTwin c d k o).chip = s.chip ∧ (s.stepTwin c d k o).plan = s.plan ∧
    (s.stepTwin c d k o).sensing = s.sensing ∧ (s.stepTwin c d k o).watch = s.watch ∧
    (s.stepTwin c d k o).roster = s.roster ∧ (s.stepTwin c d k o).patterns = s.patterns ∧
    (s.stepTwin c d k o).link = s.link ∧ (s.stepTwin c d k o).pending = s.pending := by
  unfold State.stepTwin
  try dsimp only
  (repeat' split) <;> simp

@[simp] theorem stepSuspect_frame (c : CellId) (k : SlotKind) (o : Outcome) :
    (s.stepSuspect c k o).chip = s.chip ∧ (s.stepSuspect c k o).plan = s.plan ∧
    (s.stepSuspect c k o).sensing = s.sensing ∧ (s.stepSuspect c k o).watch = s.watch ∧
    (s.stepSuspect c k o).roster = s.roster ∧ (s.stepSuspect c k o).patterns = s.patterns ∧
    (s.stepSuspect c k o).link = s.link ∧ (s.stepSuspect c k o).pending = s.pending := by
  unfold State.stepSuspect
  try dsimp only
  (repeat' split) <;> simp

@[simp] theorem stepCell_frame (c : CellId) (k : SlotKind) (o : Outcome) (a : Nat) :
    (s.stepCell c k o a).chip = s.chip ∧ (s.stepCell c k o a).plan = s.plan ∧
    (s.stepCell c k o a).sensing = s.sensing ∧ (s.stepCell c k o a).watch = s.watch ∧
    (s.stepCell c k o a).roster = s.roster ∧ (s.stepCell c k o a).patterns = s.patterns ∧
    (s.stepCell c k o a).link = s.link ∧ (s.stepCell c k o a).pending = s.pending := by
  unfold State.stepCell
  try dsimp only
  (repeat' split) <;> simp

@[simp] theorem traceOutcome_frame (c : CellId) (k : SlotKind) (r : RawResult) :
    (s.traceOutcome c k r).chip = s.chip ∧ (s.traceOutcome c k r).rest = s.rest ∧
    (s.traceOutcome c k r).plan = s.plan ∧ (s.traceOutcome c k r).lanes = s.lanes ∧
    (s.traceOutcome c k r).cells = s.cells ∧ (s.traceOutcome c k r).epoch = s.epoch ∧
    (s.traceOutcome c k r).sensing = s.sensing ∧ (s.traceOutcome c k r).firstFault = s.firstFault ∧
    (s.traceOutcome c k r).roster = s.roster ∧ (s.traceOutcome c k r).patterns = s.patterns ∧
    (s.traceOutcome c k r).quests = s.quests ∧ (s.traceOutcome c k r).play = s.play ∧
    (s.traceOutcome c k r).lamps = s.lamps ∧ (s.traceOutcome c k r).notices = s.notices ∧
    (s.traceOutcome c k r).link = s.link ∧ (s.traceOutcome c k r).pending = s.pending ∧
    (∀ x, (s.traceOutcome c k r).cell x = s.cell x) ∧ (∀ x, (s.traceOutcome c k r).lane x = s.lane x) ∧
    (∀ x, (s.traceOutcome c k r).quest x = s.quest x) := by
  unfold State.traceOutcome
  (repeat' split) <;> simp [State.cell, State.lane, State.quest]

@[simp] theorem updatePeak_frame (c : CellId) (o : Outcome) (a : Nat) :
    (s.updatePeak c o a).chip = s.chip ∧ (s.updatePeak c o a).rest = s.rest ∧ (s.updatePeak c o a).plan = s.plan ∧
    (s.updatePeak c o a).lanes = s.lanes ∧ (s.updatePeak c o a).epoch = s.epoch ∧
    (s.updatePeak c o a).sensing = s.sensing ∧ (s.updatePeak c o a).firstFault = s.firstFault ∧
    (s.updatePeak c o a).watch = s.watch ∧ (s.updatePeak c o a).roster = s.roster ∧
    (s.updatePeak c o a).patterns = s.patterns ∧ (s.updatePeak c o a).quests = s.quests ∧
    (s.updatePeak c o a).play = s.play ∧ (s.updatePeak c o a).lamps = s.lamps ∧
    (s.updatePeak c o a).notices = s.notices ∧ (s.updatePeak c o a).link = s.link ∧
    (s.updatePeak c o a).pending = s.pending ∧ (∀ x, (s.updatePeak c o a).lane x = s.lane x) ∧
    (∀ x, (s.updatePeak c o a).quest x = s.quest x) := by
  unfold State.updatePeak
  split <;> simp [State.lane, State.quest]

@[simp] theorem takeOutcome_frame (c : CellId) (k : SlotKind) (r : RawResult) :
    (s.takeOutcome c k r).chip = s.chip ∧ (s.takeOutcome c k r).plan = s.plan ∧
    (s.takeOutcome c k r).sensing = s.sensing ∧ (s.takeOutcome c k r).roster = s.roster ∧
    (s.takeOutcome c k r).patterns = s.patterns ∧ (s.takeOutcome c k r).link = s.link ∧
    (s.takeOutcome c k r).pending = s.pending := by
  unfold State.takeOutcome
  try dsimp only
  (repeat' split) <;> simp

@[simp] theorem loseCells_frame (n : Lane) :
    (s.loseCells n).chip = s.chip ∧ (s.loseCells n).rest = s.rest ∧ (s.loseCells n).plan = s.plan ∧
    (s.loseCells n).lanes = s.lanes ∧ (s.loseCells n).epoch = s.epoch ∧ (s.loseCells n).sensing = s.sensing ∧
    (s.loseCells n).firstFault = s.firstFault ∧ (s.loseCells n).watch = s.watch ∧ (s.loseCells n).roster = s.roster ∧
    (s.loseCells n).patterns = s.patterns ∧ (s.loseCells n).quests = s.quests ∧ (s.loseCells n).play = s.play ∧
    (s.loseCells n).lamps = s.lamps ∧ (s.loseCells n).notices = s.notices ∧ (s.loseCells n).link = s.link ∧
    (s.loseCells n).pending = s.pending ∧ (∀ x, (s.loseCells n).lane x = s.lane x) ∧
    (∀ x, (s.loseCells n).quest x = s.quest x) := by
  unfold State.loseCells
  simp [State.lane, State.quest]

@[simp] theorem resumeCells_frame (n : Lane) :
    (s.resumeCells n).chip = s.chip ∧ (s.resumeCells n).rest = s.rest ∧ (s.resumeCells n).plan = s.plan ∧
    (s.resumeCells n).lanes = s.lanes ∧ (s.resumeCells n).epoch = s.epoch ∧ (s.resumeCells n).sensing = s.sensing ∧
    (s.resumeCells n).firstFault = s.firstFault ∧ (s.resumeCells n).watch = s.watch ∧
    (s.resumeCells n).roster = s.roster ∧ (s.resumeCells n).patterns = s.patterns ∧
    (s.resumeCells n).quests = s.quests ∧ (s.resumeCells n).play = s.play ∧ (s.resumeCells n).lamps = s.lamps ∧
    (s.resumeCells n).notices = s.notices ∧ (s.resumeCells n).link = s.link ∧ (s.resumeCells n).pending = s.pending ∧
    (∀ x, (s.resumeCells n).lane x = s.lane x) ∧ (∀ x, (s.resumeCells n).quest x = s.quest x) := by
  unfold State.resumeCells
  simp [State.lane, State.quest]

@[simp] theorem promotes_frame (l : List Serial) :
    (l.foldl State.promote s).chip = s.chip ∧ (l.foldl State.promote s).plan = s.plan ∧
    (l.foldl State.promote s).lanes = s.lanes ∧ (l.foldl State.promote s).sensing = s.sensing ∧
    (l.foldl State.promote s).firstFault = s.firstFault ∧ (l.foldl State.promote s).watch = s.watch ∧
    (l.foldl State.promote s).roster = s.roster ∧ (l.foldl State.promote s).patterns = s.patterns ∧
    (l.foldl State.promote s).lamps = s.lamps ∧ (l.foldl State.promote s).link = s.link ∧
    (l.foldl State.promote s).pending = s.pending ∧ (∀ x, (l.foldl State.promote s).lane x = s.lane x) := by
  induction l generalizing s with
  | nil => simp
  | cons a l ih => simpa using ih (s.promote a)

@[simp] theorem clearCells_frame (n : Lane) :
    (s.clearCells n).chip = s.chip ∧ (s.clearCells n).plan = s.plan ∧ (s.clearCells n).lanes = s.lanes ∧
    (s.clearCells n).sensing = s.sensing ∧ (s.clearCells n).firstFault = s.firstFault ∧
    (s.clearCells n).watch = s.watch ∧ (s.clearCells n).roster = s.roster ∧ (s.clearCells n).patterns = s.patterns ∧
    (s.clearCells n).lamps = s.lamps ∧ (s.clearCells n).link = s.link ∧ (s.clearCells n).pending = s.pending ∧
    (∀ x, (s.clearCells n).lane x = s.lane x) := by
  unfold State.clearCells
  try dsimp only
  simp only [promotes_frame]
  simp [State.lane]

@[simp] theorem rejudge_frame (x' : Option Serial) :
    (s.rejudge x').chip = s.chip ∧ (s.rejudge x').rest = s.rest ∧ (s.rejudge x').plan = s.plan ∧
    (s.rejudge x').lanes = s.lanes ∧ (s.rejudge x').epoch = s.epoch ∧ (s.rejudge x').sensing = s.sensing ∧
    (s.rejudge x').firstFault = s.firstFault ∧ (s.rejudge x').watch = s.watch ∧ (s.rejudge x').roster = s.roster ∧
    (s.rejudge x').patterns = s.patterns ∧ (s.rejudge x').play = s.play ∧ (s.rejudge x').lamps = s.lamps ∧
    (s.rejudge x').notices = s.notices ∧ (s.rejudge x').link = s.link ∧ (s.rejudge x').pending = s.pending ∧
    (∀ x, (s.rejudge x').lane x = s.lane x) := by
  unfold State.rejudge
  try dsimp only
  split <;> simp [State.lane]

@[simp] theorem failQuest_frame (q : QuestId) (w : FailReason) :
    (s.failQuest q w).chip = s.chip ∧ (s.failQuest q w).plan = s.plan ∧ (s.failQuest q w).cells = s.cells ∧
    (s.failQuest q w).epoch = s.epoch ∧ (s.failQuest q w).sensing = s.sensing ∧
    (s.failQuest q w).firstFault = s.firstFault ∧ (s.failQuest q w).watch = s.watch ∧
    (s.failQuest q w).roster = s.roster ∧ (s.failQuest q w).patterns = s.patterns ∧ (s.failQuest q w).play = s.play ∧
    (s.failQuest q w).link = s.link ∧ (s.failQuest q w).pending = s.pending ∧
    (∀ x, (s.failQuest q w).cell x = s.cell x) := by
  unfold State.failQuest
  simp [State.cell]

@[simp] theorem advance_frame (q : QuestId) (t : Stage) (b : Bool) (e : BitVec 16) :
    (s.advance q t b e).chip = s.chip ∧ (s.advance q t b e).plan = s.plan ∧ (s.advance q t b e).cells = s.cells ∧
    (s.advance q t b e).epoch = s.epoch ∧ (s.advance q t b e).sensing = s.sensing ∧
    (s.advance q t b e).firstFault = s.firstFault ∧ (s.advance q t b e).watch = s.watch ∧
    (s.advance q t b e).roster = s.roster ∧ (s.advance q t b e).patterns = s.patterns ∧
    (s.advance q t b e).link = s.link ∧ (s.advance q t b e).pending = s.pending ∧
    (∀ x, (s.advance q t b e).cell x = s.cell x) := by
  unfold State.advance
  try dsimp only
  (repeat' split) <;> simp [State.cell]

@[simp] theorem dutiesOf_frame (q : QuestId) :
    (s.dutiesOf q).chip = s.chip ∧ (s.dutiesOf q).plan = s.plan ∧ (s.dutiesOf q).cells = s.cells ∧
    (s.dutiesOf q).epoch = s.epoch ∧ (s.dutiesOf q).sensing = s.sensing ∧ (s.dutiesOf q).firstFault = s.firstFault ∧
    (s.dutiesOf q).watch = s.watch ∧ (s.dutiesOf q).roster = s.roster ∧ (s.dutiesOf q).patterns = s.patterns ∧
    (s.dutiesOf q).link = s.link ∧ (s.dutiesOf q).pending = s.pending ∧ (∀ x, (s.dutiesOf q).cell x = s.cell x) := by
  unfold State.dutiesOf
  (repeat' split) <;> simp [State.cell]

@[simp] theorem duties_frame (l : List QuestId) :
    (l.foldl State.dutiesOf s).chip = s.chip ∧ (l.foldl State.dutiesOf s).plan = s.plan ∧
    (l.foldl State.dutiesOf s).cells = s.cells ∧ (l.foldl State.dutiesOf s).epoch = s.epoch ∧
    (l.foldl State.dutiesOf s).sensing = s.sensing ∧ (l.foldl State.dutiesOf s).firstFault = s.firstFault ∧
    (l.foldl State.dutiesOf s).watch = s.watch ∧ (l.foldl State.dutiesOf s).roster = s.roster ∧
    (l.foldl State.dutiesOf s).patterns = s.patterns ∧ (l.foldl State.dutiesOf s).link = s.link ∧
    (l.foldl State.dutiesOf s).pending = s.pending ∧ (∀ x, (l.foldl State.dutiesOf s).cell x = s.cell x) := by
  induction l generalizing s with
  | nil => simp
  | cons a l ih => simpa using ih (s.dutiesOf a)

@[simp] theorem tickDuties_frame :
    (s.tickDuties).chip = s.chip ∧ (s.tickDuties).plan = s.plan ∧ (s.tickDuties).cells = s.cells ∧
    (s.tickDuties).epoch = s.epoch ∧ (s.tickDuties).sensing = s.sensing ∧ (s.tickDuties).firstFault = s.firstFault ∧
    (s.tickDuties).watch = s.watch ∧ (s.tickDuties).roster = s.roster ∧ (s.tickDuties).patterns = s.patterns ∧
    (s.tickDuties).link = s.link ∧ (s.tickDuties).pending = s.pending ∧ (∀ x, (s.tickDuties).cell x = s.cell x) := by
  unfold State.tickDuties
  simp only [duties_frame]
  simp

@[simp] theorem tickClock_frame :
    (s.tickClock).chip = s.chip ∧ (s.tickClock).plan = s.plan ∧ (s.tickClock).cells = s.cells ∧
    (s.tickClock).epoch = s.epoch ∧ (s.tickClock).sensing = s.sensing ∧ (s.tickClock).firstFault = s.firstFault ∧
    (s.tickClock).watch = s.watch ∧ (s.tickClock).roster = s.roster ∧ (s.tickClock).patterns = s.patterns ∧
    (s.tickClock).link = s.link ∧ (s.tickClock).pending = s.pending ∧ (∀ x, (s.tickClock).cell x = s.cell x) := by
  unfold State.tickClock
  (repeat' split) <;> simp [State.cell]

@[simp] theorem applyResult_frame (p : Pass) (e : QuestId × Nat) :
    (State.applyResult p s e).chip = s.chip ∧ (State.applyResult p s e).plan = s.plan ∧
    (State.applyResult p s e).cells = s.cells ∧ (State.applyResult p s e).epoch = s.epoch ∧
    (State.applyResult p s e).sensing = s.sensing ∧ (State.applyResult p s e).firstFault = s.firstFault ∧
    (State.applyResult p s e).watch = s.watch ∧ (State.applyResult p s e).roster = s.roster ∧
    (State.applyResult p s e).patterns = s.patterns ∧ (State.applyResult p s e).link = s.link ∧
    (State.applyResult p s e).pending = s.pending ∧ (∀ x, (State.applyResult p s e).cell x = s.cell x) := by
  unfold State.applyResult
  try dsimp only
  (repeat' split) <;> simp [State.cell]

@[simp] theorem results_frame (p : Pass) (l : List (QuestId × Nat)) :
    (l.foldl (State.applyResult p) s).chip = s.chip ∧ (l.foldl (State.applyResult p) s).plan = s.plan ∧
    (l.foldl (State.applyResult p) s).cells = s.cells ∧ (l.foldl (State.applyResult p) s).epoch = s.epoch ∧
    (l.foldl (State.applyResult p) s).sensing = s.sensing ∧
    (l.foldl (State.applyResult p) s).firstFault = s.firstFault ∧ (l.foldl (State.applyResult p) s).watch = s.watch ∧
    (l.foldl (State.applyResult p) s).roster = s.roster ∧ (l.foldl (State.applyResult p) s).patterns = s.patterns ∧
    (l.foldl (State.applyResult p) s).link = s.link ∧ (l.foldl (State.applyResult p) s).pending = s.pending ∧
    (∀ x, (l.foldl (State.applyResult p) s).cell x = s.cell x) := by
  induction l generalizing s with
  | nil => simp
  | cons a l ih => simpa using ih (State.applyResult p s a)

@[simp] theorem commitPass_frame :
    (s.commitPass).chip = s.chip ∧ (s.commitPass).plan = s.plan ∧ (s.commitPass).cells = s.cells ∧
    (s.commitPass).epoch = s.epoch ∧ (s.commitPass).sensing = s.sensing ∧ (s.commitPass).firstFault = s.firstFault ∧
    (s.commitPass).watch = s.watch ∧ (s.commitPass).roster = s.roster ∧ (s.commitPass).patterns = s.patterns ∧
    (s.commitPass).link = s.link ∧ (s.commitPass).pending = s.pending ∧ (∀ x, (s.commitPass).cell x = s.cell x) := by
  unfold State.commitPass
  split
  · simp
  · simp only [results_frame]
    simp [State.cell]

@[simp] theorem grantLower_frame (n : Lane) :
    (s.grantLower n).chip = s.chip ∧ (s.grantLower n).rest = s.rest ∧ (s.grantLower n).plan = s.plan ∧
    (s.grantLower n).cells = s.cells ∧ (s.grantLower n).epoch = s.epoch ∧ (s.grantLower n).sensing = s.sensing ∧
    (s.grantLower n).firstFault = s.firstFault ∧ (s.grantLower n).watch = s.watch ∧
    (s.grantLower n).roster = s.roster ∧ (s.grantLower n).patterns = s.patterns ∧
    (s.grantLower n).quests = s.quests ∧ (s.grantLower n).play = s.play ∧ (s.grantLower n).lamps = s.lamps ∧
    (s.grantLower n).notices = s.notices ∧ (s.grantLower n).link = s.link ∧ (s.grantLower n).pending = s.pending ∧
    (∀ x, (s.grantLower n).cell x = s.cell x) ∧ (∀ x, (s.grantLower n).quest x = s.quest x) := by
  unfold State.grantLower
  try dsimp only
  (repeat' split) <;> simp [State.cell, State.quest]

@[simp] theorem grantConfirm_frame (n : Lane) :
    (s.grantConfirm n).chip = s.chip ∧ (s.grantConfirm n).rest = s.rest ∧ (s.grantConfirm n).plan = s.plan ∧
    (s.grantConfirm n).cells = s.cells ∧ (s.grantConfirm n).epoch = s.epoch ∧
    (s.grantConfirm n).sensing = s.sensing ∧ (s.grantConfirm n).firstFault = s.firstFault ∧
    (s.grantConfirm n).watch = s.watch ∧ (s.grantConfirm n).roster = s.roster ∧
    (s.grantConfirm n).patterns = s.patterns ∧ (s.grantConfirm n).quests = s.quests ∧
    (s.grantConfirm n).play = s.play ∧ (s.grantConfirm n).lamps = s.lamps ∧ (s.grantConfirm n).notices = s.notices ∧
    (s.grantConfirm n).link = s.link ∧ (s.grantConfirm n).pending = s.pending ∧
    (∀ x, (s.grantConfirm n).cell x = s.cell x) ∧ (∀ x, (s.grantConfirm n).quest x = s.quest x) := by
  unfold State.grantConfirm
  try dsimp only
  (repeat' split) <;> simp [State.cell, State.quest]

@[simp] theorem grant_frame (n : Lane) :
    (s.grant n).chip = s.chip ∧ (s.grant n).rest = s.rest ∧ (s.grant n).plan = s.plan ∧ (s.grant n).cells = s.cells ∧
    (s.grant n).epoch = s.epoch ∧ (s.grant n).sensing = s.sensing ∧ (s.grant n).firstFault = s.firstFault ∧
    (s.grant n).watch = s.watch ∧ (s.grant n).roster = s.roster ∧ (s.grant n).patterns = s.patterns ∧
    (s.grant n).quests = s.quests ∧ (s.grant n).play = s.play ∧ (s.grant n).lamps = s.lamps ∧
    (s.grant n).notices = s.notices ∧ (s.grant n).link = s.link ∧ (s.grant n).pending = s.pending ∧
    (∀ x, (s.grant n).cell x = s.cell x) ∧ (∀ x, (s.grant n).quest x = s.quest x) := by
  unfold State.grant
  try dsimp only
  (repeat' split) <;> simp [State.cell, State.quest]

@[simp] theorem grants_frame (l : List Lane) :
    (l.foldl State.grant s).chip = s.chip ∧ (l.foldl State.grant s).rest = s.rest ∧
    (l.foldl State.grant s).plan = s.plan ∧ (l.foldl State.grant s).cells = s.cells ∧
    (l.foldl State.grant s).epoch = s.epoch ∧ (l.foldl State.grant s).sensing = s.sensing ∧
    (l.foldl State.grant s).firstFault = s.firstFault ∧ (l.foldl State.grant s).watch = s.watch ∧
    (l.foldl State.grant s).roster = s.roster ∧ (l.foldl State.grant s).patterns = s.patterns ∧
    (l.foldl State.grant s).quests = s.quests ∧ (l.foldl State.grant s).play = s.play ∧
    (l.foldl State.grant s).lamps = s.lamps ∧ (l.foldl State.grant s).notices = s.notices ∧
    (l.foldl State.grant s).link = s.link ∧ (l.foldl State.grant s).pending = s.pending ∧
    (∀ x, (l.foldl State.grant s).cell x = s.cell x) ∧ (∀ x, (l.foldl State.grant s).quest x = s.quest x) := by
  induction l generalizing s with
  | nil => simp
  | cons a l ih => simpa using ih (s.grant a)

@[simp] theorem grantAll_frame :
    (s.grantAll).chip = s.chip ∧ (s.grantAll).rest = s.rest ∧ (s.grantAll).plan = s.plan ∧
    (s.grantAll).cells = s.cells ∧ (s.grantAll).epoch = s.epoch ∧ (s.grantAll).sensing = s.sensing ∧
    (s.grantAll).firstFault = s.firstFault ∧ (s.grantAll).watch = s.watch ∧ (s.grantAll).roster = s.roster ∧
    (s.grantAll).patterns = s.patterns ∧ (s.grantAll).quests = s.quests ∧ (s.grantAll).play = s.play ∧
    (s.grantAll).lamps = s.lamps ∧ (s.grantAll).notices = s.notices ∧ (s.grantAll).link = s.link ∧
    (s.grantAll).pending = s.pending ∧ (∀ x, (s.grantAll).cell x = s.cell x) ∧
    (∀ x, (s.grantAll).quest x = s.quest x) := by
  unfold State.grantAll
  simp only [grants_frame]
  simp

@[simp] theorem startPass_frame :
    (s.startPass).chip = s.chip ∧ (s.startPass).rest = s.rest ∧ (s.startPass).plan = s.plan ∧
    (s.startPass).lanes = s.lanes ∧ (s.startPass).cells = s.cells ∧ (s.startPass).epoch = s.epoch ∧
    (s.startPass).sensing = s.sensing ∧ (s.startPass).firstFault = s.firstFault ∧ (s.startPass).watch = s.watch ∧
    (s.startPass).roster = s.roster ∧ (s.startPass).patterns = s.patterns ∧ (s.startPass).play = s.play ∧
    (s.startPass).lamps = s.lamps ∧ (s.startPass).notices = s.notices ∧ (s.startPass).link = s.link ∧
    (s.startPass).pending = s.pending ∧ (∀ x, (s.startPass).cell x = s.cell x) ∧
    (∀ x, (s.startPass).lane x = s.lane x) := by
  unfold State.startPass
  (repeat' split) <;> simp [State.cell, State.lane]

@[simp] theorem finish_frame :
    (s.finish).chip = s.chip ∧ (s.finish).rest = s.rest ∧ (s.finish).plan = s.plan ∧ (s.finish).cells = s.cells ∧
    (s.finish).epoch = s.epoch ∧ (s.finish).sensing = s.sensing ∧ (s.finish).firstFault = s.firstFault ∧
    (s.finish).watch = s.watch ∧ (s.finish).roster = s.roster ∧ (s.finish).patterns = s.patterns ∧
    (s.finish).play = s.play ∧ (s.finish).lamps = s.lamps ∧ (s.finish).notices = s.notices ∧
    (s.finish).link = s.link ∧ (s.finish).pending = s.pending ∧ (∀ x, (s.finish).cell x = s.cell x) := by
  unfold State.finish
  simp [State.cell]

@[simp] theorem goDark_frame :
    (s.goDark).chip = s.chip ∧ (s.goDark).plan = s.plan ∧ (s.goDark).cells = s.cells ∧ (s.goDark).epoch = s.epoch ∧
    (s.goDark).sensing = s.sensing ∧ (s.goDark).firstFault = s.firstFault ∧ (s.goDark).watch = s.watch ∧
    (s.goDark).roster = s.roster ∧ (s.goDark).patterns = s.patterns ∧ (s.goDark).quests = s.quests ∧
    (s.goDark).play = s.play ∧ (s.goDark).link = s.link ∧ (s.goDark).pending = s.pending ∧
    (∀ x, (s.goDark).cell x = s.cell x) ∧ (∀ x, (s.goDark).quest x = s.quest x) := by
  unfold State.goDark
  simp [State.cell, State.quest]

@[simp] theorem allSweep_frame :
    (s.allSweep).chip = s.chip ∧ (s.allSweep).rest = s.rest ∧ (s.allSweep).plan = s.plan ∧
    (s.allSweep).cells = s.cells ∧ (s.allSweep).epoch = s.epoch ∧ (s.allSweep).sensing = s.sensing ∧
    (s.allSweep).firstFault = s.firstFault ∧ (s.allSweep).watch = s.watch ∧ (s.allSweep).roster = s.roster ∧
    (s.allSweep).patterns = s.patterns ∧ (s.allSweep).quests = s.quests ∧ (s.allSweep).play = s.play ∧
    (s.allSweep).lamps = s.lamps ∧ (s.allSweep).notices = s.notices ∧ (s.allSweep).link = s.link ∧
    (s.allSweep).pending = s.pending ∧ (∀ x, (s.allSweep).cell x = s.cell x) ∧
    (∀ x, (s.allSweep).quest x = s.quest x) := by
  unfold State.allSweep
  simp [State.cell, State.quest]

@[simp] theorem pauseForRest_frame :
    (s.pauseForRest).chip = s.chip ∧ (s.pauseForRest).plan = s.plan ∧ (s.pauseForRest).lanes = s.lanes ∧
    (s.pauseForRest).cells = s.cells ∧ (s.pauseForRest).epoch = s.epoch ∧ (s.pauseForRest).sensing = s.sensing ∧
    (s.pauseForRest).firstFault = s.firstFault ∧ (s.pauseForRest).watch = s.watch ∧
    (s.pauseForRest).roster = s.roster ∧ (s.pauseForRest).patterns = s.patterns ∧
    (s.pauseForRest).quests = s.quests ∧ (s.pauseForRest).lamps = s.lamps ∧ (s.pauseForRest).link = s.link ∧
    (s.pauseForRest).pending = s.pending ∧ (∀ x, (s.pauseForRest).cell x = s.cell x) ∧
    (∀ x, (s.pauseForRest).lane x = s.lane x) ∧ (∀ x, (s.pauseForRest).quest x = s.quest x) := by
  unfold State.pauseForRest
  (repeat' split) <;> simp [State.cell, State.lane, State.quest]

@[simp] theorem allNormal_frame :
    (s.allNormal).chip = s.chip ∧ (s.allNormal).rest = s.rest ∧ (s.allNormal).plan = s.plan ∧
    (s.allNormal).cells = s.cells ∧ (s.allNormal).epoch = s.epoch ∧ (s.allNormal).sensing = s.sensing ∧
    (s.allNormal).firstFault = s.firstFault ∧ (s.allNormal).watch = s.watch ∧ (s.allNormal).roster = s.roster ∧
    (s.allNormal).patterns = s.patterns ∧ (s.allNormal).quests = s.quests ∧ (s.allNormal).play = s.play ∧
    (s.allNormal).lamps = s.lamps ∧ (s.allNormal).notices = s.notices ∧ (s.allNormal).link = s.link ∧
    (s.allNormal).pending = s.pending ∧ (∀ x, (s.allNormal).cell x = s.cell x) ∧
    (∀ x, (s.allNormal).quest x = s.quest x) := by
  unfold State.allNormal
  simp [State.cell, State.quest]

@[simp] theorem lightUp_frame :
    (s.lightUp).chip = s.chip ∧ (s.lightUp).plan = s.plan ∧ (s.lightUp).cells = s.cells ∧
    (s.lightUp).epoch = s.epoch ∧ (s.lightUp).sensing = s.sensing ∧ (s.lightUp).firstFault = s.firstFault ∧
    (s.lightUp).watch = s.watch ∧ (s.lightUp).roster = s.roster ∧ (s.lightUp).patterns = s.patterns ∧
    (s.lightUp).quests = s.quests ∧ (s.lightUp).play = s.play ∧ (s.lightUp).link = s.link ∧
    (s.lightUp).pending = s.pending ∧ (∀ x, (s.lightUp).cell x = s.cell x) ∧
    (∀ x, (s.lightUp).quest x = s.quest x) := by
  unfold State.lightUp
  simp [State.cell, State.quest]

@[simp] theorem rerunClock_frame :
    (s.rerunClock).chip = s.chip ∧ (s.rerunClock).plan = s.plan ∧ (s.rerunClock).lanes = s.lanes ∧
    (s.rerunClock).cells = s.cells ∧ (s.rerunClock).epoch = s.epoch ∧ (s.rerunClock).sensing = s.sensing ∧
    (s.rerunClock).firstFault = s.firstFault ∧ (s.rerunClock).watch = s.watch ∧ (s.rerunClock).roster = s.roster ∧
    (s.rerunClock).patterns = s.patterns ∧ (s.rerunClock).quests = s.quests ∧ (s.rerunClock).lamps = s.lamps ∧
    (s.rerunClock).link = s.link ∧ (s.rerunClock).pending = s.pending ∧ (∀ x, (s.rerunClock).cell x = s.cell x) ∧
    (∀ x, (s.rerunClock).lane x = s.lane x) ∧ (∀ x, (s.rerunClock).quest x = s.quest x) := by
  unfold State.rerunClock
  (repeat' split) <;> simp [State.cell, State.lane, State.quest]

@[simp] theorem enterRest_frame :
    (s.enterRest).chip = s.chip ∧ (s.enterRest).plan = s.plan ∧ (s.enterRest).cells = s.cells ∧
    (s.enterRest).epoch = s.epoch ∧ (s.enterRest).sensing = s.sensing ∧ (s.enterRest).firstFault = s.firstFault ∧
    (s.enterRest).watch = s.watch ∧ (s.enterRest).roster = s.roster ∧ (s.enterRest).patterns = s.patterns ∧
    (s.enterRest).quests = s.quests ∧ (s.enterRest).link = s.link ∧ (s.enterRest).pending = s.pending ∧
    (∀ x, (s.enterRest).cell x = s.cell x) ∧ (∀ x, (s.enterRest).quest x = s.quest x) := by
  unfold State.enterRest
  simp [State.cell, State.quest]

@[simp] theorem restIfDue_frame :
    (s.restIfDue).chip = s.chip ∧ (s.restIfDue).plan = s.plan ∧ (s.restIfDue).cells = s.cells ∧
    (s.restIfDue).epoch = s.epoch ∧ (s.restIfDue).sensing = s.sensing ∧ (s.restIfDue).firstFault = s.firstFault ∧
    (s.restIfDue).watch = s.watch ∧ (s.restIfDue).roster = s.roster ∧ (s.restIfDue).patterns = s.patterns ∧
    (s.restIfDue).quests = s.quests ∧ (s.restIfDue).link = s.link ∧ (s.restIfDue).pending = s.pending ∧
    (∀ x, (s.restIfDue).cell x = s.cell x) ∧ (∀ x, (s.restIfDue).quest x = s.quest x) := by
  unfold State.restIfDue
  (repeat' split) <;> simp [State.cell, State.quest]

@[simp] theorem wake_frame (w : WakeCause) :
    (s.wake w).chip = s.chip ∧ (s.wake w).plan = s.plan ∧ (s.wake w).cells = s.cells ∧ (s.wake w).epoch = s.epoch ∧
    (s.wake w).sensing = s.sensing ∧ (s.wake w).firstFault = s.firstFault ∧ (s.wake w).watch = s.watch ∧
    (s.wake w).roster = s.roster ∧ (s.wake w).patterns = s.patterns ∧ (s.wake w).quests = s.quests ∧
    (s.wake w).link = s.link ∧ (s.wake w).pending = s.pending ∧ (∀ x, (s.wake w).cell x = s.cell x) ∧
    (∀ x, (s.wake w).quest x = s.quest x) := by
  unfold State.wake
  try dsimp only
  (repeat' split) <;> simp [State.cell, State.quest]

@[simp] theorem frameReceived_frame :
    (s.frameReceived).chip = s.chip ∧ (s.frameReceived).plan = s.plan ∧ (s.frameReceived).cells = s.cells ∧
    (s.frameReceived).epoch = s.epoch ∧ (s.frameReceived).sensing = s.sensing ∧
    (s.frameReceived).firstFault = s.firstFault ∧ (s.frameReceived).watch = s.watch ∧
    (s.frameReceived).roster = s.roster ∧ (s.frameReceived).patterns = s.patterns ∧ (s.frameReceived).link = s.link ∧
    (s.frameReceived).pending = s.pending ∧ (∀ x, (s.frameReceived).cell x = s.cell x) := by
  unfold State.frameReceived
  (repeat' split) <;> simp [State.cell]

@[simp] theorem expireHold_frame (n : Lane) :
    (s.expireHold n).chip = s.chip ∧ (s.expireHold n).plan = s.plan ∧ (s.expireHold n).sensing = s.sensing ∧
    (s.expireHold n).firstFault = s.firstFault ∧ (s.expireHold n).watch = s.watch ∧
    (s.expireHold n).roster = s.roster ∧ (s.expireHold n).patterns = s.patterns ∧ (s.expireHold n).lamps = s.lamps ∧
    (s.expireHold n).link = s.link ∧ (s.expireHold n).pending = s.pending := by
  unfold State.expireHold
  try dsimp only
  split <;> simp

@[simp] theorem startHold_frame (n : Lane) :
    (s.startHold n).chip = s.chip ∧ (s.startHold n).plan = s.plan ∧ (s.startHold n).sensing = s.sensing ∧
    (s.startHold n).firstFault = s.firstFault ∧ (s.startHold n).watch = s.watch ∧ (s.startHold n).roster = s.roster ∧
    (s.startHold n).patterns = s.patterns ∧ (s.startHold n).lamps = s.lamps ∧ (s.startHold n).link = s.link ∧
    (s.startHold n).pending = s.pending := by
  unfold State.startHold
  (repeat' split) <;> simp

@[simp] theorem endCheck_frame (n : Lane) (v : Bool) (r : RawResult) :
    (s.endCheck n v r).chip = s.chip ∧ (s.endCheck n v r).rest = s.rest ∧ (s.endCheck n v r).plan = s.plan ∧
    (s.endCheck n v r).cells = s.cells ∧ (s.endCheck n v r).epoch = s.epoch ∧
    (s.endCheck n v r).sensing = s.sensing ∧ (s.endCheck n v r).watch = s.watch ∧
    (s.endCheck n v r).roster = s.roster ∧ (s.endCheck n v r).patterns = s.patterns ∧
    (s.endCheck n v r).quests = s.quests ∧ (s.endCheck n v r).play = s.play ∧ (s.endCheck n v r).lamps = s.lamps ∧
    (s.endCheck n v r).notices = s.notices ∧ (s.endCheck n v r).pending = s.pending ∧
    (∀ x, (s.endCheck n v r).cell x = s.cell x) ∧ (∀ x, (s.endCheck n v r).quest x = s.quest x) := by
  unfold State.endCheck
  try dsimp only
  split <;> simp [State.cell, State.quest]

@[simp] theorem park_frame (n : Lane) :
    (s.park n).chip = s.chip ∧ (s.park n).rest = s.rest ∧ (s.park n).plan = s.plan ∧ (s.park n).epoch = s.epoch ∧
    (s.park n).sensing = s.sensing ∧ (s.park n).firstFault = s.firstFault ∧ (s.park n).watch = s.watch ∧
    (s.park n).roster = s.roster ∧ (s.park n).patterns = s.patterns ∧ (s.park n).quests = s.quests ∧
    (s.park n).play = s.play ∧ (s.park n).link = s.link ∧ (s.park n).pending = s.pending ∧
    (∀ x, (s.park n).quest x = s.quest x) := by
  unfold State.park
  try dsimp only
  split <;> simp [State.quest]

@[simp] theorem completePark_frame (n : Lane) :
    (s.completePark n).chip = s.chip ∧ (s.completePark n).rest = s.rest ∧ (s.completePark n).plan = s.plan ∧
    (s.completePark n).epoch = s.epoch ∧ (s.completePark n).sensing = s.sensing ∧
    (s.completePark n).firstFault = s.firstFault ∧ (s.completePark n).watch = s.watch ∧
    (s.completePark n).roster = s.roster ∧ (s.completePark n).patterns = s.patterns ∧
    (s.completePark n).quests = s.quests ∧ (s.completePark n).play = s.play ∧
    (s.completePark n).pending = s.pending ∧ (∀ x, (s.completePark n).quest x = s.quest x) := by
  unfold State.completePark
  simp [State.quest]

@[simp] theorem loseLane_frame (n : Lane) :
    (s.loseLane n).chip = s.chip ∧ (s.loseLane n).plan = s.plan ∧ (s.loseLane n).sensing = s.sensing ∧
    (s.loseLane n).watch = s.watch ∧ (s.loseLane n).roster = s.roster ∧ (s.loseLane n).patterns = s.patterns ∧
    (s.loseLane n).pending = s.pending := by
  unfold State.loseLane
  try dsimp only
  (repeat' split) <;> simp

@[simp] theorem unlinkLane_frame (n : Lane) :
    (s.unlinkLane n).chip = s.chip ∧ (s.unlinkLane n).plan = s.plan ∧ (s.unlinkLane n).sensing = s.sensing ∧
    (s.unlinkLane n).firstFault = s.firstFault ∧ (s.unlinkLane n).watch = s.watch ∧
    (s.unlinkLane n).roster = s.roster ∧ (s.unlinkLane n).patterns = s.patterns ∧ (s.unlinkLane n).lamps = s.lamps ∧
    (s.unlinkLane n).link = s.link ∧ (s.unlinkLane n).pending = s.pending := by
  unfold State.unlinkLane
  try dsimp only
  (repeat' split) <;> simp

@[simp] theorem linkLane_frame (n : Lane) :
    (s.linkLane n).chip = s.chip ∧ (s.linkLane n).rest = s.rest ∧ (s.linkLane n).plan = s.plan ∧
    (s.linkLane n).epoch = s.epoch ∧ (s.linkLane n).sensing = s.sensing ∧ (s.linkLane n).firstFault = s.firstFault ∧
    (s.linkLane n).watch = s.watch ∧ (s.linkLane n).roster = s.roster ∧ (s.linkLane n).patterns = s.patterns ∧
    (s.linkLane n).quests = s.quests ∧ (s.linkLane n).play = s.play ∧ (s.linkLane n).link = s.link ∧
    (s.linkLane n).pending = s.pending ∧ (∀ x, (s.linkLane n).quest x = s.quest x) := by
  unfold State.linkLane
  try dsimp only
  (repeat' split) <;> simp [State.quest]

end Sys2Proof.Machine
end

