-- ==== Sys2Proof/Laws/Notices.lean ====
section
/-!
SUPPORT. What filing a notice can do (R148 to R151), and what a committed board change does (R57).
-/

namespace Sys2Proof.Machine

open Sys2Proof

/-- A notice made: discarded, or numbered with the counter's value and offered. -/
theorem notify_cases (s : State) (b : NoticeBody) :
    (s.notices.opened = false ∨ s.notices.modes.of b.class = .off) ∧ s.notify b = s ∨
      (s.notices.opened = true ∧ s.notices.modes.of b.class ≠ .off) ∧
        (s.notify b).notices =
          { s.notices with next := s.notices.next + 1 }.offer
            { seq := s.notices.next, body := b, epoch := s.epoch, clock := s.play.clock } := by
  unfold State.notify
  split
  · exact .inl ⟨‹_›, rfl⟩
  · rename_i h
    refine .inr ⟨⟨?_, fun e => h (.inr e)⟩, rfl⟩
    cases h' : s.notices.opened
    · exact absurd (.inl h') h
    · rfl

/-- The three outcomes of an offer: room, an eviction, a discard. -/
theorem offer_cases (u : NoticeUnit) (n : Notice) :
    u.queue.length < noticeRoom ∧ u.offer n = { u with queue := u.queue ++ [n] } ∨
      (noticeRoom ≤ u.queue.length ∧ lowestRank u.queue < n.body.class.rank) ∧
        u.offer n =
          { u with
            queue := dropYoungest (lowestRank u.queue) u.queue ++ [n], dropped := min 255 (u.dropped + 1) } ∨
      (noticeRoom ≤ u.queue.length ∧ n.body.class.rank ≤ lowestRank u.queue) ∧
        u.offer n = { u with dropped := min 255 (u.dropped + 1) } := by
  unfold NoticeUnit.offer
  split
  · exact .inl ⟨‹_›, rfl⟩
  · split
    · exact .inr (.inl ⟨⟨by omega, ‹_›⟩, rfl⟩)
    · exact .inr (.inr ⟨⟨by omega, by omega⟩, rfl⟩)

/-- Dropping the youngest of a rank that is present takes one notice out. -/
theorem dropYoungest_length (r : Nat) (q : List Notice) (h : ∃ m ∈ q, m.body.class.rank = r) :
    (dropYoungest r q).length + 1 = q.length := by
  induction q with
  | nil => simp at h
  | cons n rest ih =>
    unfold dropYoungest
    split
    · rename_i hany
      have : ∃ m ∈ rest, m.body.class.rank = r := by simpa using hany
      simp [ih this]
    · rename_i hany
      split
      · simp
      · rename_i hn
        obtain ⟨m, hm, hr⟩ := h
        rcases List.mem_cons.1 hm with rfl | hm
        · exact absurd hr hn
        · exact absurd (by simpa using ⟨m, hm, hr⟩) hany

/-- The fold that finds the lowest rank gives its start or the rank of a member, whichever is lowest. -/
theorem foldl_min_rank (q : List Notice) (a : Nat) :
    (q.foldl (fun low n => min low n.body.class.rank) a = a ∨
        ∃ m ∈ q, m.body.class.rank = q.foldl (fun low n => min low n.body.class.rank) a) ∧
      q.foldl (fun low n => min low n.body.class.rank) a ≤ a ∧
      ∀ m ∈ q, q.foldl (fun low n => min low n.body.class.rank) a ≤ m.body.class.rank := by
  induction q generalizing a with
  | nil => simp
  | cons n rest ih =>
    obtain ⟨h1, h2, h3⟩ := ih (min a n.body.class.rank)
    simp only [List.foldl_cons]
    refine ⟨?_, by omega, ?_⟩
    · rcases h1 with h1 | ⟨m, hm, he⟩
      · rcases Nat.le_total a n.body.class.rank with h | h
        · left; omega
        · right
          exact ⟨n, by simp, by omega⟩
      · exact .inr ⟨m, by simp [hm], he⟩
    · intro m hm
      rcases List.mem_cons.1 hm with rfl | hm
      · omega
      · exact h3 m hm

/-- The lowest rank is no higher than that of any notice in the queue. -/
theorem lowestRank_le (q : List Notice) {m : Notice} (h : m ∈ q) : lowestRank q ≤ m.body.class.rank :=
  (foldl_min_rank q _).2.2 m h

/-- A lowest rank below FAULT's is the rank of a notice in the queue. -/
theorem lowestRank_mem (q : List Notice) (h : lowestRank q < 3) : ∃ m ∈ q, m.body.class.rank = lowestRank q := by
  rcases (foldl_min_rank q NoticeClass.fault.rank).1 with h1 | h1
  · have : lowestRank q = 3 := h1
    omega
  · exact h1

/-- No class ranks above FAULT. -/
theorem rank_le (c : NoticeClass) : c.rank ≤ 3 := by cases c <;> decide

/-- An offer keeps a queue within its room, and the dropped count within 255. -/
theorem offer_inRange (u : NoticeUnit) (n : Notice) (hq : u.queue.length ≤ noticeRoom) (hd : u.dropped ≤ 255) :
    (u.offer n).queue.length ≤ noticeRoom ∧ (u.offer n).dropped ≤ 255 := by
  rcases offer_cases u n with ⟨h, e⟩ | ⟨⟨h, hr⟩, e⟩ | ⟨_, e⟩
  · simp only [e, List.length_append, List.length_singleton]
    exact ⟨by omega, hd⟩
  · have hm := lowestRank_mem u.queue (by have := rank_le n.body.class; omega)
    have := dropYoungest_length _ _ hm
    simp only [e, List.length_append, List.length_singleton]
    exact ⟨by omega, by omega⟩
  · simp only [e]
    exact ⟨hq, by omega⟩

/-- An offer changes neither the modes, the counter nor the open flag. -/
@[simp] theorem offer_frame (u : NoticeUnit) (n : Notice) :
    (u.offer n).modes = u.modes ∧ (u.offer n).opened = u.opened ∧ (u.offer n).next = u.next := by
  unfold NoticeUnit.offer
  (repeat' split) <;> simp

/-- A notice made changes no mode and never closes the unit. -/
@[simp] theorem notify_modes (s : State) (b : NoticeBody) :
    (s.notify b).notices.modes = s.notices.modes ∧ (s.notify b).notices.opened = s.notices.opened := by
  unfold State.notify
  split <;> simp

/-- A board change committed: the epoch steps by 1 and a pass is wanted (R57). -/
@[simp] theorem commit_epoch (s : State) (b : NoticeBody) :
    (s.commit b).epoch = s.epoch + 1 ∧ (s.commit b).quests.passWanted = true ∧
      (s.commit b).quests.pass = s.quests.pass ∧ (s.commit b).quests.records = s.quests.records := by
  unfold State.commit
  simp

end Sys2Proof.Machine
end

