-- ==== Sys2Proof/Laws/Filed.lean ====
section
/-!
SUPPORT. How `State.filed` is built up: from nothing, by one notice, by a GUARD notice, and by two stretches in a row.
-/

namespace Sys2Proof.Machine

open Sys2Proof

/-- Where no notice was made, none was filed. -/
theorem filed_nil {s t : State} (h : t.notices = s.notices) : s.filed t [] := ⟨[], by simpa using h, rfl⟩

/-- One notice that is no GUARD notice. -/
theorem filed_one {s t : State} {b : NoticeBody} (hb : b.isGuard = false) (h : t.notices = (s.notify b).notices) :
    s.filed t [b] :=
  ⟨[b], by simpa using h, by simp [hb]⟩

/-- A GUARD notice is none of those told. -/
theorem filed_guard {s t : State} {b : NoticeBody} (hb : b.isGuard = true) (h : t.notices = (s.notify b).notices) :
    s.filed t [] :=
  ⟨[b], by simpa using h, by simp [hb]⟩

/-- What a notice does to the unit depends on the unit, the epoch and the clock alone. -/
theorem notify_notices_congr {s t : State} (b : NoticeBody) (hn : t.notices = s.notices) (he : t.epoch = s.epoch)
    (hc : t.play.clock = s.play.clock) : (t.notify b).notices = (s.notify b).notices := by
  unfold State.notify
  rw [hn, he, hc]
  split
  · exact hn
  · rfl

/-- A notice leaves the epoch and the play record. -/
theorem notify_stamp (s : State) (b : NoticeBody) :
    (s.notify b).epoch = s.epoch ∧ (s.notify b).play.clock = s.play.clock := by
  unfold State.notify
  split <;> exact ⟨rfl, rfl⟩

/-- The same for notices in a row. -/
theorem foldl_notify_congr (bs : List NoticeBody) : ∀ {s t : State}, t.notices = s.notices → t.epoch = s.epoch →
    t.play.clock = s.play.clock → (bs.foldl State.notify t).notices = (bs.foldl State.notify s).notices := by
  induction bs with
  | nil => exact fun hn _ _ => hn
  | cons b bs ih =>
    intro s t hn he hc
    obtain ⟨es, cs⟩ := notify_stamp s b
    obtain ⟨et, ct⟩ := notify_stamp t b
    exact ih (notify_notices_congr b hn he hc) (by rw [et, es, he]) (by rw [ct, cs, hc])

/-- Notices in a row leave the epoch and the clock. -/
theorem foldl_notify_stamp (bs : List NoticeBody) : ∀ s : State,
    (bs.foldl State.notify s).epoch = s.epoch ∧ (bs.foldl State.notify s).play.clock = s.play.clock := by
  induction bs with
  | nil => exact fun _ => ⟨rfl, rfl⟩
  | cons b bs ih =>
    intro s
    obtain ⟨e, c⟩ := notify_stamp s b
    obtain ⟨e', c'⟩ := ih (s.notify b)
    exact ⟨e'.trans e, c'.trans c⟩

/-- Two stretches in a row, the epoch and the clock standing between them, tell what the first tells and then the second. -/
theorem filed_trans {s t u : State} {xs ys : List NoticeBody} (h₁ : s.filed t xs) (h₂ : t.filed u ys)
    (he : t.epoch = s.epoch) (hc : t.play.clock = s.play.clock) : s.filed u (xs ++ ys) := by
  obtain ⟨as, ha, rfl⟩ := h₁
  obtain ⟨bs, hb, rfl⟩ := h₂
  refine ⟨as ++ bs, ?_, by simp⟩
  obtain ⟨e, c⟩ := foldl_notify_stamp as s
  rw [hb, List.foldl_append]
  exact foldl_notify_congr bs ha (he.trans e.symm) (hc.trans c.symm)

end Sys2Proof.Machine
end

