-- ==== Sys2Proof/Laws/Lanes.lean ====
section
/-!
SUPPORT. What the arbiter's grants and the end of an event do to a lane: only the slot in flight and the bookkeeping of the request granted change, and only in a lane that may be granted a slot.
-/

namespace Sys2Proof.Machine

open Sys2Proof

variable (s : State)

@[simp] theorem steady_refl (u : LaneUnit) : u.steady u := by simp [LaneUnit.steady]

theorem steady_trans {u v w : LaneUnit} (h : u.steady v) (k : v.steady w) : u.steady w := by
  simp only [LaneUnit.steady] at *
  simp_all

/-- A grant's lower part touches its own lane alone. -/
theorem grantLower_other {n m : Lane} (h : m ≠ n) : (s.grantLower n).lane m = s.lane m := by
  unfold State.grantLower
  dsimp only
  split <;> split <;> simp [setLane_lane, h]

theorem grantLower_steady (n m : Lane) : (s.lane m).steady ((s.grantLower n).lane m) := by
  by_cases h : m = n
  · subst h
    unfold State.grantLower State.afterSense
    dsimp only
    split <;> split <;> first | (split <;> simp [LaneUnit.steady]) | simp [LaneUnit.steady]
  · simp [grantLower_other s h]

/-- A grant touches its own lane alone. -/
theorem grant_other {n m : Lane} (h : m ≠ n) : (s.grant n).lane m = s.lane m := by
  unfold State.grant State.grantConfirm
  dsimp only
  split <;> [split; skip]
  · simp [setLane_lane, h]
  · split
    · exact grantLower_other s h
    · split
      · simp [setLane_lane, h]
      · rw [grantLower_other _ h]; simp [setLane_lane, h]
  · rfl

/-- A grant leaves a lane's state, timers and latch as they are. -/
theorem grant_steady (n m : Lane) : (s.lane m).steady ((s.grant n).lane m) := by
  by_cases h : m = n
  · subst h
    unfold State.grant State.grantConfirm
    dsimp only
    split <;> [split; skip]
    · simp [LaneUnit.steady]
    · split
      · exact grantLower_steady s _ _
      · split
        · simp [LaneUnit.steady]
        · exact steady_trans (by simp [LaneUnit.steady]) (grantLower_steady _ _ _)
    · simp
  · simp [grant_other s h]

/-- A lane that may not be granted a slot is left alone. -/
theorem grant_idle {n : Lane} (h : (s.lane n).grantable = false) : s.grant n = s := by simp [State.grant, h]

theorem grants_steady (l : List Lane) (m : Lane) : (s.lane m).steady ((l.foldl State.grant s).lane m) := by
  induction l generalizing s with
  | nil => simp
  | cons a l ih => exact steady_trans (grant_steady s a m) (ih _)

theorem grants_idle (l : List Lane) {m : Lane} (h : (s.lane m).grantable = false) :
    (l.foldl State.grant s).lane m = s.lane m := by
  induction l generalizing s with
  | nil => rfl
  | cons a l ih =>
    have e : (s.grant a).lane m = s.lane m := by
      by_cases k : m = a
      · subst k; rw [grant_idle s h]
      · exact grant_other s k
    rw [List.foldl_cons, ih _ (by rw [e]; exact h), e]

/-- The end of an event leaves every lane's state, timers and latch as they are. -/
theorem finish_steady (m : Lane) : (s.lane m).steady (s.finish.lane m) := by
  simp only [State.finish, startPass_frame, State.grantAll]
  exact grants_steady s _ m

/-- The end of an event leaves a lane that may not be granted a slot alone. -/
theorem finish_idle {m : Lane} (h : (s.lane m).grantable = false) : s.finish.lane m = s.lane m := by
  simp only [State.finish, startPass_frame, State.grantAll]
  exact grants_idle s _ h

end Sys2Proof.Machine
end

