-- ==== Sys2Proof/Laws/Grants.lean ====
section
/-!
SUPPORT. What a lane is after its arbiter has looked for a grant: a function of the lane's own record, the map, the plan, the lamps and the part state alone. From it follows that an event's end leaves every lane as its one grant left it, which is `State.laneGoes`.
-/

namespace Sys2Proof.Machine

open Sys2Proof

/-- Two states that a grant to lane `n` cannot tell apart. -/
def State.grantsAlike (s t : State) (n : Lane) : Prop :=
  t.lane n = s.lane n ∧ t.cells = s.cells ∧ t.plan = s.plan ∧ t.lamps = s.lamps ∧ t.rest = s.rest

variable {s t : State} {n : Lane}

/-- The drives of a lane depend on the map, the plan, the lamps and the part state. -/
theorem laneDrive_congr (hc : t.cells = s.cells) (hp : t.plan = s.plan) (hl : t.lamps = s.lamps) (hr : t.rest = s.rest) :
    t.laneDrive n = s.laneDrive n := by
  cases s; cases t
  dsimp only at hc hp hl hr
  subst hc hp hl hr
  rfl

theorem readable_congr (hc : t.cells = s.cells) (i : Slot) : t.readable n i = s.readable n i := by
  cases s; cases t
  dsimp only at hc
  subst hc
  rfl

theorem scanTarget_congr (h : s.grantsAlike t n) : t.scanTarget n = s.scanTarget n := by
  obtain ⟨hu, hc, -, -, -⟩ := h
  simp [State.scanTarget, State.scanFrom, State.sweepFrom, readable_congr hc, hu]

/-- The lower part of a grant gives its lane the same record in states alike. -/
theorem grantLower_congr (h : s.grantsAlike t n) : (t.grantLower n).lane n = (s.grantLower n).lane n := by
  have e := scanTarget_congr h
  obtain ⟨hu, hc, hp, hl, hr⟩ := h
  unfold State.grantLower State.afterSense
  simp only [e, hu, laneDrive_congr hc hp hl hr, State.sweepFrom, readable_congr hc]
  split <;> split <;> simp [hu]

/-- A grant gives its lane the same record in states alike. -/
theorem grant_congr (h : s.grantsAlike t n) : (t.grant n).lane n = (s.grant n).lane n := by
  have hl := h
  obtain ⟨hu, hc, hp, hm, hr⟩ := h
  have conf : t.confirmable n = s.confirmable n := by
    funext i; simp [State.confirmable, State.cell, hc]
  unfold State.grant State.grantConfirm
  simp only [hu, conf]
  split
  · split
    · simp
    · split
      · exact grantLower_congr hl
      · split
        · simp
        · exact grantLower_congr (by simp [State.grantsAlike, hc, hp, hm, hr])
  · exact hu

/-- The lower part of a grant leaves a slot in flight, or changes nothing. -/
theorem grantLower_cases (s : State) (n : Lane) :
    ((s.grantLower n).lane n).slot.isSome = true ∨ s.grantLower n = s := by
  unfold State.grantLower State.afterSense
  dsimp only
  (repeat' split) <;> simp

/-- A lane with a slot in flight is granted nothing. -/
theorem grant_busy {s : State} {n : Lane} (h : (s.lane n).slot.isSome = true) : s.grant n = s :=
  grant_idle s (by cases hs : (s.lane n).slot <;> simp_all [LaneUnit.grantable])

/-- A second grant finds nothing more to give. -/
theorem grant_twice (s : State) (n : Lane) : ((s.grant n).grant n).lane n = (s.grant n).lane n := by
  by_cases g : (s.lane n).grantable = true
  swap
  · rw [grant_idle s (by simpa using g), grant_idle s (by simpa using g)]
  by_cases hk : (s.lane n).checkPending = true
  · rw [show s.grant n = s.setLane n { s.lane n with slot := some .check } by simp [State.grant, g, hk], grant_busy]
    simp
  by_cases hb : (s.lane n).barred = true
  · rcases grantLower_cases s n with h | h
    · rw [show s.grant n = s.grantLower n by simp [State.grant, g, hk, hb], grant_busy h]
    · have e : s.grant n = s := by simp [State.grant, g, hk, hb, h]
      rw [e, e]
  have e : s.grant n = s.grantConfirm n := by simp [State.grant, g, hk, hb]
  rw [e]
  unfold State.grantConfirm
  dsimp only
  split
  · rw [grant_busy (by simp)]
  · let v : State := s.setLane n { s.lane n with confirms := [] }
    change ((v.grantLower n).grant n).lane n = (v.grantLower n).lane n
    rcases grantLower_cases v n with h | h
    · rw [grant_busy h]
    · rw [h]
      have hv : v.lane n = { s.lane n with confirms := [] } := by simp [v]
      have e : v.grant n = (v.setLane n { v.lane n with confirms := [] }).grantLower n := by
        simp_all [State.grant, State.grantConfirm, LaneUnit.grantable, LaneUnit.barred]
      rw [e, grantLower_congr (s := v) (by simp [State.grantsAlike, hv]), h]

/-- Grants to other lanes leave what a grant to lane `n` looks at. -/
theorem grantsAlike_other (s : State) {m : Lane} (h : n ≠ m) : s.grantsAlike (s.grant m) n := by
  simp [State.grantsAlike, grant_other s h]

/-- Arbiters of other lanes leave lane `n` alone. -/
theorem grants_other {l : List Lane} (h : n ∉ l) (s : State) : (l.foldl State.grant s).lane n = s.lane n := by
  induction l generalizing s with
  | nil => rfl
  | cons b l ih =>
    obtain ⟨hb, hl⟩ : n ≠ b ∧ n ∉ l := by simpa using h
    rw [List.foldl_cons, ih hl, grant_other s hb]

/-- Every arbiter in turn, each lane once: lane `n` is as its own grant leaves it. -/
theorem grants_lane {l : List Lane} (hl : l.Nodup) (hn : n ∈ l) (s : State) :
    (l.foldl State.grant s).lane n = (s.grant n).lane n := by
  induction l generalizing s with
  | nil => cases hn
  | cons a l ih =>
    obtain ⟨ha, hl⟩ := List.nodup_cons.1 hl
    rw [List.foldl_cons]
    by_cases h : n = a
    · subst h
      exact grants_other ha _
    · rw [ih hl (by simpa [h] using hn), grant_congr (grantsAlike_other s h)]

/-- The end of an event leaves every lane as its grant leaves it. -/
theorem finish_lane (s : State) (n : Lane) : s.finish.lane n = (s.grant n).lane n := by
  simp only [State.finish, startPass_frame, State.grantAll]
  exact grants_lane (List.nodup_finRange 8) (List.mem_finRange n) s

/-- An event whose end finds lane `n` as `s` has it lets its arbiter look for a grant. -/
theorem finish_laneGoes (s : State) (n : Lane) : s.finish.laneGoes n (s.lane n) := by
  unfold State.laneGoes
  rw [finish_lane]
  exact (grant_congr (by simp [State.grantsAlike])).symm

/-- So does one that granted lane `n` already, as a read slot's end does. -/
theorem finish_grant_laneGoes (s : State) (n : Lane) : (s.grant n).finish.laneGoes n (s.lane n) := by
  unfold State.laneGoes
  rw [finish_lane, grant_twice]
  exact (grant_congr (by simp [State.grantsAlike])).symm

/-! ### What a read does beside its cell -/

/-- A CONFIRM asked for in a RUNNING lane whose slot has ended is listed once (R28). -/
theorem requestConfirm_slotEnded (s : State) (c : CellId) (u : LaneUnit) (h : u.state = .running)
    (hu : s.lane c.lane = { u with slot := none }) :
    (s.requestConfirm c).lane c.lane = u.slotEnded c.slot true := by
  unfold State.requestConfirm LaneUnit.slotEnded
  simp only [hu, h]
  split <;> simp_all

/-- An outcome traced is an outcome traced as R63 says. -/
theorem traceOutcome_traces (s : State) (c : CellId) (k : SlotKind) (r : RawResult) :
    s.traces (s.traceOutcome c k r) c k r := by
  unfold State.traces State.traceOutcome State.threshold
  refine ⟨fun h => by simp [h], fun h => ?_⟩
  have outcome : (classify r (max (Table.read s.sensing.floors c.lane) ((s.cell c).peak / 2))).kind =
      (match r.kind with
        | .decoded _ =>
          if max (Table.read s.sensing.floors c.lane) ((s.cell c).peak / 2) ≤ r.amplitude then OutcomeKind.good
          else .weak
        | .absent => .absent
        | .garbled => .garbled
        | .parity _ => .parity
        | .stalled => .stalled) := by
    unfold classify
    generalize max (Table.read s.sensing.floors c.lane) ((s.cell c).peak / 2) = threshold
    cases r.kind with
    | decoded code => by_cases q : threshold ≤ r.amplitude <;> simp [q, Outcome.kind]
    | _ => rfl
  have serial : r.serial = (match r.kind with
        | .decoded code => some code.serial
        | .absent | .garbled | .parity _ | .stalled => none) := by
    unfold RawResult.serial
    cases r.kind <;> rfl
  refine ⟨fun hn => ?_, fun hn => ?_⟩
  · simp only [h, if_true, Watch.append, traceRoom, if_pos hn, outcome, serial, State.gateShut] <;> rfl
  · simp only [h, if_true, Watch.append, traceRoom, if_neg (Nat.not_lt.2 hn), outcome, serial, State.gateShut] <;> rfl

end Sys2Proof.Machine
end

