-- ==== Sys2Proof/Laws/Lamps.lean ====
section
/-!
SUPPORT. What an event at the lamps can do beside its own change: stale flags, the guard, a GUARD notice (R136 to R140).
-/

namespace Sys2Proof.Machine

open Sys2Proof

/-- A move of the guard writes the guard and nothing else of the lamps. -/
@[simp] theorem guardTo_lamps (s : State) (g : Guard) : (s.guardTo g).lamps = { s.lamps with guard := g } := by
  unfold State.guardTo
  dsimp only
  split
  · rename_i h
    subst h
    rfl
  · split <;> simp

/-- A move of the guard writes stale flags and nothing else of a lane. -/
theorem guardTo_lane (s : State) (g : Guard) (n : Lane) :
    ∃ b, (s.guardTo g).lane n = { s.lane n with stale := b } := by
  have key : ∀ u : State, (∃ b, (State.markStale s u).lane n = { u.lane n with stale := b }) := by
    intro u
    rw [markStale_lane]
    split
    · exact ⟨(u.lane n).stale, rfl⟩
    · exact ⟨true, rfl⟩
  unfold State.guardTo
  dsimp only
  split
  · exact ⟨(s.lane n).stale, rfl⟩
  · split
    · obtain ⟨b, hb⟩ := key { s with lamps := { s.lamps with guard := g } }
      refine ⟨b, Eq.trans ?_ hb⟩
      simp only [notify_frame]
    · exact key { s with lamps := { s.lamps with guard := g } }

/-- An evaluation writes the guard's next state. -/
@[simp] theorem evalGuard_lamps (s : State) :
    s.evalGuard.lamps = { s.lamps with guard := guardNext s.lamps.guard s.ln s.ld s.lamps.limit } := by
  unfold State.evalGuard
  simp

/-- An event at the lamps writes, of the lamps, what `f` writes and the guard. -/
theorem lampEvent_lamps (s : State) (f : State → State) :
    ∃ g, (s.lampEvent f).lamps = { (f s).lamps with guard := g } := by
  unfold State.lampEvent
  dsimp only
  split
  · exact ⟨(f s).lamps.guard, by simp⟩
  · exact ⟨_, by rw [evalGuard_lamps]; simp; rfl⟩

/-- An event at the lamps writes, of a lane, what `f` writes and the stale flag. -/
theorem lampEvent_lane (s : State) (f : State → State) (n : Lane) :
    ∃ b, (s.lampEvent f).lane n = { (f s).lane n with stale := b } := by
  have h1 : ∃ b, (State.markStale s (f s)).lane n = { (f s).lane n with stale := b } := by
    rw [markStale_lane]
    split
    · exact ⟨((f s).lane n).stale, rfl⟩
    · exact ⟨true, rfl⟩
  unfold State.lampEvent
  dsimp only
  split
  · exact h1
  · obtain ⟨b, hb⟩ := guardTo_lane (State.markStale s (f s)) (guardNext _ _ _ _) n
    obtain ⟨a, ha⟩ := h1
    refine ⟨b, ?_⟩
    unfold State.evalGuard
    rw [hb, ha]

/-- What an event at the lamps leaves of the lamps. -/
theorem lampEvent_lamps_frame (s : State) (f : State → State) :
    (s.lampEvent f).lamps.host = (f s).lamps.host ∧ (s.lampEvent f).lamps.hints = (f s).lamps.hints ∧
      (s.lampEvent f).lamps.flashes = (f s).lamps.flashes ∧ (s.lampEvent f).lamps.phaseOn = (f s).lamps.phaseOn ∧
      (s.lampEvent f).lamps.blinkCount = (f s).lamps.blinkCount ∧
      (s.lampEvent f).lamps.settle = (f s).lamps.settle ∧ (s.lampEvent f).lamps.limit = (f s).lamps.limit ∧
      (s.lampEvent f).lamps.cues = (f s).lamps.cues ∧ (s.lampEvent f).lamps.sounder = (f s).lamps.sounder := by
  obtain ⟨g, h⟩ := lampEvent_lamps s f
  simp [h]

end Sys2Proof.Machine
end

