-- ==== Sys2Proof/Laws/Link.lean ====
section
/-!
SUPPORT. What a request heard does (R159 to R162), and that hearing a frame neither reads nor writes the assembler.
-/

namespace Sys2Proof.Machine

open Sys2Proof

/-- An event taken by a part out of reset. -/
@[simp] theorem live_running {s : State} (f : State → State) (h : s.chip = .running) : s.live f = f s := by
  simp [State.live, h]

/-- An event that finds the part held in reset, or without supply, is not taken. -/
theorem live_held {s : State} (f : State → State) (h : s.chip ≠ .running) : s.live f = s := by
  simp [State.live, h]

/-- A request heard is judged after its start byte was reported. -/
theorem request_hearing {s : State} (i : Instr) (block : State → Taken) (h : s.hearing) :
    s.request i block = s.frameReceived.judge true (kindOf i) block := by
  obtain ⟨-, h2, h3, -, -⟩ := h
  simp [State.request, h2, h3]

/-- A frame received by a part that is not RESTING is a report of activity (R159, R169). -/
theorem frameReceived_awake {s : State} (h : s.rest.part ≠ .resting) : s.frameReceived = s.reportActivity := by
  simp [State.frameReceived, h]

/-- A report of activity keeps the part state, the delay and the other settings of the Rest Controller. -/
@[simp] theorem reportActivity_rest (s : State) :
    s.reportActivity.rest.part = s.rest.part ∧ s.reportActivity.rest.startUp = s.rest.startUp ∧
      s.reportActivity.rest.startReason = s.rest.startReason ∧ s.reportActivity.rest.delay = s.rest.delay ∧
      s.reportActivity.rest.autoPause = s.rest.autoPause ∧ s.reportActivity.rest.autoPaused = s.rest.autoPaused := by
  unfold State.reportActivity
  split <;> simp

/-- A request heard by a READY part goes to its owning block (R160 test 5). -/
theorem request_listening {s : State} (i : Instr) (block : State → Taken) (h : s.listening) :
    s.request i block = s.reportActivity.take (kindOf i) block := by
  obtain ⟨hh, hp⟩ := h
  rw [request_hearing i block hh, frameReceived_awake (by simp [hp])]
  obtain ⟨-, -, -, h4, h5⟩ := hh
  have : ¬replyRoom ≤ s.reportActivity.link.owed := by
    simp only [reportActivity_frame, LinkUnit.owed, h4]
    simpa using h5
  unfold State.judge
  rw [if_neg this]
  simp [hp, h4]

/-- A block that answers gives its state with the reply at the tail. -/
theorem take_answer {s t : State} {k : Byte} {block : State → Taken} {st : Status} {data : List Byte}
    (h : block s = (t, some (st, data))) : s.take k block = t.repliedWith k st data := by
  simp [State.take, h, State.repliedWith]

/-- A block that keeps its request in hand gives its state (R162). -/
theorem take_inHand {s t : State} {k : Byte} {block : State → Taken} (h : block s = (t, none)) :
    s.take k block = t := by
  simp [State.take, h]

/-- The check byte that `checkByte` chooses matches (R158). -/
theorem frameMatches_checkByte (body : List Byte) :
    frameMatches body.length body (checkByte body) = true := by
  have hs : (body.map (·.toNat)).sum % 256 = body.sum.toNat := by
    induction body with
    | nil => rfl
    | cons b rest ih =>
      simp only [List.map_cons, List.sum_cons, BitVec.toNat_add]
      omega
  unfold frameMatches checkByte
  simp only [decide_eq_true_eq, BitVec.toNat_neg, BitVec.toNat_add, BitVec.toNat_ofNat]
  omega

/-! ### Hearing a frame and the link -/

/-- The link replaced. -/
def State.withLink (s : State) (l : LinkUnit) : State := { s with link := l }

/-- A function of the state that neither reads nor writes the link. -/
def Blind (f : State → State) : Prop := ∀ s l, f (s.withLink l) = (f s).withLink l

theorem Blind.comp {f g : State → State} (hf : Blind f) (hg : Blind g) : Blind fun s => f (g s) := fun s l => by
  dsimp only
  rw [hg s l, hf (g s) l]

theorem blind_notify (b : NoticeBody) : Blind fun s => s.notify b := fun s l => by
  unfold State.notify State.withLink
  dsimp only
  split <;> rfl

theorem blind_reportActivity : Blind State.reportActivity := fun s l => by
  unfold State.reportActivity State.withLink
  dsimp only
  split <;> rfl

theorem blind_guardTo (g : Guard) : Blind fun s => s.guardTo g := fun s l => by
  unfold State.guardTo
  dsimp only
  show (if g = s.lamps.guard then _ else _) = _
  split
  · rfl
  · show (if guardNotice s.lamps.guard g = true then _ else _) = _
    split
    · exact blind_notify _ (State.markStale s { s with lamps := { s.lamps with guard := g } }) l
    · rfl

theorem blind_evalGuard : Blind State.evalGuard := fun s l =>
  blind_guardTo (guardNext s.lamps.guard s.ln s.ld s.lamps.limit) s l

theorem blind_lampEvent {f : State → State} (hf : Blind f) : Blind fun s => s.lampEvent f := fun s l => by
  have hm : State.markStale (s.withLink l) (f (s.withLink l)) = (State.markStale s (f s)).withLink l := by
    rw [hf s l]
    rfl
  unfold State.lampEvent
  dsimp only
  rw [hm]
  show (if (State.markStale s (f s)).ln = s.ln ∧ (State.markStale s (f s)).ld = s.ld then _ else _) = _
  split
  · rfl
  · exact blind_evalGuard _ l

theorem blind_setClockRunning (a b : Bool) : Blind fun s => s.setClockRunning a b := fun s l =>
  blind_notify (.clock a b) { s with play := { s.play with clockRunning := a } } l

theorem blind_grantLower (n : Lane) : Blind fun s => s.grantLower n := fun s l => by
  unfold State.grantLower
  dsimp only
  rw [show (s.withLink l).scanTarget n = s.scanTarget n from rfl,
    show (s.withLink l).lane n = s.lane n from rfl]
  cases s.scanTarget n with
  | some i => cases (s.lane n).stale && !(s.lane n).barred <;> rfl
  | none => cases h : (s.lane n).stale <;> rfl

theorem blind_grantConfirm (n : Lane) : Blind fun s => s.grantConfirm n := fun s l => by
  unfold State.grantConfirm
  dsimp only
  rw [show ((s.withLink l).lane n).confirms.dropWhile (fun i => !(s.withLink l).confirmable n i) =
      (s.lane n).confirms.dropWhile fun i => !s.confirmable n i from rfl,
    show (s.withLink l).lane n = s.lane n from rfl]
  cases (s.lane n).confirms.dropWhile fun i => !s.confirmable n i with
  | nil => exact blind_grantLower n (s.setLane n { s.lane n with confirms := [] }) l
  | cons i rest => rfl

theorem blind_grant (n : Lane) : Blind fun s => s.grant n := fun s l => by
  unfold State.grant
  dsimp only
  rw [show (s.withLink l).lane n = s.lane n from rfl]
  cases (s.lane n).grantable
  · rfl
  · cases (s.lane n).checkPending
    · cases (s.lane n).barred
      · exact blind_grantConfirm n s l
      · exact blind_grantLower n s l
    · rfl

theorem blind_grantAll : Blind State.grantAll := by
  have key : ∀ (ns : List Lane) (s : State) (l : LinkUnit),
      ns.foldl State.grant (s.withLink l) = (ns.foldl State.grant s).withLink l := by
    intro ns
    induction ns with
    | nil => intro s l; rfl
    | cons n ns ih =>
      intro s l
      simp only [List.foldl_cons]
      rw [show (s.withLink l).grant n = (s.grant n).withLink l from blind_grant n s l, ih]
  exact fun s l => key _ s l

theorem blind_startPass : Blind State.startPass := fun s l => by
  unfold State.startPass
  show (if s.quests.passWanted = true ∧ s.quests.pass = none then _ else _) = _
  split <;> rfl

theorem blind_finish : Blind State.finish := fun s l => by
  unfold State.finish
  rw [blind_grantAll s l, blind_startPass]

theorem blind_lightUp : Blind State.lightUp := fun s l =>
  blind_lampEvent
    (f := fun s => { s with rest := { s.rest with part := .ready, activity := fullActivity s.rest.delay } })
    (fun _ _ => rfl) s l

theorem blind_rerunClock : Blind State.rerunClock := fun s l => by
  unfold State.rerunClock
  rw [show (s.withLink l).rest = s.rest from rfl]
  cases s.rest.autoPaused
  · rfl
  · exact blind_setClockRunning true true { s with rest := { s.rest with autoPaused := false } } l

theorem blind_wake (w : WakeCause) : Blind fun s => s.wake w := fun s l => by
  unfold State.wake
  dsimp only
  rw [show (s.withLink l).rest = s.rest from rfl]
  split
  · rw [show (s.withLink l).allNormal = s.allNormal.withLink l from rfl, blind_lightUp, blind_rerunClock]
    exact blind_notify _ _ l
  · rfl

/-- Hearing a frame neither reads nor writes the link. -/
theorem blind_frameReceived : Blind State.frameReceived := fun s l => by
  unfold State.frameReceived
  show (if s.rest.part = .resting then _ else _) = _
  split
  · rw [show (s.withLink l).wake .frame = (s.wake .frame).withLink l from blind_wake .frame s l, blind_finish]
  · exact blind_reportActivity s l

/-- Hearing a frame commutes with setting the assembler. -/
theorem frameReceived_setAsm (s : State) (a : Assembler) (g : Option Nat) :
    (s.setAsm a g).frameReceived = s.frameReceived.setAsm a g := by
  have h := blind_frameReceived s { s.link with asm := a, gap := g }
  have e : s.frameReceived.link = s.link := by simp
  simpa [State.withLink, State.setAsm, e] using h

end Sys2Proof.Machine
end

