-- ==== Sys2Proof/Laws/Outputs.lean ====
section
/-!
SUPPORT. What the part's lines show while it is held in reset, and while a reply is sent.
-/

namespace Sys2Proof.Machine

open Sys2Proof

@[simp] theorem txdIdle_held (s : State) (h : s.chip ≠ .running) : s.txdIdle = true := by
  simp [State.txdIdle, h]

@[simp] theorem lanePowered_held (s : State) (n : Lane) (h : s.chip ≠ .running) : s.lanePowered n = false := by
  simp [State.lanePowered, h]

@[simp] theorem segmentLamps_unpowered (s : State) (n : Lane) (h : s.lanePowered n = false) :
    s.segmentLamps n = Table.full 12 .off := by
  simp [State.segmentLamps, h]

theorem segmentLamps_powered (s : State) (n : Lane) (h : s.lanePowered n = true) :
    s.segmentLamps n = (s.lane n).latch := by
  simp [State.segmentLamps, h]

/-- A running part sends the frame of its head reply. -/
theorem txFrame_sending (s : State) (r : Reply) (rest : List Reply) (hc : s.chip = .running)
    (hr : s.link.replies = r :: rest) : s.txFrame = r.frame := by
  simp [State.txFrame, State.txdIdle, hc, hr]

/-- Whatever TXD has carried of a reply is a beginning of its frame. -/
theorem txSent_isPrefix (s : State) (k : Nat) : s.txSent k <+: s.txFrame := List.take_prefix k s.txFrame

end Sys2Proof.Machine
end

