-- ==== Sys2Proof/Laws/PerInstr.lean ====
section
/-!
SUPPORT. Facts about every command as syntax, one lemma per constructor.
EncodedLength: a request's body has the length listed for its kind, and a frame can carry it (section 12.2).
-/

namespace Sys2Proof.Laws.EncodedLength

open Sys2Proof

/-- A request's body has the length listed for its kind byte, between 1 and 64. -/
def Statement (i : Instr) : Prop :=
  ∀ b, encodeBody i = some b → requestLen (byteAt b 0).toNat = some b.length ∧ 1 ≤ b.length ∧ b.length ≤ 64

/-- The pieces of a body are 30 bytes. -/
theorem pieces_length (ps : Table 6 PieceBytes) : (ps.toList.flatMap pieceBytes).length = 30 := by
  have h : ∀ l : List PieceBytes, (l.flatMap pieceBytes).length = 5 * l.length := by
    intro l
    induction l with
    | nil => rfl
    | cons p l ih => simp [pieceBytes, ih]; omega
  simp [h]

/-- The stages of a body are 60 bytes. -/
theorem stages_length (ts : Table 4 StageBytes) : (ts.toList.flatMap stageBytes).length = 60 := by
  have h : ∀ l : List StageBytes, (l.flatMap stageBytes).length = 15 * l.length := by
    intro l
    induction l with
    | nil => rfl
    | cons p l ih => simp [stageBytes, bytes16, ih]; omega
  simp [h]

theorem hello : Statement .hello := by
  rintro b ⟨⟩
  exact ⟨rfl, by decide, by decide⟩

theorem status : Statement .status := by
  rintro b ⟨⟩
  exact ⟨rfl, by decide, by decide⟩

theorem restart : Statement .restart := by
  rintro b ⟨⟩
  exact ⟨rfl, by decide, by decide⟩

theorem newGame : Statement .newGame := by
  rintro b ⟨⟩
  exact ⟨rfl, by decide, by decide⟩

theorem setRest (delay : BitVec 16) (autoPause : Byte) : Statement (.setRest delay autoPause) := by
  rintro b h
  obtain rfl := Option.some.inj h
  exact ⟨rfl, Nat.le_of_ble_eq_true rfl, Nat.le_of_ble_eq_true rfl⟩

theorem fetch (k : Byte) : Statement (.fetch k) := by
  rintro b h
  obtain rfl := Option.some.inj h
  exact ⟨rfl, Nat.le_of_ble_eq_true rfl, Nat.le_of_ble_eq_true rfl⟩

theorem setNoticeModes (fault : Byte) (quest : Byte) (play : Byte) (board : Byte) :
    Statement (.setNoticeModes fault quest play board) := by
  rintro b h
  obtain rfl := Option.some.inj h
  exact ⟨rfl, Nat.le_of_ble_eq_true rfl, Nat.le_of_ble_eq_true rfl⟩

theorem placeSegment (lane : Byte) (ox : Byte) (oy : Byte) (h : Byte) : Statement (.placeSegment lane ox oy h) := by
  rintro b h
  obtain rfl := Option.some.inj h
  exact ⟨rfl, Nat.le_of_ble_eq_true rfl, Nat.le_of_ble_eq_true rfl⟩

theorem unplaceSegment (lane : Byte) : Statement (.unplaceSegment lane) := by
  rintro b h
  obtain rfl := Option.some.inj h
  exact ⟨rfl, Nat.le_of_ble_eq_true rfl, Nat.le_of_ble_eq_true rfl⟩

theorem getPlan : Statement .getPlan := by
  rintro b ⟨⟩
  exact ⟨rfl, by decide, by decide⟩

theorem parkLane (lane : Byte) : Statement (.parkLane lane) := by
  rintro b h
  obtain rfl := Option.some.inj h
  exact ⟨rfl, Nat.le_of_ble_eq_true rfl, Nat.le_of_ble_eq_true rfl⟩

theorem runLane (lane : Byte) : Statement (.runLane lane) := by
  rintro b h
  obtain rfl := Option.some.inj h
  exact ⟨rfl, Nat.le_of_ble_eq_true rfl, Nat.le_of_ble_eq_true rfl⟩

theorem laneCheck (lane : Byte) : Statement (.laneCheck lane) := by
  rintro b h
  obtain rfl := Option.some.inj h
  exact ⟨rfl, Nat.le_of_ble_eq_true rfl, Nat.le_of_ble_eq_true rfl⟩

theorem getCell (form : Byte) (a : Byte) (b : Byte) : Statement (.getCell form a b) := by
  rintro b h
  obtain rfl := Option.some.inj h
  exact ⟨rfl, Nat.le_of_ble_eq_true rfl, Nat.le_of_ble_eq_true rfl⟩

theorem watchCell (lane : Byte) (slot : Byte) : Statement (.watchCell lane slot) := by
  rintro b h
  obtain rfl := Option.some.inj h
  exact ⟨rfl, Nat.le_of_ble_eq_true rfl, Nat.le_of_ble_eq_true rfl⟩

theorem getWatch : Statement .getWatch := by
  rintro b ⟨⟩
  exact ⟨rfl, by decide, by decide⟩

theorem getBoard : Statement .getBoard := by
  rintro b ⟨⟩
  exact ⟨rfl, by decide, by decide⟩

theorem retireCell (lane : Byte) (slot : Byte) : Statement (.retireCell lane slot) := by
  rintro b h
  obtain rfl := Option.some.inj h
  exact ⟨rfl, Nat.le_of_ble_eq_true rfl, Nat.le_of_ble_eq_true rfl⟩

theorem reinstateCell (lane : Byte) (slot : Byte) : Statement (.reinstateCell lane slot) := by
  rintro b h
  obtain rfl := Option.some.inj h
  exact ⟨rfl, Nat.le_of_ble_eq_true rfl, Nat.le_of_ble_eq_true rfl⟩

theorem getFirstFault : Statement .getFirstFault := by
  rintro b ⟨⟩
  exact ⟨rfl, by decide, by decide⟩

theorem clearFirstFault : Statement .clearFirstFault := by
  rintro b ⟨⟩
  exact ⟨rfl, by decide, by decide⟩

theorem setSensing (arriveN : Byte) (liftN : Byte) (hold : Byte) (floor : Byte) (target : Byte) :
    Statement (.setSensing arriveN liftN hold floor target) := by
  rintro b h
  obtain rfl := Option.some.inj h
  exact ⟨rfl, Nat.le_of_ble_eq_true rfl, Nat.le_of_ble_eq_true rfl⟩

theorem enroll (serial : BitVec 24) (owner : Byte) (banned : Byte) : Statement (.enroll serial owner banned) := by
  rintro b h
  obtain rfl := Option.some.inj h
  exact ⟨rfl, Nat.le_of_ble_eq_true rfl, Nat.le_of_ble_eq_true rfl⟩

theorem withdraw (serial : BitVec 24) : Statement (.withdraw serial) := by
  rintro b h
  obtain rfl := Option.some.inj h
  exact ⟨rfl, Nat.le_of_ble_eq_true rfl, Nat.le_of_ble_eq_true rfl⟩

theorem getTile (serial : BitVec 24) : Statement (.getTile serial) := by
  rintro b h
  obtain rfl := Option.some.inj h
  exact ⟨rfl, Nat.le_of_ble_eq_true rfl, Nat.le_of_ble_eq_true rfl⟩

theorem setRosterPolicy (policy : Byte) (editions : BitVec 32) : Statement (.setRosterPolicy policy editions) := by
  rintro b h
  obtain rfl := Option.some.inj h
  exact ⟨rfl, Nat.le_of_ble_eq_true rfl, Nat.le_of_ble_eq_true rfl⟩

theorem getTurn : Statement .getTurn := by
  rintro b ⟨⟩
  exact ⟨rfl, by decide, by decide⟩

theorem setTurn (mode : Byte) (np : Byte) (current : Byte) (movesPerTurn : Byte) :
    Statement (.setTurn mode np current movesPerTurn) := by
  rintro b h
  obtain rfl := Option.some.inj h
  exact ⟨rfl, Nat.le_of_ble_eq_true rfl, Nat.le_of_ble_eq_true rfl⟩

theorem endTurn : Statement .endTurn := by
  rintro b ⟨⟩
  exact ⟨rfl, by decide, by decide⟩

theorem clockRun : Statement .clockRun := by
  rintro b ⟨⟩
  exact ⟨rfl, by decide, by decide⟩

theorem clockPause : Statement .clockPause := by
  rintro b ⟨⟩
  exact ⟨rfl, by decide, by decide⟩

theorem setClock (value : BitVec 24) : Statement (.setClock value) := by
  rintro b h
  obtain rfl := Option.some.inj h
  exact ⟨rfl, Nat.le_of_ble_eq_true rfl, Nat.le_of_ble_eq_true rfl⟩

theorem getScores : Statement .getScores := by
  rintro b ⟨⟩
  exact ⟨rfl, by decide, by decide⟩

theorem setScores (p1 : BitVec 16) (p2 : BitVec 16) (p3 : BitVec 16) (p4 : BitVec 16) (team : BitVec 16) :
    Statement (.setScores p1 p2 p3 p4 team) := by
  rintro b h
  obtain rfl := Option.some.inj h
  exact ⟨rfl, Nat.le_of_ble_eq_true rfl, Nat.le_of_ble_eq_true rfl⟩

theorem definePattern (pattern : Byte) (n : Byte) (rotation : Byte) (anchor : Byte) (ax : Byte) (ay : Byte) (pieces : Table 6 PieceBytes) :
    Statement (.definePattern pattern n rotation anchor ax ay pieces) := by
  rintro b h
  obtain rfl := Option.some.inj h
  have := pieces_length pieces
  refine ⟨?_, by simp [this], by simp [this]⟩
  show some 37 = some _
  simp [this]

theorem erasePattern (pattern : Byte) : Statement (.erasePattern pattern) := by
  rintro b h
  obtain rfl := Option.some.inj h
  exact ⟨rfl, Nat.le_of_ble_eq_true rfl, Nat.le_of_ble_eq_true rfl⟩

theorem getPattern (pattern : Byte) : Statement (.getPattern pattern) := by
  rintro b h
  obtain rfl := Option.some.inj h
  exact ⟨rfl, Nat.le_of_ble_eq_true rfl, Nat.le_of_ble_eq_true rfl⟩

theorem countPattern (pattern : Byte) (form : Byte) (player : Byte) :
    Statement (.countPattern pattern form player) := by
  rintro b h
  obtain rfl := Option.some.inj h
  exact ⟨rfl, Nat.le_of_ble_eq_true rfl, Nat.le_of_ble_eq_true rfl⟩

theorem defineQuest (quest : Byte) (owner : Byte) (count : Byte) (stages : Table 4 StageBytes) :
    Statement (.defineQuest quest owner count stages) := by
  rintro b h
  obtain rfl := Option.some.inj h
  have := stages_length stages
  refine ⟨?_, by simp [this], by simp [this]⟩
  show some 64 = some _
  simp [this]

theorem eraseQuest (quest : Byte) : Statement (.eraseQuest quest) := by
  rintro b h
  obtain rfl := Option.some.inj h
  exact ⟨rfl, Nat.le_of_ble_eq_true rfl, Nat.le_of_ble_eq_true rfl⟩

theorem getQuest (quest : Byte) : Statement (.getQuest quest) := by
  rintro b h
  obtain rfl := Option.some.inj h
  exact ⟨rfl, Nat.le_of_ble_eq_true rfl, Nat.le_of_ble_eq_true rfl⟩

theorem startQuest (quest : Byte) : Statement (.startQuest quest) := by
  rintro b h
  obtain rfl := Option.some.inj h
  exact ⟨rfl, Nat.le_of_ble_eq_true rfl, Nat.le_of_ble_eq_true rfl⟩

theorem pauseQuest (quest : Byte) : Statement (.pauseQuest quest) := by
  rintro b h
  obtain rfl := Option.some.inj h
  exact ⟨rfl, Nat.le_of_ble_eq_true rfl, Nat.le_of_ble_eq_true rfl⟩

theorem resumeQuest (quest : Byte) : Statement (.resumeQuest quest) := by
  rintro b h
  obtain rfl := Option.some.inj h
  exact ⟨rfl, Nat.le_of_ble_eq_true rfl, Nat.le_of_ble_eq_true rfl⟩

theorem abandonQuest (quest : Byte) : Statement (.abandonQuest quest) := by
  rintro b h
  obtain rfl := Option.some.inj h
  exact ⟨rfl, Nat.le_of_ble_eq_true rfl, Nat.le_of_ble_eq_true rfl⟩

theorem setProgress (quest : Byte) (stage : Byte) (earned : BitVec 16) :
    Statement (.setProgress quest stage earned) := by
  rintro b h
  obtain rfl := Option.some.inj h
  exact ⟨rfl, Nat.le_of_ble_eq_true rfl, Nat.le_of_ble_eq_true rfl⟩

theorem setLamps (x0 : Byte) (y0 : Byte) (x1 : Byte) (y1 : Byte) (setting : Byte) :
    Statement (.setLamps x0 y0 x1 y1 setting) := by
  rintro b h
  obtain rfl := Option.some.inj h
  exact ⟨rfl, Nat.le_of_ble_eq_true rfl, Nat.le_of_ble_eq_true rfl⟩

theorem getLamps (lane : Byte) : Statement (.getLamps lane) := by
  rintro b h
  obtain rfl := Option.some.inj h
  exact ⟨rfl, Nat.le_of_ble_eq_true rfl, Nat.le_of_ble_eq_true rfl⟩

theorem playCue (cue : Byte) : Statement (.playCue cue) := by
  rintro b h
  obtain rfl := Option.some.inj h
  exact ⟨rfl, Nat.le_of_ble_eq_true rfl, Nat.le_of_ble_eq_true rfl⟩

theorem stopCues : Statement .stopCues := by
  rintro b ⟨⟩
  exact ⟨rfl, by decide, by decide⟩

theorem setLoadLimit (limit : Byte) : Statement (.setLoadLimit limit) := by
  rintro b h
  obtain rfl := Option.some.inj h
  exact ⟨rfl, Nat.le_of_ble_eq_true rfl, Nat.le_of_ble_eq_true rfl⟩

theorem receiveByte (b : RxByte) : Statement (.receiveByte b) := by
  rintro b ⟨⟩

theorem gapTimerExpiry : Statement .gapTimerExpiry := by
  rintro b ⟨⟩

theorem replySent : Statement .replySent := by
  rintro b ⟨⟩

theorem restartReset : Statement .restartReset := by
  rintro b ⟨⟩

theorem powerUp : Statement .powerUp := by
  rintro b ⟨⟩

theorem resetnAssert : Statement .resetnAssert := by
  rintro b ⟨⟩

theorem resetEnd : Statement .resetEnd := by
  rintro b ⟨⟩

theorem startUpEnd : Statement .startUpEnd := by
  rintro b ⟨⟩

theorem guardSettleEnd : Statement .guardSettleEnd := by
  rintro b ⟨⟩

theorem tick (order : TickOrder) : Statement (.tick order) := by
  rintro b ⟨⟩

theorem holdComplete (quest : QuestId) : Statement (.holdComplete quest) := by
  rintro b ⟨⟩

theorem deadlineExpiry (quest : QuestId) : Statement (.deadlineExpiry quest) := by
  rintro b ⟨⟩

theorem flashExpiry (quest : QuestId) : Statement (.flashExpiry quest) := by
  rintro b ⟨⟩

theorem blinkPhaseChange : Statement .blinkPhaseChange := by
  rintro b ⟨⟩

theorem cueEnd : Statement .cueEnd := by
  rintro b ⟨⟩

theorem connectorSeen (lane : Lane) : Statement (.connectorSeen lane) := by
  rintro b ⟨⟩

theorem connectorLost (lane : Lane) : Statement (.connectorLost lane) := by
  rintro b ⟨⟩

theorem linkSettleEnd (lane : Lane) : Statement (.linkSettleEnd lane) := by
  rintro b ⟨⟩

theorem holdTimerExpiry (lane : Lane) : Statement (.holdTimerExpiry lane) := by
  rintro b ⟨⟩

theorem parkComplete (lane : Lane) : Statement (.parkComplete lane) := by
  rintro b ⟨⟩

theorem scanPaceExpiry (lane : Lane) : Statement (.scanPaceExpiry lane) := by
  rintro b ⟨⟩

theorem sweepTimer (lane : Lane) : Statement (.sweepTimer lane) := by
  rintro b ⟨⟩

theorem readSlotEnd (lane : Lane) (marks : List Mark) : Statement (.readSlotEnd lane marks) := by
  rintro b ⟨⟩

theorem lampSlotEnd (lane : Lane) : Statement (.lampSlotEnd lane) := by
  rintro b ⟨⟩

theorem checkSlotEnd (lane : Lane) (marks : List Mark) : Statement (.checkSlotEnd lane marks) := by
  rintro b ⟨⟩

theorem passCommit : Statement .passCommit := by
  rintro b ⟨⟩

theorem activityTimerExpiry : Statement .activityTimerExpiry := by
  rintro b ⟨⟩

theorem restEntry : Statement .restEntry := by
  rintro b ⟨⟩

theorem supplyLoss : Statement .supplyLoss := by
  rintro b ⟨⟩

end Sys2Proof.Laws.EncodedLength
end

