-- ==== Sys2Proof/Laws/Rest.lean ====
section
/-!
SUPPORT. What entering RESTING and waking do to a lane: its scan mode (R31) and its stale flag (R32, R136), and what decides that a read wakes the part (R38 step 6).
-/

namespace Sys2Proof.Machine

open Sys2Proof

variable (s : State) (n : Lane)

/-- The guard dims a lamp and never darkens or lights one (R136). -/
theorem driveOf_off (e : LampSetting) (p : Bool) (g h : Guard) : driveOf e p g = .off ↔ driveOf e p h = .off := by
  cases e <;> cases p <;> cases g <;> cases h <;> simp [driveOf]

/-- Every lamp of a RESTING part is off (R135). -/
theorem laneDrive_resting (h : s.rest.part = .resting) : s.laneDrive n = Table.full 12 .off := by
  unfold State.laneDrive Table.full
  ext i hi
  simp [State.drive, State.effective, h, driveOf]

/-- Of the Rest Controller, the drives read the part state alone (R135, R136). -/
theorem laneDrive_part {s t : State} (hc : t.cells = s.cells) (hp : t.plan = s.plan) (hl : t.lamps = s.lamps)
    (hr : t.rest.part = s.rest.part) : t.laneDrive n = s.laneDrive n := by
  cases s; cases t
  dsimp only at hc hp hl hr
  subst hc hp hl
  unfold State.laneDrive State.drive State.effective
  simp only [hr]
  rfl

/-- A lane is dark under one guard exactly when it is under another (R136). -/
theorem laneDrive_dark {s t : State} (hc : t.cells = s.cells) (hp : t.plan = s.plan) (hr : t.rest = s.rest)
    {g : Guard} (hl : t.lamps = { s.lamps with guard := g }) :
    t.laneDrive n = Table.full 12 .off ↔ s.laneDrive n = Table.full 12 .off := by
  have key : ∀ c, t.effective c = s.effective c := by
    cases s; cases t
    dsimp only at hc hp hr hl
    subst hc hp hr hl
    exact fun _ => rfl
  simp only [State.laneDrive, Table.full, Vector.ext_iff, Vector.getElem_ofFn, Vector.getElem_replicate, State.drive, key, hl]
  exact forall_congr' fun i => forall_congr' fun _ => driveOf_off ..

/-- A move of the guard marks a lane exactly when it changes its drives (R140). -/
theorem guardTo_stale (g : Guard) :
    ((s.guardTo g).lane n).stale = ((s.lane n).stale || decide (s.laneDrive n ≠ (s.guardTo g).laneDrive n)) := by
  by_cases h : g = s.lamps.guard
  · simp [State.guardTo, h]
  · have hd : (s.guardTo g).laneDrive n = ({ s with lamps := { s.lamps with guard := g } } : State).laneDrive n :=
      laneDrive_congr (by simp) (by simp) (by simp) (by simp)
    rw [hd]
    unfold State.guardTo
    simp only [h, if_false]
    split <;> simp only [notify_frame, markStale_lane] <;> split <;> simp_all [State.lane]

/-- An event at the lamps marks a lane when `f` or the guard after it changes its drives (R136, R140). -/
theorem lampEvent_stale (f : State → State) :
    ((s.lampEvent f).lane n).stale =
      (((f s).lane n).stale || decide (s.laneDrive n ≠ (f s).laneDrive n) ||
        decide ((f s).laneDrive n ≠ (s.lampEvent f).laneDrive n)) := by
  have hm : (State.markStale s (f s)).laneDrive n = (f s).laneDrive n :=
    laneDrive_congr (by simp) (by simp) (by simp) (by simp)
  have h1 : ((State.markStale s (f s)).lane n).stale = (((f s).lane n).stale || decide (s.laneDrive n ≠ (f s).laneDrive n)) := by
    rw [markStale_lane]
    split <;> simp_all
  unfold State.lampEvent
  dsimp only
  split
  · rw [h1, hm]; simp
  · unfold State.evalGuard
    rw [guardTo_stale, h1, hm]

/-- What an event at the lamps leaves of a lane: what `f` leaves, and the mark of `lampEvent_stale`. -/
theorem lampEvent_lane_stale (f : State → State) :
    (s.lampEvent f).lane n =
      { (f s).lane n with
        stale :=
          ((f s).lane n).stale || decide (s.laneDrive n ≠ (f s).laneDrive n) ||
            decide ((f s).laneDrive n ≠ (s.lampEvent f).laneDrive n) } := by
  obtain ⟨b, hb⟩ := lampEvent_lane s f n
  rw [← lampEvent_stale, hb]

/-- The part state becomes RESTING: a lane is marked stale when it was lit (R32, R135, R169). -/
theorem goDark_lane :
    s.goDark.rest.part = .resting ∧
      s.goDark.lane n = { s.lane n with stale := (s.lane n).stale || decide (s.laneDrive n ≠ s.goDark.laneDrive n) } := by
  have hr : s.goDark.rest.part = .resting := by unfold State.goDark; simp
  let f : State → State := fun s => { s with rest := { s.rest with part := .resting, activity := .stopped } }
  have hl := lampEvent_lane_stale s n f
  have hf : (f s).laneDrive n = Table.full 12 .off := laneDrive_resting (f s) n rfl
  refine ⟨hr, ?_⟩
  rw [show s.lampEvent f = s.goDark from rfl, laneDrive_resting s.goDark n hr, hf] at hl
  rw [hl, laneDrive_resting s.goDark n hr]
  simp [f, State.lane]

/-- Entering RESTING: a lane changes to SWEEP, and is marked stale when it was lit (R31, R169). -/
theorem enterRest_lane :
    s.enterRest.lane n =
      { (s.lane n).toSweep with stale := (s.lane n).stale || decide (s.laneDrive n ≠ s.enterRest.laneDrive n) } := by
  obtain ⟨hr, hg⟩ := goDark_lane s n
  have he : s.enterRest.rest.part = .resting := by
    unfold State.enterRest State.pauseForRest State.setClockRunning State.allSweep
    dsimp only
    split <;> simpa using hr
  have hl : s.enterRest.lane n = (s.goDark.lane n).toSweep := by
    have k : s.goDark.allSweep.lane n = (s.goDark.lane n).toSweep := by simp [State.allSweep]
    rw [← k]
    unfold State.enterRest State.pauseForRest State.setClockRunning
    dsimp only
    split <;> simp [State.lane]
  rw [hl, laneDrive_resting _ n he, ← laneDrive_resting _ n hr, hg]
  rfl

/-- The part state becomes READY: a lane is marked stale when it is lit again (R32, R135, R170). -/
theorem lightUp_lane (h : s.rest.part = .resting) :
    s.lightUp.lane n = { s.lane n with stale := (s.lane n).stale || decide (s.laneDrive n ≠ s.lightUp.laneDrive n) } := by
  let f : State → State := fun s =>
    { s with rest := { s.rest with part := .ready, activity := fullActivity s.rest.delay } }
  have hl := lampEvent_lane_stale s n f
  obtain ⟨g, hm⟩ := lampEvent_lamps s f
  have hk : (s.lampEvent f).laneDrive n = Table.full 12 .off ↔ (f s).laneDrive n = Table.full 12 .off :=
    laneDrive_dark n (by simp) (by simp) (by simp) hm
  rw [show s.lightUp = s.lampEvent f from rfl, hl, laneDrive_resting s n h]
  by_cases k : (f s).laneDrive n = Table.full 12 .off
  · simp [k, hk.2 k, f, State.lane]
  · simp [Ne.symm k, Ne.symm (mt hk.1 k), f, State.lane]

/-- Waking: a lane changes to NORMAL, and is marked stale when it is lit again (R31, R170). -/
theorem wake_lane (h : s.rest.part = .resting) (w : WakeCause) :
    (s.wake w).lane n =
      { s.toNormal n (s.lane n) with
        stale := (s.lane n).stale || decide (s.laneDrive n ≠ (s.wake w).laneDrive n) } := by
  have hu : s.wake w = s.allNormal.lightUp.rerunClock.notify (.wake w s.rest.autoPaused) := by simp [State.wake, h]
  have hl : (s.wake w).lane n = s.allNormal.lightUp.lane n := by
    rw [hu]; unfold State.rerunClock State.setClockRunning; split <;> simp [State.lane]
  have hw : (s.wake w).laneDrive n = s.allNormal.lightUp.laneDrive n := by
    rw [hu]
    unfold State.rerunClock State.setClockRunning
    split <;> exact laneDrive_part n (by simp) (by simp) (by simp) (by simp)
  have hn : s.allNormal.lane n = s.toNormal n (s.lane n) := by simp [State.allNormal]
  have hq : s.allNormal.laneDrive n = s.laneDrive n :=
    laneDrive_part n (by simp [State.allNormal]) (by simp [State.allNormal]) (by simp [State.allNormal])
      (by simp [State.allNormal])
  have ht : (s.toNormal n (s.lane n)).stale = (s.lane n).stale := by unfold State.toNormal; dsimp only; split <;> rfl
  rw [hl, hw, lightUp_lane _ n (by simpa [State.allNormal] using h), hn, hq, ht]

/-- A read is a wake cause when its cell's state, a count, the fault score or the entries changed, or the epoch moved (R38 step 6; DEDUCED, assumption 15). -/
theorem wakes_iff (t : State) (c : CellId) :
    wakes s t c = true ↔
      (t.cell c).state ≠ (s.cell c).state ∨
        (t.cell c).candidate.map (·.arrive) ≠ (s.cell c).candidate.map (·.arrive) ∨
        (t.cell c).lift ≠ (s.cell c).lift ∨ (t.cell c).absent ≠ (s.cell c).absent ∨
        (t.cell c).score ≠ (s.cell c).score ∨ (t.cell c).entries ≠ (s.cell c).entries ∨ t.epoch ≠ s.epoch := by
  simp only [wakes, CellRec.wakeMark, Bool.or_eq_true, decide_eq_true_eq, ne_eq, Prod.mk.injEq]
  simp only [eq_comm (a := (s.cell c).state), eq_comm (a := Option.map _ (s.cell c).candidate), eq_comm (a := (s.cell c).lift),
    eq_comm (a := (s.cell c).absent), eq_comm (a := (s.cell c).score), eq_comm (a := (s.cell c).entries),
    eq_comm (a := s.epoch)]
  tauto

end Sys2Proof.Machine
end

