-- ==== Sys2Proof/WellFormed.lean ====
section
/-!
DEFINITION. Which commands the world can give. A request's parameter bytes may hold any value (R172: bytes out of range are answered, not impossible), so only the marks of a tag reply are checked: they come in the order of time and every pulse has a length (R24).
-/

namespace Sys2Proof

/-- The marks are listed in the order their pulses start. -/
def marksInOrder : List Mark → Bool
  | a :: b :: rest => decide (a.start ≤ b.start) && marksInOrder (b :: rest)
  | _ => true

/-- Every pulse lasts some time. -/
def marksHaveWidth (marks : List Mark) : Bool := marks.all fun m => decide (0 < m.width)

/-- On one pad a pulse has ended before the next begins. -/
def marksApart : List Mark → Bool
  | [] => true
  | a :: rest =>
    rest.all (fun b => decide (a.pad ≠ b.pad) || decide (a.start + a.width ≤ b.start)) && marksApart rest

/-- A list of marks that a slot's four pads can carry. -/
def marksWellFormed (marks : List Mark) : Bool :=
  marksInOrder marks && marksHaveWidth marks && marksApart marks

/-- A command the world can give. -/
def Instr.wellFormed : Instr → Bool
  | .readSlotEnd _ marks => marksWellFormed marks
  | .checkSlotEnd _ marks => marksWellFormed marks
  | _ => true

end Sys2Proof
end

