-- ==== Sys2Proof/Tests/Slice0.lean ====
section
/-!
SUPPORT. Small tests of single steps against the spec's worked cases, the refusals of the well-formedness checks, and for every statement with hypotheses a state and operands that meet them, each clause at the edge of its range.
The states are built from `ready`, the part right after start-up.
-/

namespace Sys2Proof.Tests

open Sys2Proof Sys2Proof.Machine

-- one proof at a time: the checks below are small, and threads cost memory
set_option Elab.async false

/-! ### Small states -/

/-- The part after start-up: READY, the guard CLEAR, notices opened. -/
def ready : State :=
  { State.reset with
    rest := { State.reset.rest with part := .ready, startUp := none }
    notices := { State.reset.notices with opened := true }
    lamps := { State.reset.lamps with guard := .clear, settle := none } }

def resting : State := { ready with rest := { ready.rest with part := .resting } }

/-- `ready` with its link changed. -/
def linked (f : LinkUnit → LinkUnit) : State := { ready with link := f ready.link }

/-- `ready` with lane 0 changed. -/
def laned (f : LaneUnit → LaneUnit) : State := ready.setLane 0 (f (ready.lane 0))

/-- `ready` with its play record changed. -/
def played (f : PlayRecord → PlayRecord) : State := { ready with play := f ready.play }

/-- `ready` with quest 0 changed. -/
def quested (r : Quest) : State := ready.setQuest 0 r

/-- `ready` with its lamps changed. -/
def lit (f : LampUnit → LampUnit) : State := { ready with lamps := f ready.lamps }

/-- Lane 0 placed at (0, 0) with heading 0. -/
def placed : State := { ready with plan := Table.put ready.plan 0 (some { ox := 0, oy := 0, h := 0 }) }

def cell00 : CellId := ⟨0, 0⟩

def tile5 : TileRead := { serial := 5, kind := 0, side := .a, edition := 0, pad := 0 }
def tile6 : TileRead := { tile5 with serial := 6 }

def seated5 : Incumbent := { tile := tile5, facing := 0, placedBy := 0, seatedAt := 0, counting := true, owner := 0 }

/-- The code of `tile5`. -/
def code5 : TagCode := { serial := 5, kind := 0, side := .a, edition := 0 }

/-- The reply of `tile5` on pad 0 at amplitude 100. -/
def marks5 : List Mark := idealReply (codeBits 5) 0 50000 3000 100
def marks6 : List Mark := idealReply (codeBits 6) 0 50000 3000 100
/-- The same, too weak for a floor of 24. -/
def weak5 : List Mark := idealReply (codeBits 5) 0 50000 3000 10

def emptyCell : CellRec := CellRec.reset

/-- Cell 0/0 with a record, and a slot of lane 0 in flight on it. -/
def reading (k : SlotInFlight) (r : CellRec) : State :=
  (laned fun u => { u with state := .running, connector := true, slot := some k }).setCell cell00 r

/-- The part hears and takes requests. -/
theorem ready_listening : ready.listening := ⟨⟨rfl, rfl, rfl, rfl, by decide⟩, rfl⟩

/-! ### Well-formedness refuses ill-formed marks -/

def mark (start width : Nat) : Mark := { pad := 0, start := start, width := width, positive := true, height := 9 }

theorem test_marks_out_of_order : (Instr.readSlotEnd 0 [mark 9 1, mark 5 1]).wellFormed = false := by decide
theorem test_marks_without_width : (Instr.readSlotEnd 0 [mark 5 0]).wellFormed = false := by decide
theorem test_marks_overlapping : (Instr.checkSlotEnd 0 [mark 5 9, mark 8 1]).wellFormed = false := by decide
theorem test_marks_well_formed : (Instr.readSlotEnd 0 [mark 5 3, mark 8 1]).wellFormed = true := by decide

/-! ### The spec's worked cases -/

/-- Section 10.2.1. -/
theorem test_check_byte : frameBytes 0xA5 [0x21, 0x02, 0x07] = [0xA5, 0x03, 0x21, 0x02, 0x07, 0xD3] := by decide

/-- Section 10.2.1: WATCH_CELL of cell 2/7 is the body of the worked frame. -/
theorem test_body_of_watch_cell : decodeBody [0x21, 0x02, 0x07] = .ok (.watchCell 2 7) := by decide

/-- R174: the data bytes 0x00, 0x14, 0xC0, 0x18 with parity bits 1, 0, 1, 0 are tile 5,120, kind 12, side A, edition 3. -/
theorem test_tag_code :
    (hear false
      (idealReply
        ([false, false, false, false, false, false, false, false, true] ++
          [false, false, true, false, true, false, false, false, false] ++
          [false, false, false, false, false, false, true, true, true] ++
          [false, false, false, true, true, false, false, false, false])
        2 50000 3000 120)).kind =
      .decoded { serial := 5120, kind := 12, side := .a, edition := 3 } := by
  decide +kernel

/-- R34: the reference responder's reply passes in a CHECK slot. -/
theorem test_reference_reply :
    (hear true (idealReply (codeBits 0xFFFFFFFF) 0 50000 3000 160)).kind =
      .decoded { serial := 0xFFFFF, kind := 63, side := .b, edition := 31 } := by
  decide +kernel

/-- Section 12.8.1. -/
theorem test_arrival_record :
    ({ seq := 7
       body :=
         .arrival ⟨⟨2, 7⟩, some ⟨5, 9⟩⟩ { serial := 5120, kind := 12, side := .a, edition := 3, pad := 2 } 3 false
       epoch := 41, clock := 1000 } : Notice).bytes.take 14 =
      [0x07, 0x00, 0xD1, 0x29, 0x00, 0xE8, 0x03, 0x00, 0xA7, 0x95, 0x00, 0x14, 0xC0, 0x18] := by
  decide

/-- Section 1.8: lane 2 at (4, 8) with heading 1. -/
theorem test_placement_case :
    let s := { ready with plan := Table.put ready.plan 2 (some { ox := 4, oy := 8, h := 1 }) }
    s.position ⟨2, 0⟩ = some ⟨7, 8⟩ ∧ s.position ⟨2, 7⟩ = some ⟨5, 9⟩ ∧ s.position ⟨2, 11⟩ = some ⟨4, 10⟩ ∧
      s.covering ⟨6, 10⟩ = some ⟨2, 5⟩ := by
  decide +kernel

/-- Section 1.8, step 4: the same lane with heading 3. -/
theorem test_placement_turned :
    let s := { ready with plan := Table.put ready.plan 2 (some { ox := 4, oy := 8, h := 3 }) }
    s.position ⟨2, 7⟩ = some ⟨6, 9⟩ ∧ s.position ⟨2, 4⟩ = some ⟨5, 9⟩ ∧ s.facingOf 2 2 = 1 := by
  decide +kernel

/-- R123's table. -/
theorem test_time_bonus :
    timeBonus 40 480 (some 300) 0 = 12 ∧ timeBonus 40 480 (some 180) 0 = 7 ∧ timeBonus 50 160 (some 1) 0 = 0 ∧
      timeBonus 250 4800 (some 4800) 0 = 125 := by
  decide

/-- What a property says of the state after a command. -/
def afterwards (i : Instr) (s : State) (p : State → Bool) : Bool :=
  match exec i s with
  | .next t => p t
  | _ => false

/-- The reply a command leaves at the tail of the transmitter's queue. -/
def lastReply (i : Instr) (s : State) : Option Reply :=
  match exec i s with
  | .next t => t.link.replies.getLast?
  | _ => none

/-- Lanes 2 and 0 placed as after step 2 of section 1.8. -/
def case18 : State :=
  { ready with
    plan := Table.put (Table.put ready.plan 2 (some { ox := 4, oy := 8, h := 1 })) 0 (some { ox := 3, oy := 4, h := 0 }) }

/-- Section 1.8, step 1. -/
theorem test_place_accepted :
    lastReply (.placeSegment 2 4 8 1) ready = some { kind := 0x90, status := .success, data := [4, 8, 7, 10] } := by
  decide +kernel

/-- Section 1.8, step 3. -/
theorem test_place_refused :
    lastReply (.placeSegment 5 2 6 0) case18 = some { kind := 0x90, status := .refused, data := [2, 0] } ∧
      lastReply (.placeSegment 5 13 13 0) case18 = some { kind := 0x90, status := .refused, data := [1] } := by
  decide +kernel

/-- Section 1.8, step 5. -/
theorem test_unplace :
    lastReply (.unplaceSegment 0) case18 = some { kind := 0x91, status := .success, data := [1] } := by
  decide +kernel

/-- Section 10.7: HELLO after a power-up that has not finished starting. -/
theorem test_hello :
    lastReply .hello State.reset =
      some { kind := 0x81, status := .success, data := [0x96, 0x08, 0x12, State.reset.rest.startReason.code, 0] } := by
  decide +kernel

/-- R43: a first read makes a VACANT cell ARRIVING; R28: its CONFIRM is granted at once. -/
theorem test_first_read :
    (match exec (.readSlotEnd 0 marks5) (reading (.sense 0) emptyCell) with
      | .next t => some ((t.cell cell00).state, (t.lane 0).slot)
      | _ => none) =
      some (.arriving, some (.confirm 0)) := by
  decide +kernel

/-- R97: the turn passes to player 1 after player 2 of two. -/
theorem test_end_turn :
    lastReply .endTurn { ready with play := { ready.play with turns := true, np := 2, current := 2, turnNumber := 65535, moves := 3 } } =
      some { kind := 0xC2, status := .success, data := [2, 0xFF, 0xFF, 3, 1, 1, 0] } := by
  decide +kernel

/-! ### Every statement's hypotheses are met

Each theorem is named after the statement whose hypotheses it meets, clause by clause.
A request's clauses also need a part that hears it: `listens` says so of `ready` with any other part changed.
-/

/-- What `State.listening` asks of a state built from `ready`, checked. -/
def listens (s : State) : Bool :=
  decide (s.chip = .running) && !s.link.ignoring && decide (s.link.asm = .hunting) && decide (s.link.inHand = none) &&
    decide (s.link.replies.length < replyRoom) && decide (s.rest.part = .ready)

theorem listens_iff (s : State) : listens s = true ↔ s.listening := by
  simp [listens, State.listening, State.hearing, and_assoc]

theorem test_meets_StepRunsTheFrontCommand :
    ({ ready with pending := [.status, .hello] } : State).pending = .status :: [.hello] ∧ ready.pending = [] := by
  decide

theorem test_meets_ResetEndRestoresEveryBlock : ({ ready with chip := .held .pin } : State).chip = .held .pin := rfl

theorem test_meets_EventsNotTaken :
    ready.chip = .running ∧ ({ ready with chip := .held .pin } : State).chip ≠ .running ∧
      Instr.status ≠ .powerUp ∧ Instr.status ≠ .supplyLoss ∧ Instr.status ≠ .resetEnd ∧
      ({ ready with chip := .noSupply } : State).chip = .noSupply ∧
      (linked fun u => { u with ignoring := true }).link.ignoring = true ∧ (encodeBody .status).isSome = true ∧
      (linked fun u => { u with ignoring := true }).link.replies = [] ∧
      (linked fun u => { u with ignoring := true, replies := [⟨0x83, .success, []⟩] }).link.replies ≠ [] ∧
      ready.link.gap = none ∧ (ready.lane 0).state ≠ .linking ∧ (ready.lane 0).hold = none ∧
      (ready.lane 0).state ≠ .running ∧ ready.readInFlight 0 = none ∧ (ready.lane 0).slot ≠ some .check ∧
      ready.quests.pass = none ∧ (ready.quest 0).state ≠ .running ∧ Table.read ready.lamps.flashes 0 = none ∧
      ready.lamps.blinkCount = 0 ∧ ready.lamps.sounder = none ∧ ready.rest.startUp = none ∧
      ready.lamps.settle = none ∧ ({ ready with rest := { ready.rest with activity := .stopped } } : State).rest.activity = .stopped := by
  decide +kernel

/-- Its last part: what the lines show. -/
theorem test_meets_EventsNotTaken_lines :
    let sending := linked fun u => { u with replies := [⟨0x83, .success, []⟩] }
    let powered := laned fun u => { u with state := .linking }
    ({ ready with chip := .held .pin } : State).chip = .held .pin ∧
      ({ ready with chip := .noSupply } : State).chip ≠ .running ∧ ready.chip = .running ∧ ready.link.replies = [] ∧
      sending.link.replies = ⟨0x83, .success, []⟩ :: [] ∧ sending.txSent 2 = [0x5A, 2] ∧
      (powered.lane 0).state = .linking ∧ powered.lanePowered 0 = true ∧ ready.lamps.sounder = none ∧
      (lit fun u => { u with cues := [5], sounder := some 1 }).lamps.sounder.isSome = true := by
  decide +kernel

theorem test_meets_AssemblerFollowsItsTable :
    ready.chip = .running ∧ ready.link.ignoring = false ∧ ready.link.asm = .hunting ∧ ready.rest.part ≠ .resting ∧
      resting.rest.part = .resting ∧ (0xA4 : Byte) ≠ 0xA5 ∧
      (linked fun u => { u with asm := .length, gap := some 20 }).link.gap.isSome = true ∧
      (linked fun u => { u with asm := .length, gap := some 20 }).link.asm = .length ∧ 1 ≤ (1 : Byte).toNat ∧
      (64 : Byte).toNat ≤ 64 ∧ (0 : Byte) ≠ 0xA5 ∧ 65 ≤ (65 : Byte).toNat ∧
      (linked fun u => { u with asm := .body 2 [], gap := some 20 }).link.asm = .body 2 [] ∧
      ([] : List Byte).length + 1 < 2 ∧
      (linked fun u => { u with asm := .body 1 [], gap := some 20 }).link.asm = .body 1 [] ∧
      ([] : List Byte).length + 1 = 1 ∧
      (linked fun u => { u with asm := .check 1 [2], gap := some 20 }).link.asm = .check 1 [2] := by
  decide +kernel

theorem test_meets_FramesJudgedInOrder :
    (linked fun u => { u with asm := .check 1 [2], gap := some 20 }).link.asm = .check 1 [2] ∧
      8 ≤ (List.replicate 8 (⟨0x82, .success, []⟩ : Reply)).length ∧
      (1 + 2 + 0xFD) % 256 = 0 ∧ (1 + 2 + 0xFC) % 256 ≠ 0 ∧
      State.reset.rest.part = .starting ∧ (2 : Byte) ≠ 0x01 ∧
      (linked fun u => { u with inHand := some (.laneCheck 0) }).link.inHand.isSome = true ∧
      decodeBody [0xEE] = .error .unknownKind ∧ decodeBody [0x02, 0x00] = .error .badLength ∧
      decodeBody [0x02] = .ok .status ∧ encodeBody .status = some [0x02] ∧ resting.rest.part = .resting ∧
      ready.link.asm = .hunting := by
  decide +kernel

theorem test_meets_FrameBytesRunTheRequest :
    encodeBody (.fetch 4) = some [0x06, 4] ∧ ready.link.asm = .hunting ∧ ready.link.gap = none := by decide

theorem test_meets_BodiesDecodeAndEncode :
    encodeBody (.endTurn) = some [0x42] ∧ decodeBody [0x42] = .ok .endTurn ∧ encodeBody .powerUp = none := by decide

theorem test_meets_HelloAnsweredInEveryPartState :
    ready.hearing ∧ ready.rest.part = .ready ∧ resting.rest.part = .resting ∧ State.reset.rest.part = .starting ∧
      (linked fun u => { u with asm := .check 2 [0x01, 0x00] }).link.asm = .check 2 [0x01, 0x00] ∧
      (2 + 1 + 0 + (0xFD : Byte).toNat) % 256 = 0 :=
  ⟨ready_listening.1, by decide +kernel⟩

/-- A notice of the lowest class, and one of the highest. -/
def boardNotice : NoticeBody := .lift ⟨cell00, none⟩ 5 .read
def faultNotice : NoticeBody := .laneGone 0 1

/-- A full queue of BOARD notices behind one FAULT notice. -/
def fullQueue (b : NoticeBody) : List Notice := List.replicate 32 { seq := 0, body := b, epoch := 0, clock := 0 }

theorem test_meets_NoticesFiledAndOverflow :
    State.reset.notices.opened = false ∧ ready.notices.opened = true ∧ ready.notices.modes.of .board ≠ .off ∧
      ready.notices.queue.length < 32 ∧ (fullQueue boardNotice).length = 32 ∧
      fullQueue boardNotice = (fullQueue boardNotice).take 31 ++ ⟨0, boardNotice, 0, 0⟩ :: [] ∧
      boardNotice.class.rank < faultNotice.class.rank ∧
      (∀ m ∈ fullQueue boardNotice, boardNotice.class.rank ≤ m.body.class.rank) ∧
      (∀ m ∈ ([] : List Notice), m.body.class.rank ≠ boardNotice.class.rank) ∧
      (∀ m ∈ fullQueue faultNotice, boardNotice.class.rank ≤ m.body.class.rank) := by
  decide +kernel

theorem test_meets_ModesAttnAndFetch :
    listens ready = true ∧ 2 < (3 : Byte).toNat ∧ (0 : Byte) = 0 ∧ 4 < (5 : Byte).toNat ∧ 1 ≤ (1 : Byte).toNat ∧
      (4 : Byte).toNat ≤ 4 := by
  decide +kernel

theorem test_meets_PlainQueriesAnswerAndChangeNothing : ready.listening := ready_listening

theorem test_meets_OperandQueriesAnswerAndChangeNothing :
    listens placed = true ∧ placed.covering ⟨2, 3⟩ = some ⟨0, 11⟩ ∧ (placed.cell ⟨0, 11⟩).state ≠ .retired ∧
      placed.covering ⟨3, 3⟩ = none ∧ 1 < (2 : Byte).toNat ∧ 7 < (8 : Byte).toNat ∧ 11 < (12 : Byte).toNat ∧
      15 < (16 : Byte).toNat ∧ 1048575 ≤ (1048575 : BitVec 24).toNat ∧ 1 ≤ (1 : BitVec 24).toNat ∧
      (1048574 : BitVec 24).toNat ≤ 1048574 ∧ 31 < (32 : Byte).toNat ∧ 23 < (24 : Byte).toNat ∧
      (placed.quest 0).state = .empty ∧
      ((quested { Quest.blank with state := .dormant }).quest 0).state ≠ .empty ∧
      Table.read placed.patterns 0 = none ∧ 2 < (3 : Byte).toNat ∧ (1 : Byte) ≠ 0 ∧ 4 < (5 : Byte).toNat := by
  decide +kernel

theorem test_meets_SetTurnSetsTheTurnRecord :
    listens ready = true ∧ 1 < (2 : Byte).toNat ∧ 4 < (5 : Byte).toNat ∧ 9 < (10 : Byte).toNat ∧
      (2 : Byte).toNat < (3 : Byte).toNat ∧ (4 : Player) ≠ 0 ∧ (1 : Player) ≠ 0 ∧ (4 : Player) ≤ 4 := by
  decide +kernel

/-- A turn game of two players on its last turn number, one move short of a full turn of `k`. -/
def turns (k : Nat) (turn : Nat) : State :=
  { placed with
    play := { placed.play with turns := true, np := 2, current := 2, turnNumber := turn, moves := 0, movesPerTurn := k } }

theorem test_meets_TurnsEndByRequestOrByMoves :
    listens ready = true ∧ ready.play.turns = false ∧ listens (turns 1 65535) = true ∧
      (turns 1 65535).play.turns = true ∧ (1 : Player).val = (turns 1 65535).play.current.val % (turns 1 65535).play.np.val + 1 ∧
      (turns 1 65534).play.turnNumber < 65535 ∧ (turns 1 65535).play.turnNumber = 65535 ∧ ready.position cell00 = none ∧
      ((turns 1 7).position cell00).isSome = true ∧ (turns 0 7).play.movesPerTurn = 0 ∧
      (turns 2 7).play.moves + 1 < (turns 2 7).play.movesPerTurn ∧ (turns 1 7).play.movesPerTurn ≠ 0 ∧
      (turns 1 7).play.movesPerTurn ≤ (turns 1 7).play.moves + 1 := by
  decide +kernel

theorem test_meets_ClockAndScoreRequests :
    listens ready = true ∧ ready.play.clockRunning = false ∧
      (played fun p => { p with clockRunning := true }).play.clockRunning = true := by
  decide +kernel

theorem test_meets_PlaceAndUnplaceSegments :
    listens placed = true ∧ 7 < (8 : Byte).toNat ∧ 15 < (16 : Byte).toNat ∧ 3 < (4 : Byte).toNat ∧
      15 < (14 : Fin 16).val + 3 - 1 ∧ (13 : Fin 16).val + 3 - 1 ≤ 15 ∧ (12 : Fin 16).val + 4 - 1 ≤ 15 ∧
      (({ ox := 2, oy := 3, h := 0 } : Placement).covers ⟨2, 3⟩ = true ∧
        ({ ox := 0, oy := 0, h := 0 } : Placement).covers ⟨2, 3⟩ = true) ∧
      (∀ g ∈ allPositions,
        (({ ox := 3, oy := 0, h := 0 } : Placement).covers g && ({ ox := 0, oy := 0, h := 0 } : Placement).covers g) =
          false) ∧
      Table.read placed.plan 1 = none ∧ (Table.read placed.plan 0).isSome = true := by
  decide +kernel

theorem test_meets_PositionsAndCoveringCellsAgree : placed.planLawful ∧ placed.covering ⟨2, 3⟩ = some ⟨0, 11⟩ := by
  refine ⟨⟨?_, ?_⟩, by decide +kernel⟩
  · decide +kernel
  · intro n m p q b hp hq _ _
    have key : ∀ k : Lane, (Table.read placed.plan k).isSome = true → k = 0 := by decide +kernel
    rw [key n (by rw [hp]; rfl), key m (by rw [hq]; rfl)]

/-! #### The lanes -/

def linking (b : ReturnState) : State :=
  laned fun u => { u with state := .linking, returnState := some b, settle := some 200, hold := if b = .lost then some 50 else none }

def running0 : State := laned fun u => { u with state := .running, connector := true }

/-- A hold time of 0.0 s. -/
def noHold (s : State) : State := { s with sensing := { s.sensing with hold := 0 } }

theorem test_meets_ConnectorSeenLinksTheLane :
    ready.chip = .running ∧ ready.rest.part ≠ .resting ∧ (ready.lane 0).state = .absent ∧
      ((laned fun u => { u with state := .lost }).lane 0).state = .lost ∧ ((linking .lost).lane 0).state = .linking ∧
      (running0.lane 0).state = .running ∧ resting.rest.part = .resting ∧ (resting.lane 0).state = .absent := by
  decide +kernel

/-- What `LaneUnit.lawful` asks, met by a LINKING lane from either side. -/
theorem linking_lawful (b : ReturnState) : ((linking b).lane 0).lawful := by
  cases b <;> exact ⟨by decide +kernel, by decide +kernel, by decide +kernel, by decide +kernel, by decide +kernel, by decide +kernel⟩

theorem test_meets_LinkSettleEndRunsTheLane :
    (linking .lost).chip = .running ∧ ((linking .lost).lane 0).state = .linking ∧
      ((linking .lost).lane 0).settle.isSome = true ∧ ((linking .lost).lane 0).lawful ∧
      ((linking .absent).lane 0).lawful ∧ ((linking .absent).lane 0).returnState = some .absent ∧
      ((linking .lost).lane 0).returnState = some .lost :=
  ⟨rfl, by decide +kernel, by decide +kernel, linking_lawful _, linking_lawful _, by decide +kernel, by decide +kernel⟩

theorem test_meets_ConnectorLostByLaneState :
    running0.chip = .running ∧ running0.rest.part ≠ .resting ∧ (running0.lane 0).state = .running ∧
      (running0.lane 0).checkPending = false ∧ (running0.lane 0).parkWaiting = false ∧ running0.sensing.hold ≠ 0 ∧
      ((linking .lost).lane 0).state ≠ .running ∧ ((linking .lost).lane 0).hold ≠ none ∧
      ((linking .absent).lane 0).returnState = some .absent ∧ (ready.lane 0).state ≠ .linking ∧
      ((laned fun u => { u with state := .running, checkPending := true }).lane 0).checkPending = true ∧
      ((laned fun u => { u with state := .running, parkWaiting := true }).lane 0).parkWaiting = true ∧
      (noHold running0).sensing.hold = 0 ∧ (∀ c ∈ allCells, (running0.cell c).state ≠ .twin) := by
  decide +kernel

theorem test_meets_HoldTimerExpiryClearsTheLane :
    ((linking .lost).lane 0).hold.isSome = true ∧ ((linking .lost).lane 0).lawful ∧
      ((laned fun u => { u with state := .lost, hold := some 1 }).lane 0).hold.isSome = true ∧
      ((laned fun u => { u with state := .lost, hold := some 1 }).lane 0).lawful ∧
      (((linking .lost).setCell cell00 { emptyCell with state := .held, incumbent := some seated5 }).cell cell00).state = .held ∧
      ∀ c ∈ allCells, (ready.cell c).state ≠ .twin :=
  ⟨by decide +kernel, linking_lawful _, by decide +kernel,
    ⟨by decide +kernel, by decide +kernel, by decide +kernel, by decide +kernel, by decide +kernel, by decide +kernel⟩,
    by decide +kernel, by decide +kernel⟩

theorem test_meets_ParkLaneParks :
    listens running0 = true ∧ 7 < (8 : Byte).toNat ∧ (running0.lane 0).state = .running ∧
      (running0.lane 0).slot = none ∧ (running0.lane 0).parkWaiting = false ∧
      (((reading (.sense 0) emptyCell).lane 0).slot.isSome = true) ∧ (ready.lane 0).state ≠ .running ∧
      (ready.lane 0).state ≠ .parked ∧ ((laned fun u => { u with state := .parked }).lane 0).state = .parked ∧
      ((laned fun u => { u with state := .running, parkWaiting := true }).lane 0).parkWaiting = true ∧
      ((laned fun u => { u with state := .running, parkWaiting := true }).lane 0).slot = none := by
  decide +kernel

theorem test_meets_RunLaneLinksOrWaits :
    listens (laned fun u => { u with state := .parked }) = true ∧ 7 < (8 : Byte).toNat ∧ (ready.lane 0).state ≠ .parked ∧
      ((laned fun u => { u with state := .parked, connector := true }).lane 0).connector = true ∧
      ((laned fun u => { u with state := .parked }).lane 0).connector = false ∧ ready.sensing.hold ≠ 0 ∧
      (noHold ready).sensing.hold = 0 ∧ (∀ c ∈ allCells, (ready.cell c).state ≠ .twin) := by
  decide +kernel

theorem test_meets_LaneCheckGivesItsVerdict :
    listens running0 = true ∧ 7 < (8 : Byte).toNat ∧ (ready.lane 0).state ≠ .running ∧
      (running0.lane 0).state = .running ∧ (running0.lane 0).slot = none ∧
      ((reading .check emptyCell).lane 0).slot = some .check ∧
      (hear true (idealReply (codeBits 0xFFFFFFFF) 0 50000 3000 128)).amplitude = 128 ∧
      (hear true (idealReply (codeBits 0xFFFFFFFF) 0 50000 3000 192)).amplitude = 192 ∧
      (hear true (idealReply (codeBits 0xFFFFFFFF) 0 50000 3000 193)).amplitude = 193 := by
  decide +kernel

/-- A RUNNING lane whose listed cell 0/0 still wants its CONFIRM, the scan waiting. -/
def confirming (fairness : Nat) (state : CellState) : State :=
  (laned fun u => { u with state := .running, confirms := [0], waiting := true, fairness := fairness }).setCell cell00
    { emptyCell with state := state }

theorem test_meets_ArbiterGrantsInOrder :
    ((confirming 0 .arriving).lane 0).state = .running ∧ ((confirming 0 .arriving).lane 0).slot = none ∧
      ((confirming 0 .arriving).lane 0).parkWaiting = false ∧ ((confirming 0 .arriving).lane 0).checkPending = false ∧
      ((confirming 1 .arriving).lane 0).fairness < 2 ∧ ((confirming 1 .arriving).lane 0).confirms = 0 :: [] ∧
      ((confirming 1 .arriving).cell ⟨0, 0⟩).state = .arriving ∧ ((confirming 0 .seated).cell ⟨0, 0⟩).state = .seated ∧
      2 ≤ ((confirming 2 .arriving).lane 0).fairness ∧ ((confirming 2 .arriving).lane 0).waiting = true ∧
      ((confirming 2 .arriving).lane 0).mode = .normal ∧ (confirming 2 .arriving).readable 0 0 = true ∧
      (0 : Slot) = ((confirming 2 .arriving).lane 0).pointer + 0 ∧ (∀ j : Slot, ¬j < 0) ∧ (ready.lane 0).state ≠ .running ∧
      ((laned fun u => { u with state := .running, checkPending := true }).lane 0).checkPending = true ∧
      ((laned fun u => { u with state := .running, stale := true }).lane 0).stale = true ∧
      (running0.lane 0).confirms = [] ∧ (running0.lane 0).stale = false ∧ (running0.lane 0).waiting = false := by
  decide +kernel

/-- A sweep that waits at slot 3: the next readable cell after it is slot 4, and after slot 11 there is none. -/
theorem test_meets_ArbiterGrantsInOrder_sweeps :
    let sweeping (from_ : Slot) (fairness : Nat) : State := laned fun u =>
      { u with state := .running, mode := .sweep, waiting := true, sweep := some from_, fairness := fairness }
    ((sweeping 3 0).lane 0).mode = .sweep ∧ ((sweeping 3 0).lane 0).waiting = true ∧
      ((sweeping 3 0).lane 0).confirms = [] ∧ ((sweeping 3 0).lane 0).stale = false ∧
      ((sweeping 3 0).lane 0).fairness < 2 ∧ 2 ≤ ((sweeping 3 2).lane 0).fairness ∧
      ((sweeping 3 0).lane 0).sweep = some 3 ∧ (sweeping 3 0).readable 0 3 = true ∧ (sweeping 3 0).readable 0 4 = true ∧
      (3 : Slot) < 4 ∧ (∀ j : Slot, 3 < j → ¬j < 4) ∧ ((sweeping 11 0).lane 0).sweep = some 11 ∧
      (∀ j : Slot, ¬11 < j) := by
  decide +kernel

theorem test_meets_LaneTimersAndLampSlots :
    let s := laned fun u => { u with state := .running, pace := some 800, slot := some (.lamp (Table.full 12 .dim)) }
    let v := laned fun u => { u with state := .running, mode := .sweep, sweepTimer := some 250, slot := some (.sense 3) }
    s.chip = .running ∧ (s.lane 0).state = .running ∧ (s.lane 0).mode = .normal ∧ (s.lane 0).pace.isSome = true ∧
      (s.lane 0).slot.isSome = true ∧ s.allRetired 0 = false ∧ (s.lane 0).slot = some (.lamp (Table.full 12 .dim)) ∧
      (v.lane 0).sweepTimer.isSome = true ∧ (v.lane 0).slot.isSome = true ∧ (v.lane 0).waiting = false ∧
      v.allRetired 0 = false ∧
      ((v.setLane 0 { v.lane 0 with waiting := true, sweep := some 4 }).lane 0).waiting = true := by
  decide +kernel

/-! #### The Cell Tracker -/

def guarded (s : State) (g : Guard) : State := { s with lamps := { s.lamps with guard := g } }

theorem test_meets_GuardGateDiscardsOutcomes :
    (guarded (reading (.sense 0) emptyCell) .holding).chip = .running ∧
      (guarded (reading (.sense 0) emptyCell) .holding).lamps.guard = .holding ∧
      (guarded (reading (.sense 0) emptyCell) .settling).lamps.guard = .settling ∧
      (guarded (reading (.sense 0) emptyCell) .holding).readInFlight 0 = some (cell00, .sense) ∧
      ready.watch.cell ≠ some cell00 ∧
      ({ ready with watch := { ready.watch with cell := some cell00 } } : State).watch.cell = some cell00 ∧
      ready.watch.trace.length < 16 := by
  decide +kernel

/-- An unguarded outcome of the watched cell, its trace one entry short of full and full. -/
theorem test_meets_GuardGateDiscardsOutcomes_trace :
    let entry : TraceEntry :=
      { slotKind := .sense, outcome := .absent, amplitude := 0, threshold := 24, guarded := false, serial := none
        clock := 0 }
    let watching (k : Nat) : State :=
      { reading (.sense 0) emptyCell with
        watch := { cell := some cell00, trace := List.replicate k entry, overrun := false } }
    (watching 15).chip = .running ∧ (watching 15).readInFlight 0 = some (cell00, .sense) ∧
      (watching 15).lamps.guard = .clear ∧ (watching 15).watch.trace.length < 16 ∧
      16 ≤ (watching 16).watch.trace.length ∧ (watching 15).watch.cell = some cell00 := by
  decide +kernel

/-- Cell 0/0 with `tile5` seated and a score. -/
def seatedCell (state : CellState) (score : Nat) : CellRec :=
  { emptyCell with state := state, incumbent := some seated5, lift := if state = .lifting then 1 else 0, score := score }

/-- Cell 0/0 with `tile5` as candidate. -/
def candCell (state : CellState) (arrive : Nat) : CellRec :=
  { emptyCell with state := state, candidate := some { tile := tile5, arrive := arrive } }

/-- What the reads below have in common. -/
theorem reading_open (k : SlotInFlight) (r : CellRec) :
    (reading k r).chip = .running ∧ (reading k r).rest.part ≠ .resting ∧ (reading k r).lamps.guard = .clear :=
  ⟨rfl, by show PartState.ready ≠ .resting; decide, rfl⟩

theorem marks5_heard :
    (hear false marks5).kind = .decoded code5 ∧ (hear false marks5).pad = some 0 ∧ (hear false marks5).amplitude = 100 ∧
      (hear false weak5).kind = .decoded code5 ∧ (hear false weak5).amplitude = 10 ∧ (hear false []).kind = .absent ∧
      (hear false marks6).kind = .decoded { code5 with serial := 6 } ∧ (hear false marks6).amplitude = 100 := by
  decide +kernel

theorem test_meets_ReadsStepTheirCell :
    (reading (.sense 0) emptyCell).readInFlight 0 = some (cell00, .sense) ∧
      (reading (.confirm 0) (seatedCell .seated 9)).readInFlight 0 = some (cell00, .confirm) ∧
      max (Table.read ready.sensing.floors 0) (emptyCell.peak / 2) = 24 ∧ 2 ≤ ready.sensing.arriveN ∧
      ((reading (.sense 0) emptyCell).cell cell00).state = .vacant ∧
      ((reading (.sense 0) (seatedCell .seated 9)).cell cell00).state = .seated ∧
      (seatedCell .seated 9).incumbent = some seated5 ∧ 2 ≤ ready.sensing.liftN ∧ tile5 = seated5.tile ∧
      tile6 ≠ seated5.tile ∧ (seatedCell .lifting 9).lift + 1 < ready.sensing.liftN ∧ min 15 (9 + 2) < 12 := by
  decide +kernel

theorem test_meets_CompletedArrivalSeatsTheTile :
    (reading (.sense 0) (candCell .arriving 2)).readInFlight 0 = some (cell00, .sense) ∧
      ((reading (.sense 0) (candCell .arriving 2)).cell cell00).state = .arriving ∧
      ready.sensing.arriveN ≤ 2 + 1 ∧ 24 ≤ (hear false marks5).amplitude ∧
      (candCell .arriving 2).candidate = some { tile := tile5, arrive := 2 } ∧
      (∀ d ∈ allCells, d ≠ cell00 → ((reading (.sense 0) (candCell .arriving 2)).cell d).holds 5 = false) ∧
      (((reading (.sense 0) (candCell .arriving 2)).setCell ⟨0, 1⟩ (seatedCell .seated 0)).cell ⟨0, 1⟩).holds 5 = true ∧
      ready.position cell00 = none ∧ (placed.position cell00).isSome = true ∧ (turns 0 1).play.turns = true ∧
      (turns 0 1).play.movesPerTurn = 0 := by
  decide +kernel

/-- The first holder of the serial: cell 0/1, with the arriving cell before it. -/
theorem test_meets_CompletedArrivalSeatsTheTile_twin :
    (∀ e ∈ allCells, e ≠ cell00 → e.lane < 0 ∨ e.lane = 0 ∧ e.slot < 1 →
        ((reading (.sense 0) (candCell .arriving 2)).cell e).holds 5 = false) ∧
      afterwards (.readSlotEnd 0 marks5) ((reading (.sense 0) (candCell .arriving 2)).setCell ⟨0, 1⟩ (seatedCell .seated 0))
        (fun t => decide (t.notices.queue.map (·.body) = [.twin ⟨cell00, none⟩ 5 ⟨0, 1⟩])) = true := by
  decide +kernel

/-- Cell 0/0 with `tile5`, one ABSENT read short of a lift. -/
def lifting3 : CellRec := { seatedCell .lifting 0 with lift := 3 }

theorem test_meets_CompletedLiftEmptiesTheCell :
    (reading (.sense 0) lifting3).readInFlight 0 = some (cell00, .sense) ∧ (hear false []).kind = .absent ∧
      ((reading (.sense 0) lifting3).cell cell00).state = .lifting ∧ lifting3.incumbent = some seated5 ∧
      ready.sensing.liftN ≤ lifting3.lift + 1 ∧
      (∀ d ∈ allCells, ((reading (.sense 0) lifting3).cell d).state ≠ .twin) ∧
      (((reading (.sense 0) lifting3).setCell ⟨0, 1⟩ (candCell .twin 3)).cell ⟨0, 1⟩).state = .twin ∧
      (candCell .twin 3).candidate = some { tile := seated5.tile, arrive := 3 } := by
  decide +kernel

/-- SHIFTING on cell 0/0 from `inc` to `tile5`. -/
def shifting (inc : TileRead) (arrive : Nat) : CellRec :=
  { candCell .shifting arrive with incumbent := some { seated5 with tile := inc } }

theorem test_meets_ShiftsTwinsAndSuspects :
    (reading (.sense 0) (candCell .arriving 1)).readInFlight 0 = some (cell00, .sense) ∧
      1 + 1 < ready.sensing.arriveN ∧ ready.sensing.arriveN ≤ 2 + 1 ∧ (candCell .arriving 1).absent = 0 ∧
      1 ≤ ({ candCell .arriving 1 with absent := 1 } : CellRec).absent ∧
      ((reading (.sense 0) (shifting tile6 2)).cell cell00).state = .shifting ∧
      (shifting tile6 2).candidate = some { tile := tile5, arrive := 2 } ∧ tile6 ≠ tile5 ∧
      ({ tile5 with pad := 1 } : TileRead).serial = tile5.serial ∧ tile5.serial ≠ tile6.serial ∧
      (∀ d ∈ allCells, d ≠ cell00 → ((reading (.sense 0) (shifting tile6 2)).cell d).holds tile5.serial = false) ∧
      (∀ d ∈ allCells, ((reading (.sense 0) (shifting tile6 2)).cell d).state ≠ .twin) ∧
      (candCell .twin 3).state = .twin ∧ (candCell .twin 3).lift + 1 < ready.sensing.liftN ∧
      ready.sensing.liftN ≤ ({ candCell .twin 3 with lift := 3 } : CellRec).lift + 1 ∧ 12 ≤ min 15 (10 + 2) ∧
      (seatedCell .seated 10).entries < 2 ∧ 2 ≤ ({ seatedCell .seated 10 with entries := 2 } : CellRec).entries ∧
      (seatedCell .suspect 6).state = .suspect ∧ 4 < 6 - 1 ∧ 5 - 1 ≤ 4 ∧ emptyCell.incumbent = none ∧
      (seatedCell .held 0).state = .held := by
  decide +kernel

/-- The part with arrive_n and lift_n at 1. -/
def eager (s : State) : State := { s with sensing := { s.sensing with arriveN := 1, liftN := 1 } }

/-- A reading state in which cell 0/1 holds `tile5`. -/
def heldNextDoor (k : SlotInFlight) (r : CellRec) : State := (reading k r).setCell ⟨0, 1⟩ (seatedCell .seated 0)

/-- Its clauses on faulty reads, other tiles and SUSPECT cells: states of each, `weak5` being faulty, with scores to either side of 12. -/
theorem test_meets_ShiftsTwinsAndSuspects_reads :
    (candCell .arriving 1).incumbent = none ∧ (shifting tile6 1).incumbent = some { seated5 with tile := tile6 } ∧
      (candCell .twin 3).incumbent = none ∧ min 15 (9 + 2) < 12 ∧ 12 ≤ min 15 (10 + 2) ∧
      (candCell .twin 3).entries < 2 ∧ 2 ≤ ({ candCell .arriving 1 with entries := 2 } : CellRec).entries ∧
      (∀ d ∈ allCells, d ≠ cell00 → ((reading (.sense 0) (candCell .twin 3)).cell d).state ≠ .twin) ∧
      2 ≤ ready.sensing.arriveN ∧ 2 ≤ ready.sensing.liftN ∧ tile6 ≠ tile5 ∧
      (shifting { tile5 with serial := 7 } 1).incumbent ≠ some { seated5 with tile := tile6 } ∧
      (seatedCell .lifting 0).incumbent = some seated5 ∧ (seatedCell .suspect 6).incumbent = some seated5 ∧
      (seatedCell .suspect 6).lift + 1 < ready.sensing.liftN ∧
      ready.sensing.liftN ≤ ({ seatedCell .suspect 6 with lift := 3 } : CellRec).lift + 1 := by
  decide +kernel

/-- Its clauses at arrive_n and lift_n 1, and where another cell holds the tile. -/
theorem test_meets_ShiftsTwinsAndSuspects_completions :
    (eager (reading (.sense 0) emptyCell)).sensing.arriveN ≤ 1 ∧
      (eager (reading (.sense 0) emptyCell)).sensing.liftN ≤ 1 ∧
      ((eager (reading (.sense 0) emptyCell)).cell cell00).state = .vacant ∧
      ((eager (reading (.sense 0) (candCell .twin 3))).cell cell00).state = .twin ∧
      ((eager (reading (.sense 0) (shifting tile6 1))).cell cell00).state = .shifting ∧
      (∀ d ∈ allCells, d ≠ cell00 → ((eager (reading (.sense 0) emptyCell)).cell d).holds 5 = false) ∧
      (∀ d ∈ allCells, d ≠ cell00 → ((eager (reading (.sense 0) emptyCell)).cell d).state ≠ .twin) ∧
      ((heldNextDoor (.sense 0) (shifting tile6 2)).cell ⟨0, 1⟩).holds 5 = true ∧ (⟨0, 1⟩ : CellId) ≠ cell00 ∧
      (∀ e ∈ allCells, e ≠ cell00 → e.lane < 0 ∨ e.lane = 0 ∧ e.slot < 1 →
        ((heldNextDoor (.sense 0) (shifting tile6 2)).cell e).holds 5 = false) ∧
      (shifting tile6 2).candidate = some { tile := tile5, arrive := 2 } ∧ ready.sensing.arriveN ≤ 2 + 1 ∧
      tile5.serial ≠ tile6.serial ∧ ({ tile5 with pad := 1 } : TileRead) ≠ tile5 ∧
      ({ tile5 with pad := 1 } : TileRead).serial = tile5.serial := by
  decide +kernel

/-! #### Twins that are promoted -/

/-- Cell 1/0 a TWIN of `tile5`, which cell 0/0 alone may hold. -/
def twinAway (s : State) : State := s.setCell ⟨1, 0⟩ (candCell .twin 3)

/-- Where no cell but 0/0 has an incumbent, serials are unique. -/
theorem unique_at_cell00 {s : State} (h : ∀ c ∈ allCells, (s.cell c).incumbent = none ∨ c = cell00) : s.serialsUnique := by
  have only (c : CellId) (x : Serial) (hc : (s.cell c).holds x = true) : c = cell00 :=
    (h c (mem_allCells c)).resolve_left fun e => by simp [CellRec.holds, e] at hc
  intro c d x hc hd
  rw [only c x hc, only d x hd]

/-- Lane 0 HELD on cell 0/0 with a twin elsewhere: the first TWIN cell is cell 1/0, and the HELD tile its serial. -/
theorem held_twin :
    (twinAway (ready.setCell cell00 (seatedCell .held 0))).serialsUnique ∧
      heldTiles (twinAway (ready.setCell cell00 (seatedCell .held 0))).cell 0 = [seated5] ∧
      (twinAway (ready.setCell cell00 (seatedCell .held 0))).firstTwin 5 = some (⟨1, 0⟩, tile5) ∧
      (twinAway ready).firstTwin 6 = none :=
  ⟨unique_at_cell00 (by decide +kernel), by decide +kernel, by decide +kernel, by decide +kernel⟩

theorem test_meets_HoldTimerExpiryClearsTheLane_promotion :
    ((twinAway ((linking .lost).setCell cell00 (seatedCell .held 0))).lane 0).hold.isSome = true ∧
      ((linking .lost).lane 0).lawful ∧
      (twinAway ((linking .lost).setCell cell00 (seatedCell .held 0))).serialsUnique ∧
      (twinAway ((linking .lost).setCell cell00 (seatedCell .held 0))).movesFreely ∧
      (turns 0 2).movesFreely ∧ ¬(turns 2 2).movesFreely :=
  ⟨by decide +kernel, linking_lawful _, unique_at_cell00 (by decide +kernel), Or.inl rfl, Or.inr rfl,
    by simp [State.movesFreely, turns]⟩

theorem test_meets_RunLaneLinksOrWaits_promotion :
    let s := noHold (twinAway ((laned fun u => { u with state := .parked }).setCell cell00 (seatedCell .held 0)))
    listens s = true ∧ (s.lane 0).state = .parked ∧ (s.lane 0).connector = false ∧ s.sensing.hold = 0 ∧
      s.serialsUnique ∧ s.movesFreely :=
  ⟨by decide +kernel, by decide +kernel, by decide +kernel, rfl, unique_at_cell00 (by decide +kernel), Or.inl rfl⟩

/-- A RUNNING lane whose SEATED tile becomes HELD and is cleared at once, and a LINKING one from LOST with no hold timer. -/
theorem test_meets_ConnectorLostByLaneState_promotion :
    let s := noHold (twinAway (running0.setCell cell00 (seatedCell .seated 0)))
    let v := noHold (twinAway ((laned fun u => { u with state := .linking, returnState := some .lost }).setCell cell00
      (seatedCell .held 0)))
    s.chip = .running ∧ s.rest.part ≠ .resting ∧ (s.lane 0).state = .running ∧ (s.lane 0).checkPending = false ∧
      (s.lane 0).parkWaiting = false ∧ s.sensing.hold = 0 ∧ s.serialsUnique ∧ s.movesFreely ∧
      (v.lane 0).state = .linking ∧ (v.lane 0).returnState = some .lost ∧ (v.lane 0).hold = none ∧
      (v.lane 0).slot = none ∧ v.serialsUnique :=
  ⟨rfl, by decide +kernel, by decide +kernel, by decide +kernel, by decide +kernel, rfl,
    unique_at_cell00 (by decide +kernel), Or.inl rfl, by decide +kernel, by decide +kernel, by decide +kernel,
    by decide +kernel, unique_at_cell00 (by decide +kernel)⟩

/-- A read whose cell loses a tile that has a twin: by a SWAP, by a LIFT, and by a retirement. -/
theorem test_meets_ShiftsTwinsAndSuspects_promotion :
    ((shifting tile6 2).incumbent.bind fun i =>
        (twinAway (reading (.sense 0) (shifting tile6 2))).firstTwin i.tile.serial) = none ∧
      ((shifting tile6 2).incumbent.bind fun i =>
        ((reading (.sense 0) (shifting tile6 2)).setCell ⟨1, 0⟩
          { candCell .twin 3 with candidate := some { tile := tile6, arrive := 3 } }).firstTwin i.tile.serial) =
        some (⟨1, 0⟩, tile6) ∧
      ((seatedCell .seated 10).incumbent.bind fun i =>
        (twinAway (reading (.sense 0) (seatedCell .seated 10))).firstTwin i.tile.serial) = some (⟨1, 0⟩, tile5) ∧
      ((seatedCell .suspect 6).incumbent.bind fun i =>
        (twinAway (reading (.sense 0) (seatedCell .suspect 6))).firstTwin i.tile.serial) = some (⟨1, 0⟩, tile5) ∧
      (twinAway (reading (.sense 0) (shifting tile6 2))).movesFreely :=
  ⟨by decide +kernel, by decide +kernel, by decide +kernel, by decide +kernel, Or.inl rfl⟩

theorem test_meets_CompletedLiftEmptiesTheCell_promotion :
    (twinAway (reading (.sense 0) lifting3)).firstTwin 5 = some (⟨1, 0⟩, tile5) ∧
      (twinAway (reading (.sense 0) lifting3)).movesFreely ∧
      (twinAway (reading (.sense 0) lifting3)).position ⟨1, 0⟩ = none :=
  ⟨by decide +kernel, Or.inl rfl, by decide +kernel⟩

theorem test_meets_RetireAndReinstateCells_promotion :
    let s := twinAway (ready.setCell cell00 (seatedCell .seated 0))
    listens s = true ∧ (s.cell cell00).incumbent = some seated5 ∧ (s.cell cell00).state = .seated ∧
      s.firstTwin 5 = some (⟨1, 0⟩, tile5) ∧ (s.cell ⟨1, 0⟩).state = .twin ∧ (s.cell ⟨1, 0⟩).incumbent = none ∧
      (s.cell ⟨1, 0⟩).candidate = some { tile := tile5, arrive := 3 } ∧ s.movesFreely :=
  ⟨by decide +kernel, by decide +kernel, by decide +kernel, by decide +kernel, by decide +kernel, by decide +kernel,
    by decide +kernel, Or.inl rfl⟩

/-! #### What a lane hears -/

theorem test_meets_TagRepliesAreHeard :
    0 < (5555 : Nat) ∧ (300000 : Nat) ≤ 300000 ∧ 300000 + 36 * (4 * 5555) ≤ 1100000 ∧ (255 : Nat) ≤ 255 ∧
      (5 : BitVec 32).extractLsb' 0 20 ≠ 0 ∧ (5 : BitVec 32).extractLsb' 0 20 ≠ (0xFFFFF : BitVec 20) ∧
      (0xFFFFF : BitVec 32).extractLsb' 0 20 = (0xFFFFF : BitVec 20) := by
  decide +kernel

/-- Its clauses on replies that fail: a symbol that fails after one that does not, no mark in the window, a violation and a silence after the first mark and before the last, a silence that ends just before and just at 1,100 us, and a reply that would end just after. -/
theorem test_meets_TagRepliesAreHeard_failing :
    let bits := (codeBits 5).set 17 true
    bits.length = 36 ∧ ((bits.drop (9 * 0)).take 9).count true % 2 = 1 ∧
      ((bits.drop (9 * 1)).take 9).count true % 2 = 1 ∧
      (∀ m ∈ [mark 300001 9], 300000 < m.start) ∧ 4 * 25000 ≤ (100000 : Nat) ∧ 1 ≤ (1 : Nat) ∧ (35 : Nat) < 36 ∧
      (mark (50000 + 4 * 3000) 9).start = 50000 + (1 - 1) * (4 * 3000) + 4 * 3000 ∧
      (mark 0 9).positive = decide (1 % 2 = 1) ∧
      299999 + 34 * (4 * 5442) + 5442 + 8 * 5442 < (1100000 : Nat) + 1 ∧
      300000 + 34 * (4 * 5518) + 5518 + 8 * 5518 ≥ (1100000 : Nat) ∧ (300000 + 34 * (4 * 5518) : Nat) ≤ 1100000 ∧
      1100000 < 299999 + 36 * (4 * (5556 : Nat)) := by
  decide +kernel

/-- A mark on another pad that starts after the first. -/
theorem test_meets_TagRepliesAreHeard_pads :
    let marks := [mark 100 9, { mark 100 9 with pad := 2 }]
    mark 100 9 ∈ marks ∧ (mark 100 9).start ≤ 300000 ∧
      ∀ m ∈ marks, m.pad ≠ (mark 100 9).pad →
        (mark 100 9).start < m.start ∨ (mark 100 9).start = m.start ∧ (mark 100 9).pad < m.pad := by
  decide +kernel

theorem test_meets_RetireAndReinstateCells :
    listens ready = true ∧ 7 < (8 : Byte).toNat ∧ 11 < (12 : Byte).toNat ∧
      ((ready.setCell cell00 { emptyCell with state := .retired }).cell cell00).state = .retired ∧
      (ready.cell cell00).state ≠ .retired ∧ (ready.cell cell00).incumbent = none ∧ (ready.cell cell00).state ≠ .twin ∧
      ((ready.setCell cell00 (seatedCell .seated 0)).cell cell00).incumbent = some seated5 ∧
      (∀ d ∈ allCells, ((ready.setCell cell00 (seatedCell .seated 0)).cell d).state ≠ .twin) := by
  decide +kernel

theorem test_meets_SensingWatchAndFirstFault :
    listens ready = true ∧ 8 < (9 : Byte).toNat ∧ (8 : Byte).toNat ≤ 8 ∧ 7 < (8 : Byte).toNat ∧ (8 : Byte) ≠ 0xFF ∧
      (7 : Byte).toNat ≤ 7 ∧ 11 < (12 : Byte).toNat := by
  decide +kernel

def enrolled : State := { ready with roster := { ready.roster with entries := [{ serial := 5, owner := 1, banned := false }] } }

/-- A roster of 192 entries. -/
def fullRoster : Roster :=
  { ready.roster with
    entries := (List.range 192).map fun k => { serial := BitVec.ofNat 20 (k + 1), owner := 0, banned := false } }

theorem test_meets_RosterRequestsRejudgeIncumbents :
    listens enrolled = true ∧ enrolled.roster.lawful ∧ 1048575 ≤ (1048575 : BitVec 24).toNat ∧ 4 < (5 : Byte).toNat ∧
      1 < (2 : Byte).toNat ∧ (0xFFFFE : Serial) ≠ 0 ∧ (0xFFFFE : Serial) ≠ 0xFFFFF ∧
      (enrolled.roster.find 0xFFFFE).isSome = false ∧ (enrolled.roster.find 5).isSome = true ∧
      enrolled.roster.entries.length < 192 ∧ fullRoster.lawful ∧ 192 ≤ fullRoster.entries.length ∧
      (fullRoster.find 0xFFFFE).isSome = false ∧ enrolled.roster.find 6 = none ∧
      enrolled.roster.find 5 = some { serial := 5, owner := 1, banned := false } :=
  ⟨by decide +kernel, ⟨by decide, by decide⟩, by decide, by decide, by decide, by decide, by decide, by decide +kernel,
    by decide +kernel, by decide, ⟨by decide +kernel, by decide +kernel⟩, by decide +kernel, by decide +kernel,
    by decide +kernel, by decide +kernel⟩

/-! #### Patterns and quests -/

/-- A pattern of one tile piece, FREE and FIXED. -/
def onePiece : Pattern :=
  { rotation := .fixed, anchor := none, pieces := [{ dx := 0, dy := 0, test := .tile .anyTile, facing := none, side := none }] }

def pieceBytes : PieceBytes := { dx := 0, dy := 0, kindTest := 0x80, facing := 0xFF, side := 0 }

/-- An EMPTY piece as anchor piece, which no definition may have. -/
def emptyAnchor : Pattern := { onePiece with pieces := [{ dx := 0, dy := 0, test := .empty, facing := none, side := none }] }

/-- Pattern 0 defined. -/
def patterned : State := { ready with patterns := Table.put ready.patterns 0 (some onePiece) }

/-- A FORM stage on pattern 0, without limit. -/
def formStage : Stage :=
  { test := .form 0 1, filter := .any, reward := 40, limit := 0, hint := none, cue := none }

/-- A HOLD stage on pattern 0, of 2 ticks, with limit, hint and cue. -/
def holdStage : Stage :=
  { test := .hold 0 1 2, filter := .any, reward := 40, limit := 480
    hint := some { x0 := 0, y0 := 0, x1 := 3, y1 := 3 }, cue := some 5 }

/-- Quest 0 with two stages in a state. -/
def questAs (state : QuestState) : Quest :=
  { state := state, owner := 1, stages := [holdStage, formStage], progress := Progress.fresh }

def playing (state : QuestState) : State := { patterned with quests := (quested (questAs state)).quests }

theorem test_meets_DefinePatternChecksThenReplaces :
    listens ready = true ∧ 31 < (32 : Byte).toNat ∧ 6 < (7 : Byte).toNat ∧ 2 < (3 : Byte).toNat ∧ 1 < (2 : Byte).toNat ∧
      15 < (16 : Byte).toNat ∧ 1 ≤ (1 : Byte).toNat ∧ (6 : Byte).toNat ≤ 6 ∧ onePiece.rotation.code = 0 ∧
      onePiece.anchor = none ∧ ((Table.full 6 pieceBytes).toList.take 1).map pieceOf = onePiece.pieces.map some ∧
      pieceOf { pieceBytes with side := 3 } = none ∧
      ([{ pieceBytes with side := 3 }] : List PieceBytes)[0]? = some { pieceBytes with side := 3 } ∧
      onePiece.inconsistency = none ∧ emptyAnchor.inconsistency.isSome = true ∧ ready.usedBy 0 = none ∧
      (playing .running).usedBy 0 = some 0 ∧
      onePiece.pieces = { dx := 0, dy := 0, test := .tile .anyTile, facing := none, side := none } :: [] := by
  decide +kernel

/-- A pattern with these pieces. -/
def piecesOf (rotation : Rotation) (pieces : List Piece) : Pattern := { onePiece with rotation := rotation, pieces := pieces }

/-- A tile piece at an offset. -/
def anyAt (dx dy : Int) : Piece := { dx := dx, dy := dy, test := .tile .anyTile, facing := none, side := none }

/-- R77's faults, each alone, and the two of one later piece together (assumption 20). -/
theorem test_meets_DefinePatternChecksThenReplaces_faults :
    ((piecesOf .fixed [anyAt 1 0]).inconsistency.map fun f => (f.1.code, f.2)) = some (2, 0) ∧
      (emptyAnchor.inconsistency.map fun f => (f.1.code, f.2)) = some (3, 0) ∧
      ((piecesOf .turning [{ anyAt 0 0 with facing := some 1 }]).inconsistency.map fun f => (f.1.code, f.2)) = some (4, 0) ∧
      ((piecesOf .fixed [anyAt 0 0, { anyAt 1 0 with test := .empty, side := some .a }]).inconsistency.map fun f =>
        (f.1.code, f.2)) = some (5, 1) ∧
      ((piecesOf .fixed [anyAt 0 0, anyAt 1 0, anyAt 1 0]).inconsistency.map fun f => (f.1.code, f.2)) = some (6, 2) ∧
      ((piecesOf .fixed [anyAt 0 0, { anyAt 0 0 with test := .empty, facing := some 0 }]).inconsistency.map fun f =>
        (f.1.code, f.2)) = some (5, 1) ∧
      (piecesOf .turning [{ anyAt 0 0 with facing := some 0 }]).inconsistency = none := by
  decide +kernel

/-- Piece bytes at the edges of their ranges, and one past each. -/
theorem test_meets_DefinePatternChecksThenReplaces_piece :
    (pieceOf { dx := 0xF9, dy := 7, kindTest := 63, facing := 3, side := 2 } =
        some { dx := -7, dy := 7, test := .tile (.exact 63), facing := some 3, side := some .b }) ∧
      (pieceOf { dx := 0, dy := 0, kindTest := 71, facing := 0xFF, side := 1 } =
        some { dx := 0, dy := 0, test := .tile (.family 7), facing := none, side := some .a }) ∧
      pieceOf { pieceBytes with dx := 0xF8 } = none ∧ pieceOf { pieceBytes with dy := 8 } = none ∧
      pieceOf { pieceBytes with kindTest := 72 } = none ∧ pieceOf { pieceBytes with facing := 4 } = none := by
  decide +kernel

theorem test_meets_ErasePatternEmptiesTheRecord :
    listens (playing .running) = true ∧ 31 < (32 : Byte).toNat ∧ ((playing .running).quest 0).state = .running ∧
      holdStage ∈ ((playing .running).quest 0).stages ∧ holdStage.test = .hold 0 1 2 ∧ (∀ k : QuestId, ¬k < 0) ∧
      (∀ k, (ready.quest k).state ≠ .running ∧ (ready.quest k).state ≠ .paused) := by
  decide +kernel

theorem test_meets_MatchingAnchors :
    (onePiece.pieces.map (·.test)) = [.tile .anyTile] ∧ (emptyAnchor.pieces.map (·.test)) = [.empty] ∧
      ((⟨0, 0⟩, cell00, 0) ∈ onePiece.anchors (placed.setCell cell00 (seatedCell .seated 0)).view .any) := by
  decide +kernel

/-- R81: uncovered, RETIRED, vacant with a candidate, and occupied while HELD. -/
theorem test_meets_MatchingAnchors_view :
    placed.covering ⟨15, 15⟩ = none ∧ placed.covering ⟨0, 0⟩ = some cell00 ∧
      (placed.setCell cell00 { emptyCell with state := .retired }).view.look ⟨0, 0⟩ = none ∧
      (placed.setCell cell00 (candCell .arriving 2)).view.look ⟨0, 0⟩ = some (cell00, none) ∧
      (placed.setCell cell00 (seatedCell .held 0)).view.look ⟨0, 0⟩ =
        some (cell00, some { kind := 0, side := .a, facing := 0, counting := true, owner := 0, placedBy := 0 }) := by
  decide +kernel

def stageBytes : StageBytes :=
  { kind := 0, pattern := 0, kindTest := 0, m := 1, d := 0, filter := 0, reward := 40, limit := 0, x0 := 0xFF, y0 := 0
    x1 := 0, y1 := 0, cue := 0xFF }

theorem test_meets_DefineAndEraseQuests :
    listens ready = true ∧ 23 < (24 : Byte).toNat ∧ 4 < (5 : Byte).toNat ∧ 1 ≤ (1 : Byte).toNat ∧ (4 : Byte).toNat ≤ 4 ∧
      ((Table.full 4 stageBytes).toList.take 1).map (readStage 1) = [formStage].map .ok ∧
      ([{ stageBytes with m := 9 }] : List StageBytes)[0]? = some { stageBytes with m := 9 } ∧
      readStage 1 { stageBytes with m := 9 } = .error .fieldRange ∧
      ((playing .running).quest 0).state = .running ∧ ((playing .paused).quest 0).state = .paused ∧
      ((playing .dormant).quest 0).state ≠ .running ∧ ((playing .dormant).quest 0).state ≠ .paused := by
  decide +kernel

theorem test_meets_StartQuestRunsADormantQuest :
    listens (playing .dormant) = true ∧ 23 < (24 : Byte).toNat ∧ ((playing .running).quest 0).state ≠ .dormant ∧
      ((playing .dormant).quest 0).state = .dormant ∧ Table.read (playing .dormant).patterns 0 = some onePiece ∧
      ((playing .dormant).quest 0).stages = holdStage :: [formStage] ∧
      Table.read (quested (questAs .dormant)).patterns 0 = none ∧ (∀ k : Fin 32, ¬k < 0) ∧
      (∀ k : Fin 32, Table.read (playing .dormant).patterns k = none → k ≠ 0) := by
  decide +kernel

theorem test_meets_PauseAndResumeQuests :
    listens (playing .running) = true ∧ 23 < (24 : Byte).toNat ∧ ((playing .dormant).quest 0).state ≠ .running ∧
      ((playing .dormant).quest 0).state ≠ .paused ∧ ((playing .running).quest 0).state = .running ∧
      ((playing .paused).quest 0).state = .paused ∧
      ((playing .paused).quest 0).stages[((playing .paused).quest 0).progress.stage]? = some holdStage := by
  decide +kernel

theorem test_meets_AbandonAndSetProgress :
    listens (playing .running) = true ∧ 23 < (24 : Byte).toNat ∧ ((playing .dormant).quest 0).state ≠ .running ∧
      ((playing .running).quest 0).state = .running ∧ 3 < (4 : Byte).toNat ∧ 1500 < (1501 : BitVec 16).toNat ∧
      ((playing .dormant).quest 0).stages.length ≤ (2 : Byte).toNat ∧ (3 : Byte).toNat ≤ 3 ∧
      (1500 : BitVec 16).toNat ≤ 1500 ∧ (ready.quest 0).state = .empty ∧ ((playing .dormant).quest 0).state ≠ .empty ∧
      ((playing .dormant).quest 0).stages[(1 : Byte).toNat]? = some formStage ∧
      Table.read (quested (questAs .dormant)).patterns 0 = none ∧
      (∀ k : Fin 32, Table.read (playing .dormant).patterns k = none → k ≠ 0) := by
  decide +kernel

/-- A pass in flight over quest 0. -/
def passing (state : QuestState) : State :=
  let s := playing state
  { s with
    quests :=
      { s.quests with pass := some { epoch := 0, view := s.view, evaluated := [(0, 0)], patterns := s.patterns } } }

theorem test_meets_PassCommitAppliesItsResults :
    (passing .running).chip = .running ∧ (passing .running).quests.pass.isSome = true ∧
      ([(0, 0)] : List (QuestId × Nat)).map (·.1) = [0] ∧ ([0] : List QuestId).Nodup ∧
      ((passing .running).quest 0).stages[((passing .running).quest 0).progress.stage]? = some holdStage ∧
      ((passing .running).quest 0).progress.holdSince = none := by
  decide +kernel

/-- The other results: a met CLEAR stage, last of its quest and not, and a broken HOLD. -/
theorem test_meets_PassCommitAppliesItsResults_results :
    let clear : Stage := { formStage with test := .clear .anyTile 0 }
    let s := passing .running
    clear.holds 1 s.view s.patterns = true ∧ holdStage.holds 1 s.view s.patterns = false ∧
      formStage.holds 1 s.view s.patterns = false ∧ holdStage.hint.isSome = true ∧
      ({ questAs .running with stages := [clear] } : Quest).stages.length = 0 + 1 ∧
      ({ questAs .running with stages := [clear, holdStage] } : Quest).stages[0 + 1]? = some holdStage ∧
      ({ Progress.fresh with holdSince := some 0 } : Progress).holdSince.isSome = true ∧
      s.quests.passWanted = false := by
  decide +kernel

theorem test_meets_TimeBonus : 0 < (480 : Nat) ∧ (480 : Nat) ≤ 480 := by decide

/-- A RUNNING quest on its HOLD stage with the clock running at 2, held since 0, due at 2. -/
def holding (since : Option Nat) : State :=
  { playing .running with
    play := { ready.play with clockRunning := true, clock := 2 }
    quests :=
      (quested { questAs .running with progress := { Progress.fresh with holdSince := since, deadline := some 2 } }).quests }

theorem test_meets_TickDutiesAdvanceOrFail :
    (holding (some 0)).chip = .running ∧ (holding (some 0)).play.clockRunning = true ∧
      ((holding (some 0)).quest 0).state = .running ∧ ((holding (some 0)).quest 0).stages[0]? = some holdStage ∧
      ((holding (some 0)).quest 0).progress.stage = 0 ∧
      ((holding (some 0)).quest 0).progress.holdSince = some 0 ∧ 2 ≤ (holding (some 0)).play.clock - 0 ∧
      (passing .running).quests.pass.isSome = true ∧ (holding none).quests.pass = none ∧
      ((holding none).quest 0).progress.holdSince = none ∧ ((holding none).quest 0).progress.deadline = some 2 ∧
      2 ≤ (holding none).play.clock ∧ ((holding (some 0)).quest 0).stages[1]? = some formStage ∧
      ({ questAs .running with stages := [holdStage] } : Quest).stages.length = 0 + 1 ∧ ready.lamps.cues.length < 8 := by
  decide +kernel

/-! #### Lamps, cues and the guard -/

theorem placed_planLawful : placed.planLawful := test_meets_PositionsAndCoveringCellsAgree.1

theorem test_meets_SetLampsSetsTheRectangle :
    listens placed = true ∧ placed.planLawful ∧ 5 < (6 : Byte).toNat ∧ (0 : Byte).toNat < (1 : Byte).toNat ∧
      (255 : Byte).toNat ≤ (255 : Byte).toNat :=
  ⟨by decide +kernel, placed_planLawful, by decide, by decide, by decide⟩

def everywhere : Region := { x0 := 0, y0 := 0, x1 := 15, y1 := 15 }

theorem test_meets_LampDrives :
    (placed.cell cell00).state ≠ .retired ∧ placed.rest.part ≠ .resting ∧ resting.rest.part = .resting ∧
      placed.hostSetting cell00 = .free ∧ ready.position cell00 = none ∧ placed.position cell00 = some ⟨0, 0⟩ ∧
      (lit fun u => { u with host := Table.full 8 (Table.full 12 .dim) }).hostSetting cell00 ≠ .free ∧
      everywhere.covers ⟨0, 0⟩ = true ∧ (∀ k, Table.read placed.lamps.flashes k = none) ∧
      (∀ k, Table.read placed.lamps.hints k = none) := by
  decide +kernel

theorem test_meets_SetLoadLimitEvaluatesTheGuard :
    listens ready = true ∧ ready.lamps.guard = .clear ∧ (guarded ready .dimmed).lamps.guard = .dimmed ∧
      (guarded ready .holding).lamps.guard = .holding ∧ (guarded ready .settling).lamps.guard = .settling ∧
      ready.ln ≤ 16 - 8 ∧ ready.ld ≤ 16 - 8 := by
  decide +kernel

/-- Every lamp of two RUNNING lanes BRIGHT: a nominal load of 48. -/
def blazing (lanes : List Lane) : State :=
  lanes.foldl (fun s n => s.setLane n { s.lane n with state := .running })
    (lit fun u => { u with host := Table.full 8 (Table.full 12 .bright) })

theorem test_meets_guard_rows :
    (blazing [0]).ln = 24 ∧ (blazing [0]).ld = 12 ∧ (blazing [0, 1]).ln = 48 ∧ (blazing [0, 1]).ld = 24 ∧
      -- CLEAR: DIMMED at 16 on one lane, HOLDING at 16 on two
      16 < (blazing [0]).ln ∧ (blazing [0]).ld ≤ 16 ∧ 16 < (blazing [0, 1]).ld ∧
      -- DIMMED and HOLDING: CLEAR at 32, DIMMED at 31, HOLDING at 19, on one lane
      (blazing [0]).ln ≤ 32 - 8 ∧ 31 - 8 < (blazing [0]).ln ∧ (blazing [0]).ld ≤ 31 - 8 ∧ 19 - 8 < (blazing [0]).ld := by
  decide +kernel

def cued (cues : List (Fin 16)) (left : Option Nat) : State := lit fun u => { u with cues := cues, sounder := left }

theorem test_meets_CuesPlayInTurn :
    listens ready = true ∧ 15 < (16 : Byte).toNat ∧ 8 ≤ (cued (List.replicate 8 0) (some 1)).lamps.cues.length ∧
      (cued (List.replicate 7 0) (some 1)).lamps.cues.length < 8 ∧ ready.lamps.cues = [] ∧ ready.rest.delay ≠ 0 ∧
      (cued [0, 5] (some 1)).chip = .running ∧ (cued [0, 5] (some 1)).lamps.sounder = some 1 ∧
      (cued [0, 5] (some 1)).lamps.cues = 0 :: [5] ∧ (cued [0, 5] (some 1)).rest.activity ≠ .expired := by
  decide +kernel

theorem test_meets_TicksFlashesAndBlink :
    (lit fun u => { u with blinkCount := 1 }).lamps.blinkCount = 1 ∧
      Table.read (lit fun u => { u with flashes := Table.put u.flashes 0 (some { region := everywhere, left := 1 }) }).lamps.flashes 0 =
        some { region := everywhere, left := 1 } ∧
      ready.chip = .running ∧ ready.play.clockRunning = false ∧
      (played fun p => { p with clockRunning := true, clock := 16777215 }).play.clock = 16777215 ∧
      ready.rest.activity ≠ .expired ∧ (cued [5] (some 2)).lamps.sounder = some 2 ∧ (2 : Nat) ≤ 2 ∧
      ready.lamps.sounder = none := by
  decide +kernel

/-- Its tick duties: the hold that lasts its 2 ticks at this tick, the deadline that is reached at it, and neither. -/
theorem test_meets_TicksFlashesAndBlink_duties :
    let at1 (since : Option Nat) : State :=
      { holding since with play := { (holding since).play with clock := 1 } }
    (at1 (some 0)).chip = .running ∧ (at1 (some 0)).play.clockRunning = true ∧ (at1 (some 0)).play.clock + 1 = 2 ∧
      (at1 (some 0)).rest.activity ≠ .expired ∧ ((at1 (some 0)).quest 0).state = .running ∧
      ((at1 (some 0)).quest 0).stages[((at1 (some 0)).quest 0).progress.stage]? = some holdStage ∧
      ((at1 (some 0)).quest 0).progress.holdSince = some 0 ∧ 2 ≤ 2 - 0 ∧
      ((at1 none).quest 0).progress.deadline = some 2 ∧ ((at1 none).quest 1).state ≠ .running ∧
      (at1 none).quests.pass = none ∧
      ((passing .running).quests.pass.map (·.evaluated)) = some [(0, 0)] := by
  decide +kernel

/-! #### Rest, start-up and new games -/

theorem test_meets_SetRestAndRest :
    listens ready = true ∧ 1 < (2 : Byte).toNat ∧ ready.chip = .running ∧ ready.rest.part = .ready ∧
      ({ ready with rest := { ready.rest with activity := .running 1 } } : State).rest.activity = .running 1 ∧
      ready.lamps.sounder = none ∧ (cued [5] (some 1)).lamps.sounder.isSome = true ∧
      (cued [5] (some 1)).lamps.sounder = some 1 ∧ (cued [5] (some 1)).lamps.cues.length = 1 ∧
      ({ ready with rest := { ready.rest with activity := .expired } } : State).rest.activity = .expired ∧
      ready.notices.opened = true ∧ ready.notices.modes.play ≠ .off ∧ ready.notices.queue.length + 3 ≤ 32 := by
  decide +kernel

/-- `reading`, in RESTING. -/
def restingRead (r : CellRec) : State :=
  { reading (.sense 0) r with rest := { ready.rest with part := .resting } }

/-- A state, in RESTING. -/
def atRest (s : State) : State := { s with rest := { s.rest with part := .resting } }

theorem test_meets_WakesOfTheRestingPart :
    resting.chip = .running ∧ resting.link.ignoring = false ∧ resting.link.asm = .hunting ∧
      resting.rest.part = .resting ∧ (restingRead emptyCell).readInFlight 0 = some (cell00, .sense) ∧
      (restingRead emptyCell).lamps.guard = .clear ∧ ((restingRead emptyCell).cell cell00).state = .vacant ∧
      24 ≤ (hear false marks5).amplitude ∧ 2 ≤ (restingRead emptyCell).sensing.arriveN ∧
      ((restingRead emptyCell).lane 0).state = .running ∧ ((restingRead emptyCell).lane 0).checkPending = false ∧
      ((restingRead emptyCell).lane 0).parkWaiting = false ∧ (restingRead emptyCell).sensing.hold ≠ 0 ∧
      (∃ i : Slot, ((restingRead emptyCell).cell ⟨0, i⟩).state ≠ .retired) ∧
      ((atRest (linking .absent)).lane 0).state = .linking ∧
      ((atRest (linking .absent)).lane 0).returnState = some .absent ∧
      ((atRest (linking .lost)).lane 0).returnState = some .lost ∧
      ((atRest (linking .lost)).lane 0).hold.isSome = true ∧ (resting.lane 0).state = .absent ∧
      (hear false []).kind = .absent := by
  decide +kernel

/-- LINKING from LOST with no hold timer and a hold time of 0.0 s; a lane that is PARKED. -/
theorem test_meets_WakesOfTheRestingPart_edges :
    ((atRest (noHold ((linking .lost).setLane 0 { (linking .lost).lane 0 with hold := none }))).lane 0).hold = none ∧
      (atRest (noHold (linking .lost))).sensing.hold = 0 ∧
      ((atRest (laned fun u => { u with state := .parked })).lane 0).state = .parked := by
  decide +kernel

/-- R38 step 6: a weak read of a seated tile moves its score and wakes the part; a good one at score 0 does not. -/
theorem test_meets_WakesOfTheRestingPart_reads :
    afterwards (.readSlotEnd 0 weak5) (restingRead (seatedCell .seated 0))
        (fun t => decide ((t.cell cell00).score ≠ 0 ∧ t.rest.part = .ready)) = true ∧
      afterwards (.readSlotEnd 0 marks5) (restingRead (seatedCell .seated 0))
        (fun t => decide ((t.cell cell00).score = 0 ∧ t.rest.part = .resting)) = true := by
  decide +kernel

/-- R31: the wake abandons lane 0's sweep, and the scan waits for the cell that sweep would have read next. -/
theorem test_wake_abandons_the_sweep :
    afterwards (.receiveByte (.good 0xA5))
      (atRest (laned fun u => { u with state := .running, slot := some .check, checkPending := true, mode := .sweep, waiting := true, sweep := some 7 }))
      (fun t => decide ((t.lane 0).mode = .normal ∧ (t.lane 0).waiting = true ∧ (t.lane 0).pointer = 7 ∧ (t.lane 0).sweep = none)) =
      true := by
  decide +kernel

theorem test_meets_StartUpAndSettleEnd :
    State.reset.chip = .running ∧ State.reset.rest.part = .starting ∧ State.reset.rest.startUp.isSome = true ∧
      State.reset.notices = NoticeUnit.reset ∧ State.reset.lamps.guard = .settling ∧
      State.reset.lamps.settle.isSome = true ∧ State.reset.ld ≤ State.reset.lamps.limit - 8 ∧
      State.reset.ln ≤ State.reset.lamps.limit - 8 ∧ 16 - 8 < (blazing [0]).ld ∧ 31 - 8 < (blazing [0]).ln := by
  decide +kernel

theorem test_meets_NewGameResetsTheGame :
    listens (playing .running) = true ∧ (playing .running).rest.delay ≠ 0 ∧ (ready.quest 0).state = .empty ∧
      ((playing .running).quest 0).state ≠ .empty := by
  decide +kernel

/-! #### What every step keeps

The laws hold at reset, so `State.reset` meets their premises; with a command in the queue the step is that command's. -/

theorem test_meets_StepKeepsThePlanAndRoster : placed.planLawful ∧ enrolled.roster.lawful ∧ step placed = .next placed :=
  ⟨placed_planLawful, test_meets_RosterRequestsRejudgeIncumbents.2.1, rfl⟩

theorem test_meets_StepKeepsTheCells : ready.cellsLawful ∧ ready.serialsUnique ∧ step ready = .next ready := by
  refine ⟨⟨⟨by decide +kernel, by decide +kernel, by decide +kernel, by decide +kernel, by decide +kernel, by decide +kernel⟩, ?_⟩, ?_, rfl⟩
  · intro ⟨n, i⟩
    have key : ∀ (n : Lane) (i : Slot), (ready.cell ⟨n, i⟩).present = true ∧ (ready.cell ⟨n, i⟩).counted = true := by
      decide +kernel
    exact key n i
  · intro ⟨n, i⟩ d x hx _
    have key : ∀ (n : Lane) (i : Slot), (ready.cell ⟨n, i⟩).incumbent = none := by decide +kernel
    simp [CellRec.holds, key n i] at hx

theorem test_meets_StepKeepsTheQuestsLawful : ready.questsLawful ∧ ready.passLawful ∧ step ready = .next ready := by
  refine ⟨⟨?_, by decide +kernel, by decide +kernel, by decide +kernel⟩, by unfold State.passLawful; decide +kernel, rfl⟩
  intro q
  have key : ∀ q, ready.quest q = Quest.blank := by decide +kernel
  rw [key q]
  exact ⟨by decide, by decide, by decide, by decide, by decide, by decide, by decide⟩

theorem test_meets_StepKeepsTheRanges :
    ready.play.inRange ∧ ready.lamps.inRange ∧ ready.notices.inRange ∧ ready.restLawful ∧ step ready = .next ready := by
  refine ⟨?_, ⟨?_, by decide +kernel, by decide +kernel, by decide +kernel, by decide +kernel, by decide +kernel⟩,
    ⟨by decide, by decide⟩, ⟨by decide, by decide, by decide, by decide, by decide⟩, rfl⟩
  · exact ⟨by decide, by decide, by decide, by decide, by decide, by decide, by decide, by decide +kernel⟩
  · intro q f h
    have key : ∀ q, Table.read ready.lamps.flashes q = none := by decide +kernel
    rw [key q] at h
    exact absurd h (by simp)

theorem test_meets_StepKeepsLanesAndLinkLawful :
    (∀ n, (ready.lane n).lawful) ∧ ready.linkLawful ∧ step ready = .next ready := by
  have key : ∀ n, ready.lane n = LaneUnit.reset := by decide +kernel
  refine ⟨fun n => ?_, ⟨by decide, ⟨by decide, trivial⟩, fun n => ?_⟩, rfl⟩
  · rw [key n]
    exact ⟨by decide, by decide, by decide, by decide +kernel, by decide, by decide⟩
  · rw [key n]
    exact ⟨fun h => absurd h (by decide), fun h => absurd h (by decide)⟩

end Sys2Proof.Tests
end

section
/-!
Twin promotion (R53): what one seat does, and that promotions for different serials are seats of the first TWIN cells as they stood before any of them.
-/

namespace Sys2Proof.Machine

open Sys2Proof

/-! ### Activity -/

/-- A report of activity reads and writes the Rest Controller alone. -/
theorem reportActivity_rest_congr {s t : State} (h : t.rest = s.rest) :
    t.reportActivity.rest = s.reportActivity.rest := by
  unfold State.reportActivity
  rw [h]
  split
  · rfl
  · exact h

/-- Activity reported twice is activity reported once. -/
theorem reportActivity_rest_idem (s : State) : s.reportActivity.reportActivity.rest = s.reportActivity.rest := by
  by_cases h : s.rest.part = .ready ∧ s.rest.delay ≠ 0 <;> simp [State.reportActivity, h]

/-! ### A board change committed (R57) -/

/-- A board change files its notice under the epoch it has just raised. -/
theorem commit_notices (s : State) (b : NoticeBody) :
    (s.commit b).notices = (State.notify { s with epoch := s.epoch + 1 } b).notices := by
  simp [State.commit]

/-- A board change reports activity. -/
theorem commit_rest (s : State) (b : NoticeBody) : (s.commit b).rest = s.reportActivity.rest :=
  reportActivity_rest_congr (by simp)

/-- Board changes in a row leave a Notice Unit that depends on the unit, the epoch and the clock they found. -/
theorem committed_congr (told : List NoticeBody) : ∀ {s t : State}, t.notices = s.notices → t.epoch = s.epoch →
    t.play.clock = s.play.clock → t.committed told = s.committed told := by
  unfold State.committed
  induction told with
  | nil => exact fun hn _ _ => hn
  | cons b told ih =>
    intro s t hn he hc
    refine ih (notify_notices_congr b hn ?_ hc) ?_ ?_ <;> simp [he, hc]

/-- Board changes in a row are the first of them, then the others. -/
theorem committed_cons (s : State) (b : NoticeBody) (told : List NoticeBody) :
    s.committed (b :: told) = (s.commit b).committed told :=
  committed_congr told (commit_notices s b).symm (by simp) (by simp)

/-! ### Moves that end no turn (R95) -/

/-- A move of a cell counts only in TURNS mode, and only for a placed lane. -/
theorem reportMove_free {s : State} (c : CellId) (h : s.movesFreely) :
    s.reportMove c = { s with play := s.playMoved [c] } := by
  unfold State.reportMove State.takeMove State.playMoved
  cases hp : (s.position c).isSome <;> cases ht : s.play.turns
  case true.true =>
    have hm : s.play.movesPerTurn = 0 := by simpa [State.movesFreely, ht] using h
    simp [hp, hm]
  all_goals simp [hp]

/-- The end of a turn leaves the clock. -/
theorem endTurn_clock (s : State) (byHost : Bool) : (s.endTurn byHost).play.clock = s.play.clock := by
  simp [State.endTurn]

/-- A move leaves the clock, whether or not it ends the turn. -/
theorem reportMove_clock (s : State) (c : CellId) : (s.reportMove c).play.clock = s.play.clock := by
  unfold State.reportMove State.takeMove
  dsimp only
  (repeat' split) <;> simp [endTurn_clock]

/-- Moves change the count of moves alone. -/
theorem playMoved_settings (s : State) (l : List CellId) :
    (s.playMoved l).turns = s.play.turns ∧ (s.playMoved l).movesPerTurn = s.play.movesPerTurn ∧
      (s.playMoved l).current = s.play.current ∧ (s.playMoved l).clock = s.play.clock := by
  unfold State.playMoved
  dsimp only
  split <;> exact ⟨rfl, rfl, rfl, rfl⟩

/-- Moves are counted by the plan and the play record alone. -/
theorem playMoved_congr {s t : State} (hp : t.plan = s.plan) (hm : t.play = s.play) : t.playMoved = s.playMoved := by
  have pos : t.position = s.position := by funext c; simp [State.position, hp]
  funext l
  unfold State.playMoved
  rw [pos, hm]

/-- A move on `d` and then moves on the other cells are the moves on them all. -/
theorem playMoved_cons {s t : State} {d : CellId} (l : List CellId) (hp : t.plan = s.plan)
    (hm : t.play = s.playMoved [d]) : t.playMoved l = s.playMoved (d :: l) := by
  have pos : t.position = s.position := by funext c; simp [State.position, hp]
  unfold State.playMoved at hm ⊢
  rw [pos, hm]
  simp only [List.countP_cons, List.countP_nil]
  generalize (l.countP fun d => (s.position d).isSome) = k
  cases (s.position d).isSome <;> cases ht : s.play.turns
  case true.true =>
    rcases Nat.eq_zero_or_pos k with rfl | hk
    · simp
    · simp [hk.ne']
      omega
  all_goals simp [ht]

/-! ### One seat (R44, R53) -/

/-- A seat writes its own cell, with the current player as the one who placed the tile. -/
theorem seat_cell (s : State) (d c : CellId) (x : TileRead) (p : Bool) :
    (s.seat d x p).cell c = if c = d then s.seatedRecord d x s.play.current else s.cell c := by
  simp only [State.seat, reportMove_frame, commit_frame, setCell_cell]
  rfl

/-- A seat commits one board change. -/
theorem seat_epoch (s : State) (d : CellId) (x : TileRead) (p : Bool) : (s.seat d x p).epoch = s.epoch + 1 := by
  simp [State.seat]

/-- A seat wants a pass and touches nothing else of the Quest Engine. -/
theorem seat_quests (s : State) (d : CellId) (x : TileRead) (p : Bool) :
    (s.seat d x p).quests = s.wantPass.quests := by
  simp [State.seat, State.commit, State.wantPass]

/-- A seat reports activity. -/
theorem seat_rest (s : State) (d : CellId) (x : TileRead) (p : Bool) :
    (s.seat d x p).rest = s.reportActivity.rest := by
  simp only [State.seat, reportMove_frame, commit_rest]
  exact reportActivity_rest_congr rfl

/-- A seat leaves the clock. -/
theorem seat_clock (s : State) (d : CellId) (x : TileRead) (p : Bool) :
    (s.seat d x p).play.clock = s.play.clock := by
  simp [State.seat, reportMove_clock]

/-- A seat that ends no turn counts its move. -/
theorem seat_play (s : State) (d : CellId) (x : TileRead) (p : Bool) (h : s.movesFreely) :
    (s.seat d x p).play = s.playMoved [d] := by
  unfold State.seat
  rw [reportMove_free]
  · exact congrFun (playMoved_congr (by simp) (by simp)) [d]
  · simpa [State.movesFreely] using h

/-- A promotion that ends no turn files its ARRIVAL notice alone. -/
theorem seat_notices (s : State) (d : CellId) (x : TileRead) (h : s.movesFreely) :
    (s.seat d x true).notices = (s.commit (s.promotedNotice d x)).notices := by
  unfold State.seat
  rw [reportMove_free]
  · simp only [commit_notices]
    exact notify_notices_congr _ rfl rfl rfl
  · simpa [State.movesFreely] using h

/-! ### The first TWIN cell of a serial (R53) -/

/-- The twin tile of a TWIN cell, if it has serial `x`. -/
def CellRec.twinOf (r : CellRec) (x : Serial) : Option TileRead :=
  match r.state, r.candidate with
  | .twin, some k => if k.tile.serial = x then some k.tile else none
  | _, _ => none

/-- A record has a twin tile of serial `x` exactly when it is TWIN and its candidate is that tile. -/
theorem twinOf_eq_some {r : CellRec} {x : Serial} {t : TileRead} :
    r.twinOf x = some t ↔ r.state = .twin ∧ r.candidate.map (·.tile) = some t ∧ t.serial = x := by
  unfold CellRec.twinOf
  split
  case h_1 k hs hk =>
    by_cases hx : k.tile.serial = x
    all_goals
      simp [hs, hk, hx]
      rintro rfl
      exact hx
  case h_2 h =>
    simp only [reduceCtorEq, false_iff]
    rintro ⟨hs, hk, -⟩
    obtain ⟨k, hk, -⟩ := Option.map_eq_some_iff.1 hk
    exact h k hs hk

/-- A record has a twin tile of one serial at most. -/
theorem twinOf_serial_unique {r : CellRec} {x y : Serial} {t u : TileRead} (hx : r.twinOf x = some t)
    (hy : r.twinOf y = some u) : x = y := by
  obtain ⟨-, ht, rfl⟩ := twinOf_eq_some.1 hx
  obtain ⟨-, hu, rfl⟩ := twinOf_eq_some.1 hy
  rw [Option.some.inj (ht.symm.trans hu)]

/-- Only a TWIN cell has a twin tile. -/
theorem twinOf_of_ne {r : CellRec} (x : Serial) (h : r.state ≠ .twin) : r.twinOf x = none :=
  Option.eq_none_iff_forall_ne_some.2 fun _ e => h (twinOf_eq_some.1 e).1

/-- The first TWIN cell of a serial is the first cell in board order with such a twin tile. -/
theorem firstTwin_eq (s : State) (x : Serial) :
    s.firstTwin x = allCells.findSome? fun d => ((s.cell d).twinOf x).map fun t => (d, t) := by
  unfold State.firstTwin
  congr 1
  funext d
  unfold CellRec.twinOf
  cases (s.cell d).state <;> cases (s.cell d).candidate <;> simp

/-- Maps with the same twin tiles of a serial have the same first TWIN cell for it. -/
theorem firstTwin_congr {s t : State} {x : Serial} (h : ∀ c, (t.cell c).twinOf x = (s.cell c).twinOf x) :
    t.firstTwin x = s.firstTwin x := by
  simp only [firstTwin_eq, h]

/-- The first TWIN cell of a serial has a twin tile of that serial. -/
theorem firstTwin_twinOf {s : State} {x : Serial} {d : CellId} {t : TileRead} (h : s.firstTwin x = some (d, t)) :
    (s.cell d).twinOf x = some t := by
  rw [firstTwin_eq] at h
  obtain ⟨c, -, hc⟩ := List.exists_of_findSome?_eq_some h
  obtain ⟨u, hu, e⟩ := Option.map_eq_some_iff.1 hc
  cases e
  exact hu

/-- Without a TWIN cell no serial has a first one. -/
theorem firstTwin_none {s : State} (x : Serial) (h : ∀ c, (s.cell c).state ≠ .twin) : s.firstTwin x = none := by
  simp [firstTwin_eq, twinOf_of_ne _ (h _)]

/-! ### Seats in a row -/

/-- The listed twins seated in their order, each as a promoted ARRIVAL. -/
def State.seatAll (s : State) (twins : List (CellId × TileRead)) : State :=
  twins.foldl (fun u e => u.seat e.1 e.2 true) s

/-- Seats in a row are the first seat, then the others. -/
@[simp] theorem seatAll_cons (s : State) (d : CellId) (x : TileRead) (l : List (CellId × TileRead)) :
    s.seatAll ((d, x) :: l) = (s.seat d x true).seatAll l := rfl

/-- No seats leave the state as it is. -/
@[simp] theorem seatAll_nil (s : State) : s.seatAll [] = s := rfl

/-- After a seat of a tile of another serial, the first TWIN cell of a serial is what it was. -/
theorem firstTwin_seat {s : State} {x y : Serial} {d : CellId} {t : TileRead} (p : Bool)
    (h : (s.cell d).twinOf x = some t) (hne : y ≠ x) : (s.seat d t p).firstTwin y = s.firstTwin y := by
  refine firstTwin_congr fun c => ?_
  rw [seat_cell]
  split
  case isTrue hc =>
    subst hc
    have old : (s.cell c).twinOf y = none :=
      Option.eq_none_iff_forall_ne_some.2 fun _ hu => hne (twinOf_serial_unique hu h)
    rw [old, twinOf_of_ne]
    simp [State.seatedRecord]
  case isFalse => rfl

/-- Promotions for different serials seat the first TWIN cells of those serials as they stood at the start (R53). -/
theorem promotes_eq_seatAll {xs : List Serial} (hxs : xs.Nodup) :
    ∀ s : State, xs.foldl State.promote s = s.seatAll (xs.filterMap s.firstTwin) := by
  induction xs with
  | nil => exact fun _ => rfl
  | cons x xs ih =>
    intro s
    obtain ⟨hx, hxs⟩ := List.nodup_cons.1 hxs
    rw [List.foldl_cons, List.filterMap_cons, ih hxs]
    cases h : s.firstTwin x with
    | none => simp [State.promote, h]
    | some e =>
      obtain ⟨d, t⟩ := e
      have hd := firstTwin_twinOf h
      have same : xs.filterMap (s.seat d t true).firstTwin = xs.filterMap s.firstTwin :=
        List.filterMap_congr fun y hy => firstTwin_seat true hd (by rintro rfl; exact hx hy)
      simp [State.promote, h, same]

/-- First TWIN cells of different serials are different cells. -/
theorem firstTwins_nodup (s : State) {xs : List Serial} (hxs : xs.Nodup) :
    ((xs.filterMap s.firstTwin).map (·.1)).Nodup := by
  rw [List.map_filterMap]
  refine hxs.filterMap fun x y c hx hy => ?_
  obtain ⟨⟨d, t⟩, ht, rfl⟩ := Option.map_eq_some_iff.1 hx
  obtain ⟨⟨_, u⟩, hu, rfl⟩ := Option.map_eq_some_iff.1 hy
  exact twinOf_serial_unique (firstTwin_twinOf ht) (firstTwin_twinOf hu)

/-- Seats leave every cell that is not seated. -/
theorem seatAll_cell_other (l : List (CellId × TileRead)) {c : CellId} :
    ∀ {s : State}, (∀ x, (c, x) ∉ l) → (s.seatAll l).cell c = s.cell c := by
  induction l with
  | nil => exact fun _ => rfl
  | cons e l ih =>
    intro s h
    obtain ⟨d, x⟩ := e
    have hc : c ≠ d := by rintro rfl; exact h x (by simp)
    rw [seatAll_cons, ih fun y hy => h y (List.mem_cons_of_mem _ hy), seat_cell, if_neg hc]

/-- A record seated is made of the cell's record, the plan, the roster and the clock. -/
theorem seatedRecord_congr {s t : State} {d : CellId} (x : TileRead) (who : Player) (hc : t.cell d = s.cell d)
    (hp : t.plan = s.plan) (hr : t.roster = s.roster) (hk : t.play.clock = s.play.clock) :
    t.seatedRecord d x who = s.seatedRecord d x who := by
  simp only [State.seatedRecord, hc, hp, hr, hk]

/-- Whether moves end turns does not change by a seat that ends none, nor does the current player. -/
theorem seat_movesFreely {s : State} (d : CellId) (x : TileRead) (p : Bool) (h : s.movesFreely) :
    (s.seat d x p).movesFreely ∧ (s.seat d x p).play.current = s.play.current := by
  obtain ⟨ht, hm, hc, -⟩ := playMoved_settings s [d]
  rw [State.movesFreely, seat_play s d x p h, ht, hm]
  exact ⟨h, hc⟩

/-- Each cell seated holds its tile; the first was placed by the current player, and all where moves end no turn. -/
theorem seatAll_cell_mem (l : List (CellId × TileRead)) {d : CellId} {x : TileRead} :
    ∀ {s : State}, (l.map (·.1)).Nodup → (d, x) ∈ l →
      ∃ who, (s.seatAll l).cell d = s.seatedRecord d x who ∧
        (s.movesFreely ∨ l.head? = some (d, x) → who = s.play.current) := by
  induction l with
  | nil => exact fun _ h => absurd h (by simp)
  | cons e l ih =>
    intro s hl hd
    obtain ⟨c, y⟩ := e
    obtain ⟨hc, hl⟩ := List.nodup_cons.1 hl
    rw [seatAll_cons]
    rcases List.mem_cons.1 hd with he | hd
    · cases he
      refine ⟨s.play.current, ?_, fun _ => rfl⟩
      rw [seatAll_cell_other l fun z hz => hc (List.mem_map_of_mem (f := (·.1)) hz), seat_cell, if_pos rfl]
    · have hne : d ≠ c := fun e => hc (e ▸ List.mem_map_of_mem (f := (·.1)) hd)
      obtain ⟨who, hw, hp⟩ := ih (s := s.seat c y true) hl hd
      refine ⟨who, ?_, fun h => ?_⟩
      · rw [hw]
        exact seatedRecord_congr x who (by rw [seat_cell, if_neg hne]) (by simp) (by simp) (seat_clock ..)
      · have hf : s.movesFreely :=
          h.resolve_right fun e => hne (congrArg Prod.fst (Option.some.inj e)).symm
        obtain ⟨hf', hcur⟩ := seat_movesFreely c y true hf
        rw [hp (.inl hf'), hcur]

/-- Each seat raises the epoch once. -/
theorem seatAll_epoch (l : List (CellId × TileRead)) :
    ∀ s : State, (s.seatAll l).epoch = s.epoch + BitVec.ofNat 16 l.length := by
  induction l with
  | nil => simp
  | cons e l ih =>
    intro s
    rw [seatAll_cons, ih, seat_epoch, List.length_cons, BitVec.add_assoc, Nat.add_comm, BitVec.ofNat_add]
    rfl

/-- Seats after activity was reported leave the Rest Controller as that report left it. -/
theorem seatAll_rest (l : List (CellId × TileRead)) :
    ∀ {s : State}, s.reportActivity.rest = s.rest → (s.seatAll l).rest = s.rest := by
  induction l with
  | nil => exact fun _ => rfl
  | cons e l ih =>
    intro s h
    obtain ⟨d, x⟩ := e
    have hs := seat_rest s d x true
    rw [seatAll_cons, ih, hs, h]
    rw [reportActivity_rest_congr hs, reportActivity_rest_idem, hs]

/-- Seats touch nothing of the Quest Engine once a pass is wanted. -/
theorem seatAll_quests (l : List (CellId × TileRead)) :
    ∀ {s : State}, s.quests.passWanted = true → (s.seatAll l).quests = s.quests := by
  induction l with
  | nil => exact fun _ => rfl
  | cons e l ih =>
    intro s h
    obtain ⟨d, x⟩ := e
    have hs : (s.seat d x true).quests = s.quests := by rw [seat_quests, State.wantPass, ← h]
    rw [seatAll_cons, ih (by rw [hs]; exact h), hs]

/-- Seats that end no turn count their moves. -/
theorem seatAll_play (l : List (CellId × TileRead)) :
    ∀ {s : State}, s.movesFreely → (s.seatAll l).play = s.playMoved (l.map (·.1)) := by
  induction l with
  | nil => exact fun _ => by simp [State.playMoved]
  | cons e l ih =>
    intro s h
    obtain ⟨d, x⟩ := e
    rw [seatAll_cons, ih (seat_movesFreely d x true h).1]
    exact playMoved_cons _ (by simp) (seat_play s d x true h)

/-- A promoted ARRIVAL notice tells of the plan alone. -/
theorem promotedNotice_congr {s t : State} (hp : t.plan = s.plan) : t.promotedNotice = s.promotedNotice := by
  funext d x
  simp only [State.promotedNotice, State.position, hp]

/-- Seats that end no turn file their promoted ARRIVAL notices, each with the epoch it raised. -/
theorem seatAll_notices (l : List (CellId × TileRead)) :
    ∀ {s : State}, s.movesFreely →
      (s.seatAll l).notices = s.committed (l.map fun e => s.promotedNotice e.1 e.2) := by
  induction l with
  | nil => exact fun _ => rfl
  | cons e l ih =>
    intro s h
    obtain ⟨d, x⟩ := e
    have same : (s.seat d x true).promotedNotice = s.promotedNotice := promotedNotice_congr (by simp)
    rw [seatAll_cons, ih (seat_movesFreely d x true h).1, same, List.map_cons, committed_cons]
    exact committed_congr _ (seat_notices s d x h) (by simp [seat_epoch]) (by simp [seat_clock])

end Sys2Proof.Machine
end

section
/-!
The lane clear (R56): what it leaves at the end of its event, with its promotions and, on a board without a TWIN cell, without any.
-/

namespace Sys2Proof.Machine

open Sys2Proof

/-! ### The end of an event and the Quest Engine (R119) -/

/-- The end of an event writes no quest record. -/
theorem finish_records (s : State) : s.finish.quests.records = s.quests.records := by
  unfold State.finish State.startPass
  split <;> simp

/-- An event that wanted a pass and touched nothing else of the Quest Engine has its pass follow (R119). -/
theorem finish_passFollows {s t : State} (h : t.quests = s.wantPass.quests) : s.passFollows t.finish := by
  refine ⟨by rw [finish_records, h]; rfl, ?_⟩
  unfold State.finish State.startPass
  cases hp : s.quests.pass <;> simp [h, hp]

/-! ### The cells of a lane clear -/

/-- A lane's HELD cells made VACANT (R56). -/
def State.emptyHeld (s : State) (n : Lane) : State :=
  s.mapCells fun c r => if c.lane = n ∧ r.state = .held then r.emptied else r

/-- A lane clear makes a VACANT cell of each HELD cell of its lane. -/
theorem emptyHeld_cell (s : State) (n : Lane) (c : CellId) :
    (s.emptyHeld n).cell c =
      if c.lane = n ∧ (s.cell c).state = .held then
        { s.cell c with state := .vacant, incumbent := none, candidate := none, lift := 0, absent := 0, peak := 0 }
      else s.cell c := by
  rw [State.emptyHeld, mapCells_cell]
  rfl

/-- The serials of a lane's HELD tiles are those of the tiles in its HELD cells. -/
theorem heldSerials_eq (s : State) (n : Lane) : s.heldSerials n = (heldTiles s.cell n).map (·.tile.serial) := by
  unfold State.heldSerials heldTiles
  rw [List.map_filterMap]
  refine List.filterMap_congr fun c _ => ?_
  by_cases h : (s.cell c).state = .held
  · cases hi : (s.cell c).incumbent <;> simp [h]
  · simp [h]

/-- The tiles of a lane's HELD cells are as many as its HELD cells with an incumbent. -/
theorem heldTiles_length (at_ : CellId → CellRec) (n : Lane) :
    (heldTiles at_ n).length =
      (laneCells n).countP fun c => decide ((at_ c).state = .held ∧ (at_ c).incumbent.isSome = true) := by
  unfold heldTiles
  rw [List.length_filterMap_eq_countP]
  refine List.countP_congr fun c _ => ?_
  by_cases h : (at_ c).state = .held <;> simp [h]

/-- Where a serial is on one cell at most, the HELD tiles of a lane have different serials. -/
theorem heldSerials_nodup {s : State} (h : s.serialsUnique) (n : Lane) :
    ((heldTiles s.cell n).map (·.tile.serial)).Nodup := by
  have cells : (laneCells n).Nodup :=
    (List.nodup_finRange 12).map fun i j e => congrArg CellId.slot e
  unfold heldTiles
  rw [List.map_filterMap]
  refine cells.filterMap fun c d x hc hd => ?_
  have holds : ∀ {e : CellId},
      x ∈ Option.map (·.tile.serial) (if (s.cell e).state = .held then (s.cell e).incumbent else none) →
        (s.cell e).holds x = true := by
    intro e he
    obtain ⟨i, hi, rfl⟩ := Option.map_eq_some_iff.1 he
    split at hi
    · simp [CellRec.holds, hi]
    · cases hi
  exact h c d x (holds hc) (holds hd)

/-! ### The lane clear as one board change and its promotions -/

/-- A lane clear before its promotions: the HELD cells VACANT and the change committed (R56). -/
def State.laneCleared (s : State) (n : Lane) : State :=
  (s.emptyHeld n).commit (.laneLost n (heldTiles s.cell n).length)

/-- A lane clear is its board change, then a promotion for each serial dropped, in order. -/
theorem clearCells_eq (s : State) (n : Lane) :
    s.clearCells n = ((heldTiles s.cell n).map (·.tile.serial)).foldl State.promote (s.laneCleared n) := by
  simp only [State.clearCells, heldSerials_eq, List.length_map]
  rfl

/-- A lane clear on a board without a TWIN cell promotes nothing. -/
theorem clearCells_noTwin {s : State} (n : Lane) (h : ∀ c, (s.cell c).state ≠ .twin) :
    s.clearCells n = s.laneCleared n := by
  have none_twin : ∀ c, ((s.laneCleared n).cell c).state ≠ .twin := by
    intro c
    simp only [State.laneCleared, commit_frame, emptyHeld_cell]
    split
    · simp
    · exact h c
  rw [clearCells_eq]
  induction (heldTiles s.cell n).map (·.tile.serial) with
  | nil => rfl
  | cons x xs ih => rw [List.foldl_cons, State.promote, firstTwin_none x none_twin]; exact ih

/-- Making HELD cells VACANT leaves the first TWIN cell of every serial. -/
theorem firstTwin_laneCleared (s : State) (n : Lane) : (s.laneCleared n).firstTwin = s.firstTwin := by
  funext x
  refine firstTwin_congr fun c => ?_
  simp only [State.laneCleared, commit_frame, emptyHeld_cell]
  split
  case isTrue hc => rw [twinOf_of_ne x (by simp), twinOf_of_ne x (by simp [hc.2])]
  case isFalse => rfl

/-- A lane clear of tiles of different serials seats the first TWIN cells as they stood before it (R53, R56). -/
theorem clearCells_seatAll {s : State} (n : Lane) (h : s.serialsUnique) :
    s.clearCells n = (s.laneCleared n).seatAll (s.promotions (heldTiles s.cell n)) := by
  rw [clearCells_eq, promotes_eq_seatAll (heldSerials_nodup h n), firstTwin_laneCleared, List.filterMap_map]
  rfl

/-- The board change of a lane clear, part by part. -/
theorem laneCleared_frame (s : State) (n : Lane) :
    (∀ c, (s.laneCleared n).cell c = (s.emptyHeld n).cell c) ∧ (s.laneCleared n).plan = s.plan ∧
      (s.laneCleared n).roster = s.roster ∧ (s.laneCleared n).play = s.play ∧
      (s.laneCleared n).epoch = s.epoch + 1 ∧
      (s.laneCleared n).notices = (s.commit (.laneLost n (heldTiles s.cell n).length)).notices := by
  unfold State.laneCleared
  simp only [commit_frame, commit_epoch, commit_notices, State.emptyHeld, mapCells_plan, mapCells_roster,
    mapCells_play, mapCells_epoch]
  simp only [implies_true, true_and]
  exact notify_notices_congr _ rfl rfl rfl

/-- The board change of a lane clear wants a pass and touches nothing else of the Quest Engine. -/
theorem laneCleared_quests (s : State) (n : Lane) : (s.laneCleared n).quests = s.wantPass.quests := by
  simp [State.laneCleared, State.commit, State.wantPass, State.emptyHeld]

/-- The board change of a lane clear reports activity. -/
theorem laneCleared_rest (s : State) (n : Lane) : (s.laneCleared n).rest = s.reportActivity.rest := by
  rw [State.laneCleared, commit_rest]
  exact reportActivity_rest_congr rfl

/-- Where serials are unique, the twins of a lane's HELD tiles stand on different cells. -/
theorem promotions_nodup {s : State} (n : Lane) (h : s.serialsUnique) :
    ((s.promotions (heldTiles s.cell n)).map (·.1)).Nodup := by
  have := firstTwins_nodup s (heldSerials_nodup h n)
  rwa [List.filterMap_map] at this

/-- A cell that a promotion seats is TWIN before it. -/
theorem promotions_twin {s : State} {gone : List Incumbent} {d : CellId} {x : TileRead}
    (h : (d, x) ∈ s.promotions gone) : (s.cell d).state = .twin := by
  obtain ⟨i, -, hi⟩ := List.mem_filterMap.1 h
  exact (twinOf_eq_some.1 (firstTwin_twinOf hi)).1

/-- A lane clear with unique serials, at the end of its event: the change and its promotions (R53, R56). -/
theorem clearCells_promotesAll {s : State} (n : Lane) (u : LaneUnit) (h : s.serialsUnique) :
    s.promotesAll ((s.clearCells n).setLane n u).finish (s.emptyHeld n).cell s.notices
      (.laneLost n (heldTiles s.cell n).length) (s.promotions (heldTiles s.cell n)) := by
  obtain ⟨cell_cleared, plan_cleared, roster_cleared, play_cleared, epoch_cleared, notices_cleared⟩ :=
    laneCleared_frame s n
  have free_cleared : (s.laneCleared n).movesFreely ↔ s.movesFreely := by simp [State.movesFreely, play_cleared]
  have active : (s.laneCleared n).reportActivity.rest = (s.laneCleared n).rest := by
    rw [reportActivity_rest_congr (laneCleared_rest s n), reportActivity_rest_idem, laneCleared_rest]
  have quests : ((s.clearCells n).setLane n u).quests = s.wantPass.quests := by
    rw [setLane_quests, clearCells_seatAll n h, seatAll_quests _ (by simp [laneCleared_quests]), laneCleared_quests]
  refine ⟨fun c hc => ?_, fun d x hd => ?_, ?_, finish_passFollows quests, ?_, fun free => ⟨?_, ?_⟩⟩
  all_goals simp only [finish_frame, setLane_cell, setLane_epoch, setLane_rest, setLane_play, setLane_notices,
    clearCells_seatAll n h]
  · rw [seatAll_cell_other _ hc, cell_cleared]
  · obtain ⟨who, hw, hp⟩ := seatAll_cell_mem _ (s := s.laneCleared n) (promotions_nodup n h) hd
    refine ⟨who, ?_, fun hf => ?_⟩
    · rw [hw]
      refine seatedRecord_congr x who ?_ plan_cleared roster_cleared (by rw [play_cleared])
      rw [cell_cleared, emptyHeld_cell, if_neg]
      simp [promotions_twin hd]
    · rw [hp (hf.imp_left free_cleared.2), play_cleared]
  · rw [seatAll_epoch, epoch_cleared, BitVec.add_assoc, BitVec.ofNat_add]
    rfl
  · rw [seatAll_rest _ active, laneCleared_rest]
  · rw [seatAll_play _ (free_cleared.2 free), playMoved_congr plan_cleared play_cleared]
  · rw [seatAll_notices _ (free_cleared.2 free), committed_cons, promotedNotice_congr plan_cleared]
    exact committed_congr _ notices_cleared (by simp [epoch_cleared]) (by simp [play_cleared])

end Sys2Proof.Machine
end

section
/-!
RUN_LANE (R21): its refusals, its link, and its wait for the connector.
-/

namespace Sys2Proof.Machine

open Sys2Proof

/-! ### A request's lane byte -/

/-- A lane byte of a lane reads as that lane. -/
theorem below_byte (n : Lane) : below 8 (byte n.val) = some n := by
  have h : (byte n.val).toNat = n.val := by simp [byte]; omega
  simp [below, h]

/-- A byte above 7 is no lane. -/
theorem below_eight_none {a : Byte} (h : 7 < a.toNat) : below 8 a = none := by
  simp [below]; omega

/-! ### The last notice of a queue with room (R150) -/

/-- A queue with room takes what it is offered at its tail. -/
theorem offer_room {u : NoticeUnit} (n : Notice) (h : u.queue.length < noticeRoom) :
    (u.offer n).queue = u.queue ++ [n] := by
  simp [NoticeUnit.offer, h]

/-- A notice of a class that is filed, with room in the queue, is the last of the queue. -/
theorem notify_lastNotice {s : State} {b : NoticeBody} (h : s.files b.class) : (s.notify b).lastNotice b := by
  obtain ⟨ho, hm, hq⟩ := h
  have room : s.notices.queue.length < noticeRoom := by omega
  rcases notify_cases s b with ⟨hd | hd, -⟩ | ⟨-, hn⟩
  · simp [ho] at hd
  · exact absurd hd hm
  · rw [State.lastNotice, hn, offer_room]
    · simp
    · exact room

/-- Which notice is the last is read off the Notice Unit alone. -/
theorem lastNotice_congr {s t : State} {b : NoticeBody} (h : t.notices = s.notices) (hb : s.lastNotice b) :
    t.lastNotice b := by
  rwa [State.lastNotice, h]

/-- The notice of a board change is the last of a queue with room. -/
theorem commit_lastNotice {s : State} {b : NoticeBody} (h : s.files b.class) : (s.commit b).lastNotice b :=
  lastNotice_congr (commit_notices s b) (notify_lastNotice (s := { s with epoch := s.epoch + 1 }) h)

/-! ### The hold timer of a LOST lane (R19) -/

/-- A hold timer that runs out in a LOST lane clears its cells and leaves it ABSENT. -/
theorem expireHold_lost {s : State} {n : Lane} (h : (s.lane n).state = .lost) :
    s.expireHold n =
      ((s.setLane n { s.lane n with hold := none }).clearCells n).setLane n
        { s.lane n with hold := none, state := .absent } := by
  unfold State.expireHold
  simp [h]

/-! ### A lane written at the end of an event -/

/-- A lane written as it stands changes nothing. -/
@[simp] theorem setLane_self (s : State) (n : Lane) : s.setLane n (s.lane n) = s := by
  have h : (s.setLane n (s.lane n)).lanes = s.lanes := by
    refine lanes_ext fun m => ?_
    rw [setLane_lane]
    split
    case isTrue e => rw [e]
    case isFalse => rfl
  exact congrArg (fun l => { s with lanes := l }) h

/-- An event's end leaves a lane just written that is not RUNNING, and every other lane steady. -/
theorem finish_setLane {s w : State} {n : Lane} {v : LaneUnit} (hv : v.state ≠ .running)
    (hw : ∀ m, m ≠ n → w.lane m = s.lane m) :
    (w.setLane n v).finish.lane n = v ∧ s.otherLanesSteady (w.setLane n v).finish n := by
  refine ⟨?_, fun m hm => ?_⟩
  · rw [finish_idle]
    · simp
    · simp [LaneUnit.grantable, hv]
  · have h := finish_steady (w.setLane n v) m
    rwa [setLane_lane_ne _ _ hm, hw m hm] at h

/-! ### Promotions stated of another state -/

/-- What promotions leave depends on the map, the plan, the roster, the play record, the epoch, the Quest Engine and the activity that was to be reported. -/
theorem promotesAll_congr {s r t : State} {at_ : CellId → CellRec} {u : NoticeUnit} {b : NoticeBody}
    {twins : List (CellId × TileRead)} (hc : r.cells = s.cells) (hp : r.plan = s.plan) (hr : r.roster = s.roster)
    (hm : r.play = s.play) (he : r.epoch = s.epoch) (hq : r.quests = s.quests)
    (ha : r.reportActivity.rest = s.reportActivity.rest) (h : r.promotesAll t at_ u b twins) :
    s.promotesAll t at_ u b twins := by
  have free : r.movesFreely = s.movesFreely := by simp only [State.movesFreely, hm]
  have record : ∀ d x who, r.seatedRecord d x who = s.seatedRecord d x who := fun d x who =>
    seatedRecord_congr x who (by rw [State.cell, hc]; rfl) hp hr (by rw [hm])
  have told : ∀ l, { r with notices := u }.committed l = { s with notices := u }.committed l := fun l =>
    committed_congr l rfl he (congrArg (·.clock) hm)
  unfold State.promotesAll State.passFollows at h ⊢
  simp only [told, record] at h
  rwa [free, playMoved_congr hp hm, promotedNotice_congr hp, hm, he, hq, ha] at h

/-! ### RUN_LANE -/

/-- RUN_LANE heard goes to the lane units. -/
theorem exec_runLane {s : State} (a : Byte) (h : s.listening) :
    exec (.runLane a) s = .next (s.reportActivity.take 0x19 (takeRunLane a)) := by
  show Host.Outcome.next (s.live fun s => s.request (.runLane a) (takeRunLane a)) = _
  rw [live_running _ h.1.1, request_listening _ _ h]
  rfl

/-- A lane above 7 is answered BAD_VALUE (R21). -/
theorem exec_runLane_badValue {s : State} {a : Byte} (h : s.listening) (ha : 7 < a.toNat) :
    exec (.runLane a) s = .next (s.reportActivity.repliedWith 0x19 .badValue []) := by
  rw [exec_runLane _ h]
  refine congrArg _ (take_answer ?_)
  simp [takeRunLane, below_eight_none ha, badValue, answered]

/-- A lane that is not PARKED is refused with its state (R21). -/
theorem exec_runLane_refused {s : State} {n : Lane} (h : s.listening) (hp : (s.lane n).state ≠ .parked) :
    exec (.runLane (byte n.val)) s =
      .next (s.reportActivity.repliedWith 0x19 .refused [3, (s.lane n).state.code]) := by
  rw [exec_runLane _ h]
  refine congrArg _ (take_answer ?_)
  simp [takeRunLane, below_byte, hp, refused, answered, Reason.code]

/-- A PARKED lane with its connector present links as from LOST (R21). -/
theorem exec_runLane_links {s : State} {n : Lane} (h : s.listening) (hp : (s.lane n).state = .parked)
    (hc : (s.lane n).connector = true) :
    exec (.runLane (byte n.val)) s =
      .next
        ((s.reportActivity.setLane n
          { s.lane n with state := .linking, returnState := some .lost, settle := some 200, hold := none }).replied
          0x19 [1]) := by
  rw [exec_runLane _ h]
  refine congrArg _ (take_answer ?_)
  simp [takeRunLane, below_byte, hp, hc, success, LaneState.code]

/-- The frame's activity reported and lane `n` made LOST, before its hold timer starts (R21, R169). -/
def State.unparked (s : State) (n : Lane) : State :=
  s.reportActivity.setLane n { s.lane n with state := .lost, returnState := none, hold := none }

/-- Before the hold timer only the lane and the activity timer are written. -/
@[simp] theorem unparked_frame (s : State) (n : Lane) :
    (s.unparked n).chip = s.chip ∧ (s.unparked n).rest = s.reportActivity.rest ∧ (s.unparked n).plan = s.plan ∧
      (s.unparked n).cells = s.cells ∧ (s.unparked n).epoch = s.epoch ∧ (s.unparked n).sensing = s.sensing ∧
      (s.unparked n).firstFault = s.firstFault ∧ (s.unparked n).watch = s.watch ∧
      (s.unparked n).roster = s.roster ∧ (s.unparked n).patterns = s.patterns ∧ (s.unparked n).quests = s.quests ∧
      (s.unparked n).play = s.play ∧ (s.unparked n).lamps = s.lamps ∧ (s.unparked n).notices = s.notices ∧
      (s.unparked n).link = s.link ∧ (s.unparked n).pending = s.pending ∧ (s.unparked n).cell = s.cell := by
  simp only [State.unparked, setLane_chip, setLane_rest, setLane_plan, setLane_cells, setLane_epoch, setLane_sensing,
    setLane_firstFault, setLane_watch, setLane_roster, setLane_patterns, setLane_quests, setLane_play, setLane_lamps,
    setLane_notices, setLane_link, setLane_pending, reportActivity_frame, true_and]
  funext c
  simp

/-- The lane itself is LOST, with no return state and no hold timer. -/
@[simp] theorem unparked_lane_same (s : State) (n : Lane) :
    (s.unparked n).lane n = { s.lane n with state := .lost, returnState := none, hold := none } := by
  simp [State.unparked]

/-- The activity of the frame is not changed by a second report in the same event. -/
theorem unparked_activity (s : State) (n : Lane) : (s.unparked n).reportActivity.rest = s.reportActivity.rest :=
  (reportActivity_rest_congr (by simp)).trans (reportActivity_rest_idem s)

/-- The other lanes are as they were. -/
theorem unparked_lane_ne (s : State) {n m : Lane} (h : m ≠ n) : (s.unparked n).lane m = s.lane m := by
  simp [State.unparked, setLane_lane_ne _ _ h]

/-- RUN_LANE on a PARKED lane with no connector makes it LOST with a fresh hold timer. -/
theorem exec_runLane_waits {s : State} {n : Lane} (h : s.listening) (hp : (s.lane n).state = .parked)
    (hc : (s.lane n).connector = false) :
    exec (.runLane (byte n.val)) s = .next (((s.unparked n).startHold n).finish.replied 0x19 [3]) := by
  rw [exec_runLane _ h]
  refine congrArg _ (take_answer ?_)
  simp [takeRunLane, below_byte, hp, hc, success, State.unparked, LaneState.code]

/-! ### What the LOST lane's hold timer leaves -/

/-- With a hold time the lane waits LOST with a fresh hold timer. -/
theorem unparked_waits {s : State} (n : Lane) (hh : s.sensing.hold ≠ 0) :
    let t := ((s.unparked n).startHold n).finish
    t.lane n = { s.lane n with state := .lost, returnState := none, hold := some s.sensing.hold } ∧
      s.otherLanesSteady t n ∧ t.quests.records = s.quests.records ∧ t.rest = s.reportActivity.rest ∧
      s.sameBut t [.lanes, .quests, .rest] := by
  have hold : (s.unparked n).startHold n = (s.unparked n).setLane n
      { s.lane n with state := .lost, returnState := none, hold := some s.sensing.hold } := by
    simp [State.startHold, hh]
  rw [hold]
  obtain ⟨lane, others⟩ := finish_setLane (n := n) (w := s.unparked n)
    (v := { s.lane n with state := .lost, returnState := none, hold := some s.sensing.hold }) (by simp)
    fun _ => unparked_lane_ne s
  refine ⟨lane, others, by simp [finish_records], by simp, fun k hk => ?_⟩
  cases k <;> simp [Component.same] at hk ⊢

/-- At a hold time of 0.0 s the lane that RUN_LANE left LOST is cleared and ABSENT at once (R19). -/
theorem unparked_startHold_zero {s : State} (n : Lane) (h : s.sensing.hold = 0) :
    (s.unparked n).startHold n =
      ((s.unparked n).clearCells n).setLane n
        { s.lane n with state := .absent, returnState := none, hold := none } := by
  have same : (s.unparked n).setLane n { (s.unparked n).lane n with hold := none } = s.unparked n := by
    refine Eq.trans (congrArg _ ?_) (setLane_self _ n)
    simp
  unfold State.startHold
  rw [if_pos (by simpa using h), expireHold_lost (by simp), same]
  simp

/-- The lane so cleared is ABSENT, and the other lanes are steady. -/
theorem unparked_clears_lanes {s : State} (n : Lane) (h : s.sensing.hold = 0) :
    let t := ((s.unparked n).startHold n).finish
    t.lane n = { s.lane n with state := .absent, returnState := none, hold := none } ∧ s.otherLanesSteady t n := by
  rw [unparked_startHold_zero n h]
  exact finish_setLane (by simp) fun m hm => by simp [unparked_lane_ne s hm]

/-- With a hold time of 0.0 s and no TWIN cell the lane is cleared and nothing is promoted (R19, R56). -/
theorem unparked_clears_noTwin {s : State} (n : Lane) (hh : s.sensing.hold = 0)
    (ht : ∀ c, (s.cell c).state ≠ .twin) :
    let t := ((s.unparked n).startHold n).finish
    t.epoch = s.epoch + 1 ∧
      (∀ c, t.cell c = (s.emptyHeld n).cell c) ∧
      (s.files .fault → t.lastNotice (.laneLost n (heldTiles s.cell n).length)) ∧
      t.rest = s.reportActivity.rest ∧ s.passFollows t ∧
      s.sameBut t [.lanes, .cells, .epoch, .notices, .quests, .rest] := by
  obtain ⟨cells, -, -, -, epoch, notices⟩ := laneCleared_frame (s.unparked n) n
  rw [unparked_startHold_zero n hh, clearCells_noTwin n (by simpa using ht)]
  refine ⟨by simp [epoch], fun c => ?_, fun hf => ?_, ?_, ?_, fun k hk => ?_⟩
  · simp [cells, emptyHeld_cell]
  · refine lastNotice_congr ?_ (commit_lastNotice (s := s.unparked n) ?_)
    · simp [notices]
    · simpa [State.files, NoticeBody.class] using hf
  · simp [laneCleared_rest, unparked_activity]
  · refine finish_passFollows ?_
    simp [laneCleared_quests, State.wantPass]
  · cases k <;> simp [Component.same, State.laneCleared, State.emptyHeld] at hk ⊢

/-- With a hold time of 0.0 s and unique serials the lane is cleared and the twins of its tiles are promoted (R19, R53, R56). -/
theorem unparked_clears_promotesAll {s : State} (n : Lane) (hh : s.sensing.hold = 0) (hu : s.serialsUnique) :
    let t := ((s.unparked n).startHold n).finish
    s.promotesAll t (s.emptyHeld n).cell s.notices (.laneLost n (heldTiles s.cell n).length)
        (s.promotions (heldTiles s.cell n)) ∧
      s.sameBut t [.lanes, .cells, .epoch, .notices, .quests, .rest, .play] := by
  have twins : (s.unparked n).firstTwin = s.firstTwin := by
    funext x
    exact firstTwin_congr (by simp)
  have cells : ((s.unparked n).emptyHeld n).cell = (s.emptyHeld n).cell := by
    funext c
    simp [emptyHeld_cell]
  have unique : (s.unparked n).serialsUnique := by simpa [State.serialsUnique] using hu
  have clear := clearCells_promotesAll n { s.lane n with state := .absent, returnState := none, hold := none } unique
  rw [unparked_startHold_zero n hh]
  refine ⟨?_, fun k hk => ?_⟩
  · rw [cells] at clear
    simp only [State.promotions, twins, unparked_frame] at clear
    exact promotesAll_congr (by simp) (by simp) (by simp) (by simp) (by simp) (by simp) (unparked_activity s n) clear
  · cases k <;> simp [Component.same] at hk ⊢

end Sys2Proof.Machine

open Sys2Proof Sys2Proof.Machine

/-- Settles O23: the refusals and the link read off the request; the wait and the lane clear from what the LOST lane's hold timer leaves. -/
theorem runLaneLinksOrWaits : Obligations.RunLaneLinksOrWaits := by
  intro a n s hs
  refine ⟨exec_runLane_badValue hs, exec_runLane_refused hs, exec_runLane_links hs, fun hp hc hh => ?_,
    fun hp hc hh ht => ?_, fun hp hc hh hu => ?_⟩
  · exact ⟨_, exec_runLane_waits hs hp hc, unparked_waits n hh⟩
  · obtain ⟨lane, others⟩ := unparked_clears_lanes n hh
    obtain ⟨epoch, cells, told, rest, pass, same⟩ := unparked_clears_noTwin n hh ht
    rw [heldTiles_length] at told
    simp only [emptyHeld_cell] at cells
    exact ⟨_, exec_runLane_waits hs hp hc, lane, epoch, cells, told, others, rest, pass, same⟩
  · obtain ⟨lane, others⟩ := unparked_clears_lanes n hh
    obtain ⟨promoted, same⟩ := unparked_clears_promotesAll n hh hu
    rw [funext (emptyHeld_cell s n)] at promoted
    exact ⟨_, exec_runLane_waits hs hp hc, lane, promoted, others, same⟩

end

section
/-!
The clock and score requests: what each leaves of the play record and answers (R101, R102, R105).
-/

namespace Sys2Proof.Machine

open Sys2Proof

/-- A request command whose block answers leaves the block's state with its reply at the tail (R160 test 5, R161). -/
theorem exec_answered {s t : State} {i : Instr} (block : State → Taken) {st : Status} {data : List Byte}
    (hi : exec i s = .next (s.live fun s => s.request i block)) (h : s.listening)
    (hb : block s.reportActivity = (t, some (st, data))) : exec i s = .next (t.repliedWith (kindOf i) st data) := by
  obtain ⟨⟨running, -⟩, -⟩ := id h
  rw [hi, live_running _ running, request_listening i block h, take_answer hb]

/-- A report of activity leaves the play record. -/
theorem reportActivity_play (s : State) : s.reportActivity.play = s.play := by simp

/-- The play record replaced, after the start byte of the request was reported as activity (R159, R169). -/
def State.withPlay (s : State) (p : PlayRecord) : State := { s.reportActivity with play := p }

/-- CLOCK_RUN starts a paused clock with its notice, and leaves a running one (R101). -/
theorem exec_clockRun {s : State} (h : s.listening) :
    exec .clockRun s =
      .next
        ((if s.play.clockRunning then s.reportActivity
          else (s.withPlay { s.play with clockRunning := true }).notify (.clock true false)).replied 0x43
          (flag s.play.clockRunning :: three s.play.clock)) := by
  refine exec_answered takeClockRun rfl h ?_
  rw [takeClockRun, State.setClockRunning, reportActivity_play]
  rfl

/-- CLOCK_PAUSE stops a running clock with its notice, and leaves a paused one (R101). -/
theorem exec_clockPause {s : State} (h : s.listening) :
    exec .clockPause s =
      .next
        ((if s.play.clockRunning then (s.withPlay { s.play with clockRunning := false }).notify (.clock false false)
          else s.reportActivity).replied 0x44 (flag s.play.clockRunning :: three s.play.clock)) := by
  refine exec_answered takeClockPause rfl h ?_
  rw [takeClockPause, State.setClockRunning, reportActivity_play]
  rfl

/-- SET_CLOCK gives a paused clock the value, and answers with the value before (R102). -/
theorem exec_setClock_paused {s : State} (v : BitVec 24) (h : s.listening) (hp : s.play.clockRunning = false) :
    exec (.setClock v) s =
      .next ((s.withPlay { s.play with clock := v.toNat }).replied 0x45 (three s.play.clock)) := by
  refine exec_answered (takeSetClock v) rfl h ?_
  rw [takeSetClock, reportActivity_play, if_neg (by simp [hp])]
  rfl

/-- SET_CLOCK is refused while the clock runs (R102). -/
theorem exec_setClock_running {s : State} (v : BitVec 24) (h : s.listening) (hr : s.play.clockRunning = true) :
    exec (.setClock v) s = .next (s.reportActivity.repliedWith 0x45 .refused [9]) := by
  refine exec_answered (takeSetClock v) rfl h ?_
  rw [takeSetClock, reportActivity_play, if_pos hr]
  rfl

/-- A score counter as SET_SCORES stores it, held at 9,999 (R104, R105). -/
def heldScore (v : BitVec 16) : Nat := min scoreMax v.toNat

/-- The five counters as SET_SCORES stores them: the team's first, then those of players 1 to 4. -/
def heldScores (p1 p2 p3 p4 team : BitVec 16) : Table 5 Nat :=
  #v[heldScore team, heldScore p1, heldScore p2, heldScore p3, heldScore p4]

/-- The counters stored, read by player, 0 for the team. -/
theorem read_heldScores (p1 p2 p3 p4 team : BitVec 16) :
    let scores := heldScores p1 p2 p3 p4 team
    Table.read scores 1 = heldScore p1 ∧ Table.read scores 2 = heldScore p2 ∧ Table.read scores 3 = heldScore p3 ∧
      Table.read scores 4 = heldScore p4 ∧ Table.read scores 0 = heldScore team :=
  ⟨rfl, rfl, rfl, rfl, rfl⟩

/-- SET_SCORES stores the five counters, and answers with them as stored (R105). -/
theorem exec_setScores {s : State} (p1 p2 p3 p4 team : BitVec 16) (h : s.listening) :
    exec (.setScores p1 p2 p3 p4 team) s =
      .next
        ((s.withPlay { s.play with scores := heldScores p1 p2 p3 p4 team }).replied 0x47
          (two (heldScore p1) ++ two (heldScore p2) ++ two (heldScore p3) ++ two (heldScore p4) ++
            two (heldScore team))) := by
  refine exec_answered (takeSetScores p1 p2 p3 p4 team) rfl h ?_
  rw [takeSetScores, reportActivity_play]
  rfl

end Sys2Proof.Machine

open Sys2Proof Sys2Proof.Machine

/-- Settles O15: the two cases of the run state, read off each clock request, and the counters that SET_SCORES stores. -/
theorem clockAndScoreRequests : Obligations.ClockAndScoreRequests := by
  intro v p1 p2 p3 p4 team s hs
  refine ⟨fun paused => ⟨?_, ?_, exec_setClock_paused v hs paused⟩,
    fun running => ⟨?_, ?_, exec_setClock_running v hs running⟩,
    _, exec_setScores p1 p2 p3 p4 team hs, rfl, read_heldScores p1 p2 p3 p4 team⟩
  · rw [exec_clockRun hs, paused]; rfl
  · rw [exec_clockPause hs, paused]; rfl
  · rw [exec_clockRun hs, running]; rfl
  · rw [exec_clockPause hs, running]; rfl

end

section
/-!
A change at the lamps in an event that grants and starts passes at its end: what it leaves of the lanes and the notices (R32, R136, R140).
-/

namespace Sys2Proof.Machine

open Sys2Proof

/-! ### Stale lanes and the arbiter (R27, R32) -/

/-- The lower part of a grant leaves a stale lane stale, or loads its drives. -/
theorem grantLower_stale {s : State} {n : Lane} (h : (s.lane n).stale = true) :
    ((s.grantLower n).lane n).stale = true ∨ ((s.grantLower n).lane n).slot = some (.lamp (s.laneDrive n)) := by
  unfold State.grantLower
  cases s.scanTarget n with
  | none => simp [h]
  | some i =>
    cases hb : (s.lane n).barred
    case false => simp [h, hb]
    case true =>
      left
      cases hm : (s.lane n).mode <;> simp [State.afterSense, h, hb, hm]

/-- A grant leaves a stale lane stale, or loads its drives while the lane is RUNNING. -/
theorem grant_stale {s : State} {n : Lane} (h : (s.lane n).stale = true) :
    ((s.grant n).lane n).stale = true ∨
      (s.lane n).state = .running ∧ ((s.grant n).lane n).slot = some (.lamp (s.laneDrive n)) := by
  by_cases hg : (s.lane n).grantable = true
  case neg => exact .inl (by rw [grant_idle s (by simpa using hg), h])
  have running : (s.lane n).state = .running := by
    simp only [LaneUnit.grantable, Bool.and_eq_true, decide_eq_true_eq] at hg
    exact hg.1.1
  unfold State.grant State.grantConfirm
  simp only [hg, if_true]
  split
  case isTrue => exact .inl (by simp [h])
  split
  case isTrue => exact (grantLower_stale h).imp_right fun e => ⟨running, e⟩
  split
  case h_1 => exact .inl (by simp [h])
  case h_2 =>
    let v : State := s.setLane n { s.lane n with confirms := [] }
    have drives : v.laneDrive n = s.laneDrive n := laneDrive_congr rfl rfl rfl rfl
    have lower : ((v.grantLower n).lane n).stale = true ∨ _ := grantLower_stale (s := v) (by simp [v, h])
    rw [drives] at lower
    exact lower.imp_right fun e => ⟨running, e⟩

/-! ### What a change at the lamps leaves -/

/-- A move of the guard to where it stands changes nothing. -/
theorem guardTo_unmoved {s : State} {g : Guard} (h : (s.guardTo g).lamps.guard = s.lamps.guard) : s.guardTo g = s := by
  rw [guardTo_lamps] at h
  exact if_pos h

/-- An event at the lamps that does not move the guard only marks lanes stale, beside what `f` does. -/
theorem lampEvent_unmoved {s : State} {f : State → State} (h : (s.lampEvent f).lamps.guard = (f s).lamps.guard) :
    s.lampEvent f = State.markStale s (f s) := by
  unfold State.lampEvent at h ⊢
  dsimp only at h ⊢
  split at h
  case isTrue hl => rw [if_pos hl]
  case isFalse hl =>
    rw [if_neg hl]
    exact guardTo_unmoved (h.trans (by simp))

/-- From `s` to `u` lanes were marked stale and nothing more was done to a lane: those whose drives changed, and, unless the guard moved, no others and no notice made (R136, R140). -/
def State.lampStep (s u : State) : Prop :=
  (∀ n, ∃ b, u.lane n = { s.lane n with stale := (s.lane n).stale || b } ∧
    (s.laneDrive n ≠ u.laneDrive n → b = true) ∧
    (u.lamps.guard = s.lamps.guard → b = decide (s.laneDrive n ≠ u.laneDrive n))) ∧
  (u.lamps.guard = s.lamps.guard → u.notices = s.notices)

/-- Where nothing happens, no lane is marked. -/
theorem lampStep_refl (s : State) : s.lampStep s := ⟨fun n => ⟨false, by simp⟩, fun _ => rfl⟩

/-- An event at the lamps marks lanes stale, if what it does to the lamps touches no lane, guard or notice. -/
theorem lampEvent_lampStep {s : State} {f : State → State} (hl : ∀ n, (f s).lane n = s.lane n)
    (hg : (f s).lamps.guard = s.lamps.guard) (hn : (f s).notices = s.notices) : s.lampStep (s.lampEvent f) := by
  rw [State.lampStep, ← hg]
  refine ⟨fun n => ⟨decide (s.laneDrive n ≠ (f s).laneDrive n) ||
    decide ((f s).laneDrive n ≠ (s.lampEvent f).laneDrive n), ?_, fun differ => ?_, fun unmoved => ?_⟩,
    fun unmoved => ?_⟩
  · rw [lampEvent_lane_stale, hl, Bool.or_assoc]
  · by_cases e : s.laneDrive n = (f s).laneDrive n
    · simp [← e, differ]
    · simp [e]
  · have drives : (s.lampEvent f).laneDrive n = (f s).laneDrive n := by
      rw [lampEvent_unmoved unmoved]
      exact laneDrive_congr (by simp) (by simp) (by simp) (by simp)
    simp [drives]
  · rw [lampEvent_unmoved unmoved, ← hn]
    simp

/-- Two states alike in all that the lanes, their drives and the notices are made of. -/
def State.lampsAlike (s t : State) : Prop :=
  t.lanes = s.lanes ∧ t.cells = s.cells ∧ t.plan = s.plan ∧ t.lamps = s.lamps ∧ t.notices = s.notices ∧
    t.rest.part = s.rest.part

/-- A step at the lamps is one between states alike. -/
theorem lampStep_congr {s s' u u' : State} (hs : s.lampsAlike s') (hu : u'.lampsAlike u) (h : s'.lampStep u') :
    s.lampStep u := by
  obtain ⟨lanes, cells, plan, lamps, notices, part⟩ := hs
  obtain ⟨lanes', cells', plan', lamps', notices', part'⟩ := hu
  unfold State.lampStep State.lane at h ⊢
  simp only [laneDrive_part _ cells' plan' lamps' part', lanes', lamps', notices']
  simpa only [laneDrive_part _ cells plan lamps part, lanes, lamps, notices] using h

/-- A step at the lamps, with the arbiters' grants at the end of its event: changed drives are loaded or marked, and the lanes are steady. -/
theorem finish_lampStep {s u : State} (h : s.lampStep u) :
    s.drivesFollow u.finish ∧ s.drivesAlone u.finish ∧ s.lanesSteady u.finish := by
  obtain ⟨marks, -⟩ := h
  have drives : ∀ n, u.finish.laneDrive n = u.laneDrive n := fun n =>
    laneDrive_congr (by simp) (by simp) (by simp) (by simp)
  have finish_lamps : u.finish.lamps = u.lamps := by simp
  refine ⟨fun n differ => ?_, fun unmoved n => ?_, fun n => ?_⟩
  all_goals obtain ⟨b, lane, marked, only⟩ := marks n
  · rw [drives] at differ ⊢
    have stale : (u.lane n).stale = true := by simp [lane, marked differ]
    have same : (u.lane n).state = (s.lane n).state := by rw [lane]
    rw [finish_lane, ← same]
    exact grant_stale stale
  · have same : u.finish.lamps.guard = u.lamps.guard := by rw [finish_lamps]
    rw [drives, ← only (same.symm.trans unmoved), ← lane]
    exact finish_laneGoes u n
  · refine steady_trans ?_ (finish_steady u n)
    simp [lane, LaneUnit.steady]

/-! ### Hints (R126, R133) -/

/-- A hint posted is a step at the lamps. -/
theorem postHint_lampStep (s : State) (q : QuestId) (r : Option Region) : s.lampStep (s.postHint q r) := by
  cases r with
  | none => exact lampStep_refl s
  | some g =>
    dsimp only [State.postHint, State.setHint]
    exact lampEvent_lampStep (fun _ => rfl) rfl rfl

/-- A hint posted writes the quest's hint, if there is a region, and the guard. -/
theorem postHint_lamps (s : State) (q : QuestId) (r : Option Region) :
    (s.postHint q r).lamps =
      { s.lamps with
        guard := (s.postHint q r).lamps.guard
        hints := if r.isSome then Table.put s.lamps.hints q r else s.lamps.hints } := by
  cases r with
  | none => rfl
  | some g =>
    obtain ⟨guard, h⟩ := lampEvent_lamps s
      fun s => { s with lamps := { s.lamps with hints := Table.put s.lamps.hints q (some g) } }
    simp [State.postHint, State.setHint, h]

end Sys2Proof.Machine
end

section
/-!
START_QUEST (R112): its refusals, and what the start leaves of the quest, the pass, the lamps and the lanes.
-/

namespace Sys2Proof.Machine

open Sys2Proof

/-! ### A request's quest byte -/

/-- A number below a bound of one byte's range is read from its byte. -/
theorem below_byte_of_le {n : Nat} (hn : n ≤ 256) (i : Fin n) : below n (byte i.val) = some i := by
  have h : (byte i.val).toNat = i.val := by simp [byte]; omega
  simp [below, h]

/-- A byte at or above the bound reads as no number. -/
theorem below_eq_none {n : Nat} {a : Byte} (h : n ≤ a.toNat) : below n a = none := by
  simp [below]; omega

/-! ### The patterns a quest names (R112) -/

/-- A quest names a pattern in a FORM or a HOLD stage. -/
theorem names_iff {r : Quest} {p : Fin 32} :
    r.names p = true ↔ ∃ st ∈ r.stages, (∃ m, st.test = .form p m) ∨ ∃ m d, st.test = .hold p m d := by
  have key : ∀ st : Stage, st.test.pattern? = some p ↔ (∃ m, st.test = .form p m) ∨ ∃ m d, st.test = .hold p m d := by
    intro st
    cases st.test <;> simp [StageTest.pattern?]
  simp [Quest.names, key]

/-- A quest names pattern `p` and the pattern is EMPTY. -/
def State.lacks (s : State) (r : Quest) (p : Fin 32) : Prop :=
  Table.read s.patterns p = none ∧ ∃ st ∈ r.stages, (∃ m, st.test = .form p m) ∨ ∃ m d, st.test = .hold p m d

/-- The test of the search for a missing pattern: named, and EMPTY. -/
theorem lacks_iff {s : State} {r : Quest} {p : Fin 32} :
    (r.names p && (Table.read s.patterns p).isNone) = true ↔ s.lacks r p := by
  rw [Bool.and_eq_true, names_iff, Option.isNone_iff_eq_none, and_comm, State.lacks]

/-- The missing pattern of a quest is the lowest that it names and that is EMPTY. -/
theorem missingPattern_eq_some {s : State} {r : Quest} {p : Fin 32} :
    s.missingPattern r = some p ↔ s.lacks r p ∧ ∀ k, k < p → ¬s.lacks r k := by
  rw [State.missingPattern, ← Fin.find?_eq_find?_finRange, Fin.find?_eq_some_iff, lacks_iff]
  simp only [← Bool.not_eq_true, lacks_iff]

/-- A quest has no missing pattern exactly when every pattern it names is DEFINED. -/
theorem missingPattern_eq_none {s : State} {r : Quest} : s.missingPattern r = none ↔ ∀ k, ¬s.lacks r k := by
  rw [State.missingPattern, ← Fin.find?_eq_find?_finRange, Fin.find?_eq_none_iff]
  simp only [← Bool.not_eq_true, lacks_iff]

/-! ### The request -/

/-- The record of a quest started at a clock. -/
def Quest.started (r : Quest) (clock : Nat) : Quest := r.goes .running (r.startProgress clock)

/-- The frame's activity reported and quest `q` started, before the end of the event: its record, a pass wanted, its hint, activity (R112, R128). -/
def State.questStarted (s : State) (q : QuestId) : State :=
  (((s.reportActivity.setQuest q ((s.quest q).started s.play.clock)).wantPass).postHint q
    ((s.quest q).hintOf 0)).reportActivity

/-- A quest byte above 23 is answered BAD_VALUE (R112). -/
theorem exec_startQuest_badValue {s : State} {a : Byte} (h : s.listening) (ha : 23 < a.toNat) :
    exec (.startQuest a) s = .next (s.reportActivity.repliedWith 0x5B .badValue []) := by
  refine exec_answered (takeStartQuest a) rfl h ?_
  rw [takeStartQuest, below_eq_none ha]
  rfl

/-- A quest that is not DORMANT is refused with its state (R112). -/
theorem exec_startQuest_notDormant {s : State} {q : QuestId} (h : s.listening) (hq : (s.quest q).state ≠ .dormant) :
    exec (.startQuest (byte q.val)) s =
      .next (s.reportActivity.repliedWith 0x5B .refused [8, (s.quest q).state.code]) := by
  refine exec_answered (takeStartQuest (byte q.val)) rfl h ?_
  simp [takeStartQuest, below_byte_of_le, hq, refused, answered, Reason.code]

/-- A DORMANT quest with a missing pattern is refused with that pattern (R112). -/
theorem exec_startQuest_missing {s : State} {q : QuestId} {p : Fin 32} (h : s.listening)
    (hq : (s.quest q).state = .dormant) (hp : s.missingPattern (s.quest q) = some p) :
    exec (.startQuest (byte q.val)) s = .next (s.reportActivity.repliedWith 0x5B .refused [6, byte p.val]) := by
  refine exec_answered (takeStartQuest (byte q.val)) rfl h ?_
  have hp' : s.reportActivity.missingPattern (s.quest q) = some p := by simpa [State.missingPattern] using hp
  simp [takeStartQuest, below_byte_of_le, hq, hp', refused, answered, Reason.code]

/-- A DORMANT quest without a missing pattern starts (R112). -/
theorem exec_startQuest_starts {s : State} {q : QuestId} (h : s.listening) (hq : (s.quest q).state = .dormant)
    (hp : s.missingPattern (s.quest q) = none) :
    exec (.startQuest (byte q.val)) s = .next ((s.questStarted q).finish.replied 0x5B []) := by
  refine exec_answered (takeStartQuest (byte q.val)) rfl h ?_
  have hp' : s.reportActivity.missingPattern (s.quest q) = none := by simpa [State.missingPattern] using hp
  simp [takeStartQuest, below_byte_of_le, hq, hp', success, State.questStarted, Quest.started]

/-! ### What the start leaves -/

/-- A quest started is RUNNING on its first stage, with that stage's deadline. -/
theorem started_eq {r : Quest} {first : Stage} {rest : List Stage} (h : r.stages = first :: rest) (clock : Nat) :
    r.started clock =
      { r with
        state := .running
        progress :=
          { r.progress with
            stage := 0, started := some clock, holdSince := none, remaining := none
            deadline := if first.limit = 0 then none else some (min 16777215 (clock + first.limit)) } } := by
  simp [Quest.started, Quest.goes, Quest.startProgress, Quest.limitOf, h, deadlineFrom, clockMax]

/-- The start writes the quest's record and wants a pass, and touches nothing else of the Quest Engine. -/
theorem questStarted_quests (s : State) (q : QuestId) :
    (s.questStarted q).quests = (s.setQuest q ((s.quest q).started s.play.clock)).wantPass.quests := by
  simp [State.questStarted, State.setQuest, State.wantPass]

/-- A pass that starts at the end of an event evaluates every RUNNING quest (R119). -/
theorem finish_inSet {s : State} {q : QuestId} (hw : s.quests.passWanted = true) (hp : s.quests.pass = none)
    (hq : (s.quest q).state = .running) : s.finish.inSet q = true := by
  have running : (s.grantAll.quest q).state = .running := by simpa using hq
  have member : (q, (s.grantAll.quest q).progress.stage) ∈ s.grantAll.runningSet :=
    List.mem_filterMap.2 ⟨q, List.mem_finRange q, if_pos running⟩
  have pass : s.finish.inSet q = s.grantAll.runningSet.any fun e => decide (e.1 = q) := by
    simp [State.finish, State.startPass, State.inSet, hw, hp]
  rw [pass]
  exact List.any_eq_true.2 ⟨_, member, by simp⟩

/-- The quest records after the start: the quest's own, and the others as they were. -/
theorem questStarted_finish_quest (s : State) (q k : QuestId) :
    (s.questStarted q).finish.quest k = if k = q then (s.quest q).started s.play.clock else s.quest k := by
  rw [State.quest, finish_records, questStarted_quests]
  exact Table.read_put ..

/-- The pass that the start wants has started with the quest in its evaluated set, or waits for the one in flight (R112, R119). -/
theorem questStarted_finish_pass (s : State) (q : QuestId) :
    let t := (s.questStarted q).finish
    if s.quests.pass = none then t.quests.passWanted = false ∧ t.inSet q = true
    else t.quests.pass = s.quests.pass ∧ t.quests.passWanted = true := by
  obtain ⟨-, follows⟩ := finish_passFollows (questStarted_quests s q)
  rw [setQuest_pass] at follows
  dsimp only
  split at follows
  case isTrue none_in_flight =>
    rw [if_pos none_in_flight]
    refine ⟨follows.1, finish_inSet ?_ ?_ ?_⟩
    · rw [questStarted_quests, wantPass_passWanted]
    · rw [questStarted_quests, wantPass_pass, setQuest_pass, none_in_flight]
    · rw [State.quest, questStarted_quests, wantPass_records]
      exact congrArg Quest.state (setQuest_quest_same ..)
  case isFalse in_flight => rwa [if_neg in_flight]

/-- The start posts the hint of the first stage, if it has one. -/
theorem questStarted_finish_lamps (s : State) (q : QuestId) :
    let t := (s.questStarted q).finish
    let hint := (s.quest q).hintOf 0
    t.lamps =
      { s.lamps with
        guard := t.lamps.guard, hints := if hint.isSome then Table.put s.lamps.hints q hint else s.lamps.hints } := by
  have h := postHint_lamps (s.reportActivity.setQuest q ((s.quest q).started s.play.clock)).wantPass q
    ((s.quest q).hintOf 0)
  simpa [State.questStarted] using h

/-- The start is a step at the lamps. -/
theorem questStarted_lampStep (s : State) (q : QuestId) : s.lampStep (s.questStarted q) := by
  let v := (s.reportActivity.setQuest q ((s.quest q).started s.play.clock)).wantPass
  refine lampStep_congr (s' := v) (u' := v.postHint q ((s.quest q).hintOf 0)) ?_ ?_ (postHint_lampStep v q _)
  · simp [State.lampsAlike, v]
  · simp [State.lampsAlike, State.questStarted, v]

/-- The start reports the activity that the frame has reported already (R128, R169). -/
theorem questStarted_finish_rest (s : State) (q : QuestId) :
    (s.questStarted q).finish.rest = s.reportActivity.rest := by
  rw [(finish_frame _).2.1, State.questStarted]
  exact (reportActivity_rest_congr (by simp)).trans (reportActivity_rest_idem s)

/-- The start leaves every block but the Quest Engine, the lamps, the notices, the lanes and the Rest Controller. -/
theorem questStarted_finish_sameBut (s : State) (q : QuestId) :
    s.sameBut (s.questStarted q).finish [.quests, .lamps, .notices, .lanes, .rest] := by
  intro k hk
  cases k <;> simp [Component.same, State.questStarted] at hk ⊢

end Sys2Proof.Machine

open Sys2Proof Sys2Proof.Machine

/-- Settles O40: the refusals read off the request; the start from what it leaves at the end of its event. -/
theorem startQuestRunsADormantQuest : Obligations.StartQuestRunsADormantQuest := by
  intro a q p first rest s hs
  refine ⟨exec_startQuest_badValue hs, exec_startQuest_notDormant hs,
    fun hq hp lowest => exec_startQuest_missing hs hq (missingPattern_eq_some.2 ⟨hp, lowest⟩),
    fun hq stages defined => ⟨_, exec_startQuest_starts hs hq (missingPattern_eq_none.2 defined), ?_⟩⟩
  have quest := questStarted_finish_quest s q
  have lamps := questStarted_finish_lamps s q
  obtain ⟨follow, alone, steady⟩ := finish_lampStep (questStarted_lampStep s q)
  have hint : (s.quest q).hintOf 0 = first.hint := by simp [Quest.hintOf, stages]
  rw [hint] at lamps
  refine ⟨?_, fun k hk => ?_, questStarted_finish_pass s q, lamps, ?_, follow, alone, steady,
    questStarted_finish_rest s q, questStarted_finish_sameBut s q⟩
  · rw [quest, if_pos rfl, started_eq stages]
  · rw [quest, if_neg hk]
  · simpa using (questStarted_lampStep s q).2

end

section
/-!
The time bonus (R123): the ticks left of a stage's limit, held between 0 and the limit, as a share of half the reward.
-/

namespace Sys2Proof.Machine

open Sys2Proof

/-- A stage without a limit has no bonus. -/
theorem timeBonus_untimed (reward clock : Nat) (deadline : Option Nat) : timeBonus reward 0 deadline clock = 0 :=
  if_pos rfl

/-- The bonus of a stage with a limit, the ticks left written as R123's three cases. -/
theorem timeBonus_timed {limit : Nat} (reward deadline clock : Nat) (h : 0 < limit) :
    timeBonus reward limit (some deadline) clock =
      (reward * if deadline ≤ clock then 0 else if limit < deadline - clock then limit else deadline - clock) /
        (2 * limit) := by
  have left : min limit (deadline - clock) =
      if deadline ≤ clock then 0 else if limit < deadline - clock then limit else deadline - clock := by
    split <;> [skip; split] <;> omega
  rw [timeBonus, if_neg h.ne', Option.getD_some, left]

/-- The bonus is at most half the reward, since the ticks left are at most the limit. -/
theorem timeBonus_le {limit : Nat} (reward : Nat) (deadline : Option Nat) (clock : Nat) (h : 0 < limit) :
    timeBonus reward limit deadline clock ≤ reward / 2 := by
  rw [timeBonus, if_neg h.ne']
  calc reward * min limit (deadline.getD 0 - clock) / (2 * limit)
      ≤ reward * limit / (2 * limit) := Nat.div_le_div_right (Nat.mul_le_mul_left reward (Nat.min_le_left ..))
    _ = reward / 2 := Nat.mul_div_mul_right reward 2 h

/-- A stage whose deadline the clock has reached has no bonus. -/
theorem timeBonus_late {limit deadline clock : Nat} (reward : Nat) (h : 0 < limit) (late : deadline ≤ clock) :
    timeBonus reward limit (some deadline) clock = 0 := by
  rw [timeBonus_timed reward deadline clock h, if_pos late, Nat.mul_zero, Nat.zero_div]

end Sys2Proof.Machine

open Sys2Proof Sys2Proof.Machine

/-- Settles O44: R123's formula with the ticks left by cases, and its bounds. -/
theorem timeBonus : Obligations.TimeBonus := fun reward _ deadline clock =>
  ⟨timeBonus_untimed reward clock (some deadline), timeBonus_untimed reward clock none, fun h =>
    ⟨timeBonus_timed reward deadline clock h, timeBonus_le reward (some deadline) clock h, timeBonus_late reward h⟩⟩

end

section
/-!
The attention line, SET_NOTICE_MODES and FETCH (R148, R152, R153).
-/

namespace Sys2Proof.Machine

open Sys2Proof

/-- A report of activity leaves the Notice Unit. -/
theorem reportActivity_notices (s : State) : s.reportActivity.notices = s.notices := by simp

/-- The Notice Unit replaced, after the start byte of the request was reported as activity (R159, R169). -/
def State.withNotices (s : State) (u : NoticeUnit) : State := { s.reportActivity with notices := u }

/-! ### The attention line (R152) -/

/-- ATTN is asserted by a running part whose queue holds a notice of a class that is LOUD now. -/
theorem attn_iff (s : State) :
    s.attn = true ↔ s.chip = .running ∧ ∃ n ∈ s.notices.queue, s.notices.modes.of n.body.class = .loud := by
  simp only [State.attn, Bool.and_eq_true, List.any_eq_true, decide_eq_true_eq]

/-! ### Modes and their codes (section 12.3) -/

/-- A mode is read from its code. -/
theorem modeOf_code (m : ClassMode) : modeOf m.code = some m := by cases m <;> rfl

/-- A byte above 2 is the code of no mode. -/
theorem modeOf_eq_none {b : Byte} (h : 2 < b.toNat) : modeOf b = none := by
  unfold modeOf
  split
  case h_4 => rfl
  all_goals omega

/-! ### SET_NOTICE_MODES (R148) -/

/-- Four codes give the four modes, and the request answers with the modes before. -/
theorem exec_setNoticeModes_codes {s : State} (f q p b : ClassMode) (h : s.listening) :
    exec (.setNoticeModes f.code q.code p.code b.code) s =
      .next
        ((s.withNotices { s.notices with modes := { fault := f, quest := q, play := p, board := b } }).replied 0x07
          s.notices.modes.bytes) := by
  refine exec_answered (takeSetNoticeModes f.code q.code p.code b.code) rfl h ?_
  simp only [takeSetNoticeModes, modeOf_code, reportActivity_notices]
  rfl

/-- One byte that is no mode's code keeps the block from taking any of the four. -/
theorem takeSetNoticeModes_badValue {f q p b : Byte} (s : State)
    (h : 2 < f.toNat ∨ 2 < q.toNat ∨ 2 < p.toNat ∨ 2 < b.toNat) : takeSetNoticeModes f q p b s = badValue s := by
  unfold takeSetNoticeModes
  split
  case h_1 hf hq hp hb =>
    rcases h with h | h | h | h
    · rw [modeOf_eq_none h] at hf; contradiction
    · rw [modeOf_eq_none h] at hq; contradiction
    · rw [modeOf_eq_none h] at hp; contradiction
    · rw [modeOf_eq_none h] at hb; contradiction
  case h_2 => rfl

/-- A byte that is no mode's code is answered BAD_VALUE, and no mode changes. -/
theorem exec_setNoticeModes_badValue {s : State} {f q p b : Byte} (hs : s.listening)
    (h : 2 < f.toNat ∨ 2 < q.toNat ∨ 2 < p.toNat ∨ 2 < b.toNat) :
    exec (.setNoticeModes f q p b) s = .next (s.reportActivity.repliedWith 0x07 .badValue []) :=
  exec_answered (takeSetNoticeModes f q p b) rfl hs (takeSetNoticeModes_badValue _ h)

/-! ### FETCH (R153) -/

/-- A count of 0 or above 4 is answered BAD_VALUE. -/
theorem exec_fetch_badValue {s : State} {k : Byte} (hs : s.listening) (h : k.toNat = 0 ∨ 4 < k.toNat) :
    exec (.fetch k) s = .next (s.reportActivity.repliedWith 0x06 .badValue []) :=
  exec_answered (takeFetch k) rfl hs (if_pos h)

/-- A count of 1 to 4 takes that many notices from the head, or all there are, and zeroes the dropped count. -/
theorem exec_fetch_takes {s : State} {k : Byte} (hs : s.listening) (low : 1 ≤ k.toNat) (high : k.toNat ≤ 4) :
    exec (.fetch k) s =
      .next
        ((s.withNotices { s.notices with queue := s.notices.queue.drop k.toNat, dropped := 0 }).replied 0x06
          (byte (min k.toNat s.notices.queue.length) ::
            ((s.notices.queue.take k.toNat).flatMap Notice.bytes ++
              [byte (s.notices.queue.length - k.toNat), byte s.notices.dropped]))) := by
  have inRange : ¬(k.toNat = 0 ∨ 4 < k.toNat) := by omega
  refine exec_answered (takeFetch k) rfl hs ?_
  simp only [takeFetch, if_neg inRange, reportActivity_notices, List.length_take, List.length_drop]
  rfl

end Sys2Proof.Machine

open Sys2Proof Sys2Proof.Machine

/-- Settles O10: ATTN read off the queue and the modes, and the accepted and the refused case of each request. -/
theorem modesAttnAndFetch : Obligations.ModesAttnAndFetch :=
  ⟨fun f q p b _ _ _ _ s =>
    ⟨attn_iff s, fun hs => ⟨exec_setNoticeModes_codes f q p b hs, exec_setNoticeModes_badValue hs⟩⟩,
    fun _ _ hs =>
      ⟨fun bad => exec_fetch_badValue hs (bad.imp_left (congrArg BitVec.toNat)), exec_fetch_takes hs⟩⟩

end

section
/-!
What a step can do, said once: the states a request's owning block can leave, those an event can leave, and the law that a property kept by each of these is kept by every step.
-/

namespace Sys2Proof.Machine

open Sys2Proof

/-! ### Requests -/

/-- The states that the owning block of a request can leave, before its reply is formed (R161); `true` for a request that stays in hand, without a reply yet (R162). -/
inductive RequestLeaves (s : State) : Bool → State → Prop
  | same : RequestLeaves s false s
  | restarts : RequestLeaves s false { s with link := { s.link with ignoring := true } }
  | newGame : RequestLeaves s false s.newGame.finish
  | setsRest (delay : Nat) (autoPause : Bool) :
    RequestLeaves s false
      { s with
        rest :=
          { s.rest with
            delay := restDelay delay, autoPause := autoPause
            activity := if s.rest.part = .ready then fullActivity (restDelay delay) else s.rest.activity } }
  | fetches (k : Nat) : RequestLeaves s false { s with notices := { s.notices with queue := s.notices.queue.drop k, dropped := 0 } }
  | setsModes (m : Modes) : RequestLeaves s false { s with notices := { s.notices with modes := m } }
  | places (n : Lane) (p : Placement) (grid : p.onGrid = true) (apart : s.overlapLane n p = none) :
    RequestLeaves s false (s.replace n (some p)).finish
  | unplaces (n : Lane) : RequestLeaves s false (s.replace n none).finish
  | parkWaits (n : Lane) (running : (s.lane n).state = .running) :
    RequestLeaves s true
      { s.setLane n { s.lane n with parkWaiting := true } with link := { s.link with inHand := some (.parkLane n) } }
  | parks (n : Lane) : RequestLeaves s false (s.park n).finish
  | links (n : Lane) (parked : (s.lane n).state = .parked) :
    RequestLeaves s false
      (s.setLane n { s.lane n with state := .linking, returnState := some .lost, settle := some 200, hold := none })
  | unparks (n : Lane) (parked : (s.lane n).state = .parked) :
    RequestLeaves s false ((s.setLane n { s.lane n with state := .lost, returnState := none, hold := none }).startHold n).finish
  | checks (n : Lane) (running : (s.lane n).state = .running) :
    RequestLeaves s true
      { s.setLane n { s.lane n with checkPending := true } with
        link := { s.link with inHand := some (.laneCheck n) } }.finish
  | watches (w : Watch) : RequestLeaves s false { s with watch := w }
  | retires (c : CellId) (other : (s.cell c).state ≠ .retired) : RequestLeaves s false (s.retire c false).finish
  | reinstates (c : CellId) : RequestLeaves s false (s.reinstate c).finish
  | clearsFault : RequestLeaves s false { s with firstFault := none }
  | senses (v : Sensing) (ranges : s.sensing.inRange → v.inRange) : RequestLeaves s false { s with sensing := v }
  | enrolls (e : RosterEntry) (room : s.roster.find e.serial = none → s.roster.entries.length < rosterRoom) :
    RequestLeaves s false
      (State.rejudge { s with roster := { s.roster with entries := insertEntry e s.roster.entries } } (some e.serial)).finish
  | withdraws (x : Serial) :
    RequestLeaves s false
      (State.rejudge
        { s with roster := { s.roster with entries := s.roster.entries.filter fun d => decide (d.serial ≠ x) } }
        (some x)).finish
  | setsPolicy (closed : Bool) (editions : BitVec 32) :
    RequestLeaves s false
      (State.rejudge { s with roster := { s.roster with closed := closed, editions := editions } } none).finish
  | setsTurn (turns : Bool) (np current : Player) (perTurn : Nat) (some_play : 1 ≤ np)
    (plays : if turns = true then 1 ≤ current ∧ current ≤ np else current = 0) (few : perTurn ≤ 9) :
    RequestLeaves s false
      { s with
        play :=
          { s.play with
            turns := turns, np := np, current := current, turnNumber := 1, moves := 0, movesPerTurn := perTurn } }
  | endsTurn (turns : s.play.turns = true) : RequestLeaves s false (s.endTurn true)
  | runsClock (run : Bool) : RequestLeaves s false (s.setClockRunning run false)
  | setsClock (v : Nat) (low : v ≤ clockMax) : RequestLeaves s false { s with play := { s.play with clock := v } }
  | setsScores (scores : Table 5 Nat) (low : ∀ k, Table.read scores k ≤ scoreMax) :
    RequestLeaves s false { s with play := { s.play with scores := scores } }
  | setsPattern (p : Fin 32) (d : Option Pattern) (free : s.usedBy p = none) : RequestLeaves s false (s.setPattern p d)
  | definesQuest (q : QuestId) (owner : Player) (stages : List Stage) (some_stage : 1 ≤ stages.length)
    (few : stages.length ≤ 4) (idle : (s.quest q).inPlay = false) :
    RequestLeaves s false
      (s.setQuest q { state := .dormant, owner := owner, stages := stages, progress := Progress.fresh })
  | erasesQuest (q : QuestId) (idle : (s.quest q).state ≠ .running) :
    RequestLeaves s false ((s.setQuest q Quest.blank).leaveSet q)
  | startsQuest (q : QuestId) (dormant : (s.quest q).state = .dormant) (defined : s.missingPattern (s.quest q) = none) :
    RequestLeaves s false
      (((s.setQuest q ((s.quest q).goes .running ((s.quest q).startProgress s.play.clock))).wantPass.postHint q
        ((s.quest q).hintOf 0)).reportActivity).finish
  | pausesQuest (q : QuestId) (running : (s.quest q).state = .running) :
    RequestLeaves s false
      (((s.setQuest q ((s.quest q).goes .paused ((s.quest q).pauseProgress s.play.clock))).setHint q none).leaveSet
        q).reportActivity.finish
  | resumesQuest (q : QuestId) (paused : (s.quest q).state = .paused) :
    RequestLeaves s false
      (((s.setQuest q ((s.quest q).goes .running ((s.quest q).resumeProgress s.play.clock))).wantPass.postHint q
        ((s.quest q).hintOf (s.quest q).progress.stage)).reportActivity).finish
  | abandonsQuest (q : QuestId) (playing : (s.quest q).inPlay = true) :
    RequestLeaves s false (s.failQuest q .abandoned).finish
  | setsProgress (q : QuestId) (stage earned : Nat) (within : stage < (s.quest q).stages.length) (low : earned ≤ 1500)
    (known : (s.quest q).state ≠ .empty) (idle : (s.quest q).inPlay = false)
    (defined : s.missingPattern (s.quest q) = none) :
    RequestLeaves s false
      (s.setQuest q ((s.quest q).goes .paused ((s.quest q).setProgress stage earned s.play.clock))).reportActivity
  | setsLamps (cells : List CellId) (v : LampSetting) :
    RequestLeaves s false (s.lampEvent fun s => s.setHost cells v).finish
  | playsCue (c : Fin 16) (room : s.lamps.cues.length < cueRoom) : RequestLeaves s false (s.enqueueCue c).finish
  | stopsCues : RequestLeaves s false s.stopCues.finish
  | setsLimit (l : Nat) (low : 16 ≤ l) (high : l ≤ 200) :
    RequestLeaves s false ({ s with lamps := { s.lamps with limit := l } } : State).evalGuard.finish

/-- A value held within bounds lies within them. -/
theorem clamp_mem {lo hi : Nat} (h : lo ≤ hi) (v : Nat) : lo ≤ clamp lo hi v ∧ clamp lo hi v ≤ hi := by
  unfold clamp
  omega

/-- A block that answers SUCCESS leaves the state it answers from. -/
theorem success_leaves {s t : State} {data : List Byte} (h : RequestLeaves s false t) : RequestLeaves s false (success t data).1 := h

/-- A block that keeps its request in hand leaves the state it gives. -/
theorem unanswered_leaves {s t : State} (h : RequestLeaves s true t) :
    ∃ b, RequestLeaves s b ((t, none) : Taken).1 ∧ (b = true → ((t, none) : Taken).2 = none) :=
  ⟨true, h, fun _ => rfl⟩

/-- A block that answers leaves the state it answers from. -/
theorem answered_leaves {s : State} {a : Taken} (h : RequestLeaves s false a.1) :
    ∃ b, RequestLeaves s b a.1 ∧ (b = true → a.2 = none) :=
  ⟨false, h, nofun⟩

section Blocks

variable (s : State)

theorem takePlaceSegment_leaves (n x y h : Byte) : RequestLeaves s false (takePlaceSegment n x y h s).1 := by
  unfold takePlaceSegment
  split
  case h_1 n x y t _ _ _ _ =>
    dsimp only
    split
    case isTrue grid =>
      split
      case h_1 => exact .same
      case h_2 apart => exact success_leaves (.places n _ grid apart)
    case isFalse => exact .same
  case h_2 => exact .same

theorem takeUnplaceSegment_leaves (n : Byte) : RequestLeaves s false (takeUnplaceSegment n s).1 := by
  unfold takeUnplaceSegment
  split
  case h_1 => exact .same
  case h_2 n _ =>
    split
    · exact success_leaves (.unplaces n)
    · exact .same

theorem takeParkLane_leaves (n : Byte) :
    ∃ b, RequestLeaves s b (takeParkLane n s).1 ∧ (b = true → (takeParkLane n s).2 = none) := by
  unfold takeParkLane
  split
  case h_1 => exact answered_leaves .same
  case h_2 n _ =>
    dsimp only
    split
    case isTrue busy => exact unanswered_leaves (.parkWaits n busy.1)
    case isFalse => exact answered_leaves (success_leaves (.parks n))

theorem takeRunLane_leaves (n : Byte) : RequestLeaves s false (takeRunLane n s).1 := by
  unfold takeRunLane
  split
  case h_1 => exact .same
  case h_2 n _ =>
    dsimp only
    split
    case isTrue => exact .same
    case isFalse parked =>
      split
      · exact success_leaves (.links n (not_not.1 parked))
      · exact success_leaves (.unparks n (not_not.1 parked))

theorem takeLaneCheck_leaves (n : Byte) :
    ∃ b, RequestLeaves s b (takeLaneCheck n s).1 ∧ (b = true → (takeLaneCheck n s).2 = none) := by
  unfold takeLaneCheck
  split
  case h_1 => exact answered_leaves .same
  case h_2 n _ =>
    dsimp only
    split
    case isTrue => exact answered_leaves .same
    case isFalse running => exact unanswered_leaves (.checks n (not_not.1 running))

theorem takeGetCell_same (f a b : Byte) : (takeGetCell f a b s).1 = s := by
  unfold takeGetCell
  (repeat' split) <;> rfl

theorem select_leaves (c : Option CellId) : RequestLeaves s false (s.select c) := by
  unfold State.select
  split
  · exact .same
  · exact .watches _

theorem takeWatchCell_leaves (n c : Byte) : RequestLeaves s false (takeWatchCell n c s).1 := by
  unfold takeWatchCell
  split
  · exact select_leaves s none
  · split
    · exact select_leaves s _
    · exact .same

theorem takeRetireCell_leaves (n c : Byte) : RequestLeaves s false (takeRetireCell n c s).1 := by
  unfold takeRetireCell
  split
  case h_1 => exact .same
  case h_2 c _ =>
    split
    case isTrue => exact .same
    case isFalse other => exact success_leaves (.retires c other)

theorem takeReinstateCell_leaves (n c : Byte) : RequestLeaves s false (takeReinstateCell n c s).1 := by
  unfold takeReinstateCell
  split
  case h_1 => exact .same
  case h_2 c _ =>
    split
    · exact success_leaves (.reinstates c)
    · exact .same

theorem takeSetSensing_leaves (a l h f t : Byte) : RequestLeaves s false (takeSetSensing a l h f t s).1 := by
  unfold takeSetSensing
  split
  case isTrue => exact .same
  case isFalse =>
    refine success_leaves (.senses _ ?_)
    rintro ⟨-, -, -, -, -, floors⟩
    have arrive := clamp_mem (show 1 ≤ 8 by decide) a.toNat
    have lift := clamp_mem (show 1 ≤ 15 by decide) l.toNat
    refine ⟨arrive.1, arrive.2, lift.1, lift.2, Nat.le_of_lt_succ h.isLt, fun n => ?_⟩
    rw [Table.read_each]
    split
    · exact clamp_mem (by decide) _
    · exact floors n

theorem takeEnroll_leaves (x : BitVec 24) (o b : Byte) : RequestLeaves s false (takeEnroll x o b s).1 := by
  unfold takeEnroll
  split
  case h_1 x o b _ _ _ =>
    dsimp only
    split
    case isTrue => exact .same
    case isFalse room =>
      refine success_leaves (.enrolls { serial := x, owner := o, banned := decide (b = 1) } fun unknown => ?_)
      by_contra full
      exact room (by simp [unknown, Nat.not_lt.1 full])
  case h_2 => exact .same

theorem takeWithdraw_leaves (x : BitVec 24) : RequestLeaves s false (takeWithdraw x s).1 := by
  unfold takeWithdraw
  split
  case h_1 => exact .same
  case h_2 x _ =>
    split
    · exact .same
    · exact success_leaves (.withdraws x)

theorem takeGetTile_same (x : BitVec 24) : (takeGetTile x s).1 = s := by
  unfold takeGetTile
  split <;> rfl

theorem takeSetRosterPolicy_leaves (p : Byte) (e : BitVec 32) : RequestLeaves s false (takeSetRosterPolicy p e s).1 := by
  unfold takeSetRosterPolicy
  split
  case h_1 => exact .same
  case h_2 p _ => exact success_leaves (.setsPolicy _ e)

theorem takeSetTurn_leaves (m n c k : Byte) : RequestLeaves s false (takeSetTurn m n c k s).1 := by
  unfold takeSetTurn
  split
  case h_1 => exact .same
  case h_2 turns np current h =>
    unfold turnSetting at h
    split at h
    case h_2 => cases h
    case h_1 =>
      split at h
      case isTrue => cases h
      case isFalse range =>
        have np_pos : ∀ p : Player, p ≠ 0 → 1 ≤ p := fun p hp => Fin.one_le_of_ne_zero hp
        split at h
        case isTrue =>
          cases h
          exact success_leaves (.setsTurn false _ _ _ (np_pos _ (by tauto)) rfl (by omega))
        case isFalse =>
          split at h
          case h_2 => cases h
          case h_1 c _ =>
            split at h
            case isTrue => cases h
            case isFalse low =>
              cases h
              exact success_leaves (.setsTurn true _ _ _ (np_pos _ (by tauto))
                ⟨np_pos _ (by tauto), Fin.not_lt.1 (not_or.1 low).2⟩ (by omega))

theorem takeEndTurn_leaves : RequestLeaves s false (takeEndTurn s).1 := by
  unfold takeEndTurn
  split
  case isTrue turns => exact success_leaves (.endsTurn turns)
  case isFalse => exact .same

theorem takeClockRun_leaves : RequestLeaves s false (takeClockRun s).1 := by
  unfold takeClockRun success
  split
  · exact .same
  · exact success_leaves (.runsClock true)

theorem takeClockPause_leaves : RequestLeaves s false (takeClockPause s).1 := by
  unfold takeClockPause success
  split
  · exact success_leaves (.runsClock false)
  · exact .same

theorem takeSetClock_leaves (v : BitVec 24) : RequestLeaves s false (takeSetClock v s).1 := by
  unfold takeSetClock
  split
  · exact .same
  · exact success_leaves (.setsClock _ (Nat.le_of_lt_succ v.isLt))

theorem takeSetScores_leaves (a b c d t : BitVec 16) : RequestLeaves s false (takeSetScores a b c d t s).1 := by
  refine success_leaves (.setsScores (heldScores a b c d t) fun k => ?_)
  obtain ⟨h1, h2, h3, h4, h0⟩ := read_heldScores a b c d t
  have held : ∀ v, heldScore v ≤ scoreMax := fun v => Nat.min_le_left ..
  fin_cases k
  · exact h0.trans_le (held t)
  · exact h1.trans_le (held a)
  · exact h2.trans_le (held b)
  · exact h3.trans_le (held c)
  · exact h4.trans_le (held d)

theorem changePattern_leaves (p : Fin 32) (d : Option Pattern) : RequestLeaves s false (s.changePattern p d).1 := by
  unfold State.changePattern
  split
  case h_1 => exact .same
  case h_2 free => exact success_leaves (.setsPattern p d free)

theorem takeDefinePattern_leaves (p n r a x y : Byte) (ps : Table 6 PieceBytes) :
    RequestLeaves s false (takeDefinePattern p n r a x y ps s).1 := by
  unfold takeDefinePattern
  split
  case h_2 => exact .same
  case h_1 =>
    split
    case isTrue => exact .same
    case isFalse =>
      split
      case h_1 => exact .same
      case h_2 =>
        dsimp only
        split
        · exact .same
        · exact changePattern_leaves s _ _

theorem takeErasePattern_leaves (p : Byte) : RequestLeaves s false (takeErasePattern p s).1 := by
  unfold takeErasePattern
  split
  · exact .same
  · exact changePattern_leaves s _ _

theorem takeGetPattern_same (p : Byte) : (takeGetPattern p s).1 = s := by
  unfold takeGetPattern
  split <;> rfl

theorem takeCountPattern_same (p f x : Byte) : (takeCountPattern p f x s).1 = s := by
  unfold takeCountPattern
  (repeat' split) <;> rfl

/-- Stage records read are as many as the records given. -/
theorem readStages_length (o : Player) : ∀ (l : List StageBytes) (j : Nat) {sts : List Stage},
    readStages o j l = .ok sts → sts.length = l.length
  | [], j, sts, h => by cases h; rfl
  | b :: rest, j, sts, h => by
    unfold readStages at h
    split at h
    case h_1 => cases h
    case h_2 =>
      split at h
      case h_2 => cases h
      case h_1 ih =>
        cases h
        simp [readStages_length o rest (j + 1) ih]

theorem takeDefineQuest_leaves (q o n : Byte) (ts : Table 4 StageBytes) :
    RequestLeaves s false (takeDefineQuest q o n ts s).1 := by
  unfold takeDefineQuest
  split
  case h_1 => exact .same
  case h_2 q _ =>
    split
    case h_1 => exact .same
    case h_2 =>
      split
      case isTrue => exact .same
      case isFalse count =>
        split
        case h_1 => exact .same
        case h_2 sts read =>
          have length : sts.length = n.toNat := by
            rw [readStages_length _ _ _ read, List.length_take, Vector.length_toList]
            omega
          split
          case isTrue => exact .same
          case isFalse idle => exact success_leaves (.definesQuest q _ sts (by omega) (by omega) (by simpa using idle))

theorem takeEraseQuest_leaves (q : Byte) : RequestLeaves s false (takeEraseQuest q s).1 := by
  unfold takeEraseQuest
  split
  case h_1 => exact .same
  case h_2 q _ =>
    split
    case isTrue => exact .same
    case isFalse idle => exact success_leaves (.erasesQuest q idle)

theorem takeGetQuest_same (q : Byte) : (takeGetQuest q s).1 = s := by
  unfold takeGetQuest
  split
  · rfl
  · dsimp only
    split <;> rfl

theorem takeStartQuest_leaves (q : Byte) : RequestLeaves s false (takeStartQuest q s).1 := by
  unfold takeStartQuest
  split
  case h_1 => exact .same
  case h_2 q _ =>
    dsimp only
    split
    case isTrue => exact .same
    case isFalse dormant =>
      split
      case h_1 => exact .same
      case h_2 defined => exact success_leaves (.startsQuest q (not_not.1 dormant) defined)

theorem takePauseQuest_leaves (q : Byte) : RequestLeaves s false (takePauseQuest q s).1 := by
  unfold takePauseQuest
  split
  case h_1 => exact .same
  case h_2 q _ =>
    dsimp only
    split
    case isTrue => exact .same
    case isFalse running => exact success_leaves (.pausesQuest q (not_not.1 running))

theorem takeResumeQuest_leaves (q : Byte) : RequestLeaves s false (takeResumeQuest q s).1 := by
  unfold takeResumeQuest
  split
  case h_1 => exact .same
  case h_2 q _ =>
    dsimp only
    split
    case isTrue => exact .same
    case isFalse paused => exact success_leaves (.resumesQuest q (not_not.1 paused))

theorem takeAbandonQuest_leaves (q : Byte) : RequestLeaves s false (takeAbandonQuest q s).1 := by
  unfold takeAbandonQuest
  split
  case h_1 => exact .same
  case h_2 q _ =>
    split
    case isTrue playing => exact success_leaves (.abandonsQuest q playing)
    case isFalse => exact .same

theorem takeSetProgress_leaves (q t : Byte) (e : BitVec 16) : RequestLeaves s false (takeSetProgress q t e s).1 := by
  unfold takeSetProgress
  split
  case h_1 => exact .same
  case h_2 q _ =>
    dsimp only
    split
    case isTrue => exact .same
    case isFalse range =>
      split
      case isTrue => exact .same
      case isFalse within =>
        split
        case isTrue => exact .same
        case isFalse known =>
          split
          case isTrue => exact .same
          case isFalse idle =>
            split
            case h_1 => exact .same
            case h_2 defined =>
              refine success_leaves (.setsProgress q _ _ ?_ (by omega) known (by simpa using idle) defined)
              exact Nat.lt_of_not_le fun h => within ⟨known, h⟩

theorem takeSetLamps_leaves (a b c d t : Byte) : RequestLeaves s false (takeSetLamps a b c d t s).1 := by
  unfold takeSetLamps
  split
  case h_1 => exact .same
  case h_2 v _ =>
    split
    · exact .same
    · exact success_leaves (.setsLamps _ v)

theorem takeGetLamps_same (n : Byte) : (takeGetLamps n s).1 = s := by
  unfold takeGetLamps
  split <;> rfl

theorem takePlayCue_leaves (c : Byte) : RequestLeaves s false (takePlayCue c s).1 := by
  unfold takePlayCue
  split
  case h_1 => exact .same
  case h_2 c _ =>
    split
    case isTrue => exact .same
    case isFalse room => exact success_leaves (.playsCue c (Nat.lt_of_not_le room))

theorem takeSetLoadLimit_leaves (l : Byte) : RequestLeaves s false (takeSetLoadLimit l s).1 :=
  have range := clamp_mem (show 16 ≤ 200 by decide) l.toNat
  success_leaves (.setsLimit _ range.1 range.2)

theorem takeSetRest_leaves (d : BitVec 16) (a : Byte) : RequestLeaves s false (takeSetRest d a s).1 := by
  unfold takeSetRest
  split
  · exact .same
  · exact success_leaves (.setsRest _ _)

theorem takeFetch_leaves (k : Byte) : RequestLeaves s false (takeFetch k s).1 := by
  unfold takeFetch
  split
  · exact .same
  · exact success_leaves (.fetches _)

theorem takeSetNoticeModes_leaves (f q p b : Byte) : RequestLeaves s false (takeSetNoticeModes f q p b s).1 := by
  unfold takeSetNoticeModes
  split
  · exact success_leaves (.setsModes _)
  · exact .same

/-- Every owning block leaves one of the listed states (R161). -/
theorem takeRequest_leaves (i : Instr) :
    ∃ b, RequestLeaves s b (takeRequest i s).1 ∧ (b = true → (takeRequest i s).2 = none) := by
  cases i
  case parkLane => exact takeParkLane_leaves ..
  case laneCheck => exact takeLaneCheck_leaves ..
  all_goals refine answered_leaves ?_
  case restart => exact success_leaves .restarts
  case newGame => exact success_leaves .newGame
  case setRest => exact takeSetRest_leaves ..
  case fetch => exact takeFetch_leaves ..
  case setNoticeModes => exact takeSetNoticeModes_leaves ..
  case placeSegment => exact takePlaceSegment_leaves ..
  case unplaceSegment => exact takeUnplaceSegment_leaves ..
  case runLane => exact takeRunLane_leaves ..
  case getCell f a b => exact (takeGetCell_same s f a b).symm ▸ .same
  case watchCell => exact takeWatchCell_leaves ..
  case getWatch => exact success_leaves (.watches _)
  case retireCell => exact takeRetireCell_leaves ..
  case reinstateCell => exact takeReinstateCell_leaves ..
  case clearFirstFault => exact success_leaves .clearsFault
  case setSensing => exact takeSetSensing_leaves ..
  case enroll => exact takeEnroll_leaves ..
  case withdraw => exact takeWithdraw_leaves ..
  case getTile x => exact (takeGetTile_same s x).symm ▸ .same
  case setRosterPolicy => exact takeSetRosterPolicy_leaves ..
  case setTurn => exact takeSetTurn_leaves ..
  case endTurn => exact takeEndTurn_leaves ..
  case clockRun => exact takeClockRun_leaves ..
  case clockPause => exact takeClockPause_leaves ..
  case setClock => exact takeSetClock_leaves ..
  case setScores => exact takeSetScores_leaves ..
  case definePattern => exact takeDefinePattern_leaves ..
  case erasePattern => exact takeErasePattern_leaves ..
  case getPattern p => exact (takeGetPattern_same s p).symm ▸ .same
  case countPattern p f x => exact (takeCountPattern_same s p f x).symm ▸ .same
  case defineQuest => exact takeDefineQuest_leaves ..
  case eraseQuest => exact takeEraseQuest_leaves ..
  case getQuest q => exact (takeGetQuest_same s q).symm ▸ .same
  case startQuest => exact takeStartQuest_leaves ..
  case pauseQuest => exact takePauseQuest_leaves ..
  case resumeQuest => exact takeResumeQuest_leaves ..
  case abandonQuest => exact takeAbandonQuest_leaves ..
  case setProgress => exact takeSetProgress_leaves ..
  case setLamps => exact takeSetLamps_leaves ..
  case getLamps n => exact (takeGetLamps_same s n).symm ▸ .same
  case playCue => exact takePlayCue_leaves ..
  case stopCues => exact success_leaves .stopsCues
  case setLoadLimit => exact takeSetLoadLimit_leaves ..
  all_goals exact .same

end Blocks

end Sys2Proof.Machine
end

section
/-!
The same for the events, and the laws by which a property is shown to be kept by every step.
-/

namespace Sys2Proof.Machine

open Sys2Proof

/-! ### Events -/

/-- The states that an event of the timers, the lanes, the pass or the rest can leave, where it is due. -/
inductive EventLeaves (s : State) : State → Prop
  | startsUp (starting : s.rest.part = .starting) : EventLeaves s s.becomeReady
  | settles (settling : s.lamps.guard = .settling) : EventLeaves s s.endSettle.finish
  | ticksClockFirst : EventLeaves s s.restartTick.tickClock.tickLamps.finish
  | ticksLampsFirst : EventLeaves s s.restartTick.tickLamps.tickClock.finish
  | completesHold (q : QuestId) (st : Stage) (due : s.holdDue q = some st) :
    EventLeaves s (s.advance q st true s.epoch).finish
  | expiresDeadline (q : QuestId) (due : s.deadlineDue q = true) : EventLeaves s (s.failQuest q .time).finish
  | removesFlash (q : QuestId) : EventLeaves s (s.removeFlash q).finish
  | blinks : EventLeaves s s.toggleBlink.finish
  | endsCue : EventLeaves s s.endCue.finish
  | seesConnector (n : Lane) : EventLeaves s ((s.setConnector n true).seeConnector n).finish
  | losesConnector (n : Lane) : EventLeaves s ((s.setConnector n false).dropConnector n).finish
  | linksLane (n : Lane) (linking : (s.lane n).state = .linking) : EventLeaves s (s.linkLane n).finish
  | expiresHold (n : Lane) (held : (s.lane n).hold.isSome = true) : EventLeaves s (s.expireHold n).finish
  | completesPark (n : Lane) (due : (s.lane n).parkDue = true) : EventLeaves s (s.completePark n).finish
  | endsPace (n : Lane) (running : (s.lane n).state = .running) : EventLeaves s (s.endPace n).finish
  | sweeps (n : Lane) (running : (s.lane n).state = .running) : EventLeaves s (s.beginSweep n).finish
  | reads (n : Lane) (c : CellId) (k : SlotKind) (marks : List Mark) (flight : s.readInFlight n = some (c, k)) :
    EventLeaves s (s.endRead c k (hear false marks)).finish
  | loadsLamps (n : Lane) (copy : Table 12 Drive) (flight : s.lampInFlight n = some copy) :
    EventLeaves s (s.setLane n { s.lane n with slot := none, latch := copy }).finish
  | endsCheck (n : Lane) (r : RawResult) (flight : (s.lane n).slot = some .check) :
    EventLeaves s (s.endCheckSlot n r).finish
  | commitsPass : EventLeaves s s.commitPass.finish
  | expiresActivity (runs : s.rest.activity.runs = true) :
    EventLeaves s (State.restIfDue { s with rest := { s.rest with activity := .expired } }).finish
  | rests : EventLeaves s s.restIfDue.finish

/-- An event that no request carries and that is none of the link's and none of the reset's. -/
def isTimed : Instr → Bool
  | .startUpEnd | .guardSettleEnd | .tick _ | .holdComplete _ | .deadlineExpiry _ | .flashExpiry _ | .blinkPhaseChange
  | .cueEnd | .connectorSeen _ | .connectorLost _ | .linkSettleEnd _ | .holdTimerExpiry _ | .parkComplete _
  | .scanPaceExpiry _ | .sweepTimer _ | .readSlotEnd _ _ | .lampSlotEnd _ | .checkSlotEnd _ _ | .passCommit
  | .activityTimerExpiry | .restEntry => true
  | _ => false

/-- Such an event changes nothing, or leaves one of the listed states. -/
theorem exec_timed {i : Instr} {s t : State} (hi : isTimed i = true) (running : s.chip = .running)
    (h : exec i s = .next t) : t = s ∨ EventLeaves s t := by
  have taken : ∀ (f : State → State), Host.Outcome.next (s.live f) = (Host.Outcome.next t : Host.Outcome State Fault Refusal) → t = f s := by
    intro f hf
    rw [live_running f running] at hf
    exact (Host.Outcome.next.inj hf).symm
  cases i
  case startUpEnd =>
    rw [taken _ h]
    split
    case isTrue due => exact .inr (.startsUp due.1)
    case isFalse => exact .inl rfl
  case guardSettleEnd =>
    rw [taken _ h]
    split
    case isTrue due => exact .inr (.settles due.1)
    case isFalse => exact .inl rfl
  case tick order =>
    rw [taken _ h]
    cases order
    · exact .inr .ticksClockFirst
    · exact .inr .ticksLampsFirst
  case holdComplete q =>
    rw [taken _ h]
    split
    case h_1 due => exact .inr (.completesHold q _ due)
    case h_2 => exact .inl rfl
  case deadlineExpiry q =>
    rw [taken _ h]
    split
    case isTrue due => exact .inr (.expiresDeadline q due.2.2)
    case isFalse => exact .inl rfl
  case flashExpiry q =>
    rw [taken _ h]
    split
    · exact .inr (.removesFlash q)
    · exact .inl rfl
  case blinkPhaseChange =>
    rw [taken _ h]
    split
    · exact .inr .blinks
    · exact .inl rfl
  case cueEnd =>
    rw [taken _ h]
    split
    · split
      · exact .inr .endsCue
      · exact .inl rfl
    · exact .inl rfl
  case connectorSeen n =>
    rw [taken _ h]
    exact .inr (.seesConnector n)
  case connectorLost n =>
    rw [taken _ h]
    exact .inr (.losesConnector n)
  case linkSettleEnd n =>
    rw [taken _ h]
    split
    case isTrue due => exact .inr (.linksLane n due.1)
    case isFalse => exact .inl rfl
  case holdTimerExpiry n =>
    rw [taken _ h]
    split
    case isTrue due => exact .inr (.expiresHold n due)
    case isFalse => exact .inl rfl
  case parkComplete n =>
    rw [taken _ h]
    split
    case isTrue due => exact .inr (.completesPark n due)
    case isFalse => exact .inl rfl
  case scanPaceExpiry n =>
    rw [taken _ h]
    split
    case isTrue due => exact .inr (.endsPace n due.1)
    case isFalse => exact .inl rfl
  case sweepTimer n =>
    rw [taken _ h]
    split
    case isTrue due => exact .inr (.sweeps n due.1)
    case isFalse => exact .inl rfl
  case readSlotEnd n marks =>
    rw [taken _ h]
    split
    case h_1 c k due => exact .inr (.reads n c k marks due)
    case h_2 => exact .inl rfl
  case lampSlotEnd n =>
    rw [taken _ h]
    split
    case h_1 copy due => exact .inr (.loadsLamps n copy due)
    case h_2 => exact .inl rfl
  case checkSlotEnd n marks =>
    rw [taken _ h]
    split
    case isTrue due => exact .inr (.endsCheck n _ due.2)
    case isFalse => exact .inl rfl
  case passCommit =>
    rw [taken _ h]
    split
    · exact .inr .commitsPass
    · exact .inl rfl
  case activityTimerExpiry =>
    rw [taken _ h]
    split
    case isTrue due => exact .inr (.expiresActivity due)
    case isFalse => exact .inl rfl
  case restEntry =>
    rw [taken _ h]
    exact .inr .rests
  all_goals simp [isTimed] at hi

/-! ### Every command -/

/-- A request command hands its frame to the Link Interface, with the block that owns it. -/
theorem exec_request {i : Instr} {body : List Byte} (h : encodeBody i = some body) (s : State) :
    exec i s = .next (s.live fun s => s.request i (takeRequest i)) := by
  cases i <;> simp only [encodeBody, reduceCtorEq] at h <;> rfl

/-- What one command does to a part: nothing, a reset of its own or of the pins, a byte, a request's frame, an event of the link or a timed event. -/
theorem exec_cases (i : Instr) {s t : State} (h : exec i s = .next t) :
    t = s ∨ (∃ c, t = { s with chip := c }) ∨ (∃ reason, t = State.afterReset reason s.pending) ∨ t = s.hunt ∨
      t = { s with link := { s.link with replies := s.link.replies.tail } } ∨ (∃ b, t = s.receive b) ∨
      t = s.request i (takeRequest i) ∨ EventLeaves s t := by
  by_cases running : s.chip = .running
  case neg =>
    have held : ∀ f : State → State, Host.Outcome.next (s.live f) = (Host.Outcome.next t : Host.Outcome State Fault Refusal) → t = s :=
      fun f hf => by
        rw [live_held f running] at hf
        exact (Host.Outcome.next.inj hf).symm
    by_cases reset : i = .powerUp ∨ i = .supplyLoss ∨ i = .resetEnd
    case pos =>
      rcases reset with rfl | rfl | rfl
      · exact .inr (.inl ⟨_, (Host.Outcome.next.inj h).symm⟩)
      · exact .inr (.inl ⟨_, (Host.Outcome.next.inj h).symm⟩)
      · have e := (Host.Outcome.next.inj h).symm
        split at e
        · exact .inr (.inr (.inl ⟨_, e⟩))
        · exact .inl e
        · exact .inl e
    case neg =>
      left
      cases i <;> first | exact held _ h | simp at reset
  case pos =>
    have taken : ∀ (f : State → State), Host.Outcome.next (s.live f) = (Host.Outcome.next t : Host.Outcome State Fault Refusal) → t = f s := by
      intro f hf
      rw [live_running f running] at hf
      exact (Host.Outcome.next.inj hf).symm
    by_cases timed : isTimed i = true
    case pos =>
      rcases exec_timed timed running h with e | e
      · exact .inl e
      · simp only [e, or_true]
    case neg =>
      cases hb : encodeBody i with
      | some body =>
        rw [exec_request hb] at h
        simp only [taken _ h, true_or, or_true]
      | none =>
        cases i
        case receiveByte b => exact .inr (.inr (.inr (.inr (.inr (.inl ⟨b, taken _ h⟩)))))
        case gapTimerExpiry =>
          have e := taken _ h
          split at e
          · simp only [e, true_or, or_true]
          · exact .inl e
        case replySent => simp only [taken _ h, true_or, or_true]
        case restartReset =>
          have e := taken _ h
          split at e
          · exact .inr (.inr (.inl ⟨_, e⟩))
          · exact .inl e
        case powerUp => exact .inr (.inl ⟨_, (Host.Outcome.next.inj h).symm⟩)
        case supplyLoss => exact .inr (.inl ⟨_, (Host.Outcome.next.inj h).symm⟩)
        case resetnAssert => exact .inr (.inl ⟨_, taken _ h⟩)
        case resetEnd =>
          have e := (Host.Outcome.next.inj h).symm
          simp only [running] at e
          exact .inl e
        all_goals first | exact absurd rfl timed | cases hb

/-! ### Properties kept -/

/-- What has to be shown of a property for every step to keep it. -/
structure Kept (P : State → Prop) : Prop where
  reset : ∀ reason pending, P (State.afterReset reason pending)
  queue : ∀ s l, P s → P { s with pending := l }
  chip : ∀ s c, P s → P { s with chip := c }
  sent : ∀ s, P s → P { s with link := { s.link with replies := s.link.replies.tail } }
  assembler : ∀ s a g, P s → (s.link.assembling → ({ s.link with asm := a, gap := g } : LinkUnit).assembling) →
    P (s.setAsm a g)
  heard : ∀ s, P s → P s.frameReceived
  replied : ∀ s r, P s → s.link.owed < replyRoom → P (s.pushReply r)
  requested : ∀ s k i, P s → s.link.inHand = none → s.link.owed < replyRoom → P (s.take k (takeRequest i))
  event : ∀ s t, P s → EventLeaves s t → P t

variable {P : State → Prop}

/-- A frame judged keeps what replies and requests keep. -/
theorem Kept.judge (h : Kept P) {s : State} (hs : P s) (m : Bool) (k : Byte) {block : State → Taken}
    (hb : s.link.inHand = none → s.link.owed < replyRoom → P (s.take k block)) : P (s.judge m k block) := by
  unfold State.judge
  split
  case isTrue => exact hs
  case isFalse room =>
    have room := Nat.lt_of_not_le room
    (repeat' split)
    · exact h.replied s _ hs room
    · exact h.replied s _ hs room
    · exact h.replied s _ hs room
    case isFalse hand => exact hb (by simpa using hand) room

theorem Kept.beginFrame (h : Kept P) {s : State} (hs : P s) : P s.beginFrame :=
  h.heard _ (h.assembler s _ _ hs fun _ => by simp [LinkUnit.assembling])

theorem Kept.hunt (h : Kept P) {s : State} (hs : P s) : P s.hunt :=
  h.assembler s _ _ hs fun _ => by simp [LinkUnit.assembling]

theorem Kept.completeFrame (h : Kept P) {s : State} (hs : P s) (len : Nat) (got : List Byte) (v : Byte) :
    P (s.completeFrame len got v) := by
  refine h.judge (h.hunt hs) _ _ fun hand room => ?_
  unfold blockOf
  split
  · exact h.requested _ _ _ (h.hunt hs) hand room
  · exact h.replied _ _ (h.hunt hs) room
  · exact h.replied _ _ (h.hunt hs) room

/-- A byte received keeps what frames keep (R159). -/
theorem Kept.receive (h : Kept P) {s : State} (hs : P s) (b : RxByte) : P (s.receive b) := by
  unfold State.receive State.assemble
  split
  case isTrue => exact hs
  case isFalse =>
    split
    case h_1 v _ =>
      split
      · exact h.beginFrame hs
      · exact hs
    case h_2 => exact hs
    case h_3 v asm =>
      split
      · exact h.beginFrame hs
      · split
        case isTrue len => exact h.assembler s _ _ hs fun _ => ⟨by simp, by simpa using Nat.pos_of_ne_zero (Nat.one_le_iff_ne_zero.1 len.1), len.2⟩
        case isFalse => exact h.hunt hs
    case h_4 len got v asm =>
      refine h.assembler s _ _ hs fun old => ?_
      simp only [LinkUnit.assembling, asm] at old
      obtain ⟨-, short, low⟩ := old
      split
      case isTrue full => exact ⟨by simp, by simp; omega, by omega, low⟩
      case isFalse more => exact ⟨by simp, by simp; omega, low⟩
    case h_5 len got v _ => exact h.completeFrame hs len got v
    all_goals exact h.hunt hs

/-- A request's frame keeps what frames and requests keep. -/
theorem Kept.request (h : Kept P) {s : State} (hs : P s) (i : Instr) : P (s.request i (takeRequest i)) := by
  have bytes : ∀ (l : List Byte) {u : State}, P u → P (l.foldl (fun u b => u.receive (.good b)) u) := by
    intro l
    induction l with
    | nil => exact id
    | cons b l ih => exact fun hu => ih (h.receive hu (.good b))
  unfold State.request
  split
  · exact hs
  split
  · exact h.judge (h.heard s hs) _ _ (h.requested _ _ _ (h.heard s hs))
  · exact bytes _ hs

/-- Every command keeps such a property. -/
theorem Kept.exec (h : Kept P) {s t : State} (i : Instr) (hs : P s) (he : exec i s = .next t) : P t := by
  rcases exec_cases i he with rfl | ⟨c, rfl⟩ | ⟨r, rfl⟩ | rfl | rfl | ⟨b, rfl⟩ | rfl | e
  · exact hs
  · exact h.chip s c hs
  · exact h.reset r _
  · exact h.hunt hs
  · exact h.sent s hs
  · exact h.receive hs b
  · exact h.request hs i
  · exact h.event s t hs e

/-- Every step keeps such a property. -/
theorem Kept.step (h : Kept P) {s t : State} (hs : P s) (ht : step s = .next t) : P t := by
  unfold Machine.step at ht
  split at ht
  · exact Host.Outcome.next.inj ht ▸ hs
  · exact h.exec _ (h.queue s _ hs) ht

/-- A property that reads neither the chip, the link nor the queue is kept by every step when resets, frames heard, requests and events keep it. -/
theorem Kept.of_blind (blind : ∀ s c l q, P s → P { s with chip := c, link := l, pending := q })
    (reset : ∀ reason pending, P (State.afterReset reason pending)) (heard : ∀ s, P s → P s.frameReceived)
    (request : ∀ s b t, P s → RequestLeaves s b t → P t) (event : ∀ s t, P s → EventLeaves s t → P t) : Kept P where
  reset := reset
  queue s l hs := blind s s.chip s.link l hs
  chip s c hs := blind s c s.link s.pending hs
  sent s hs := blind s s.chip _ s.pending hs
  assembler s _ _ hs _ := blind s s.chip _ s.pending hs
  heard := heard
  replied s _ hs _ := blind s s.chip _ s.pending hs
  requested s k i hs _ _ := by
    obtain ⟨b, leaves, -⟩ := takeRequest_leaves s i
    have key : P (takeRequest i s).1 := request s b _ hs leaves
    unfold State.take
    split
    case h_1 t st data e =>
      rw [e] at key
      exact blind t t.chip _ t.pending key
    case h_2 t e =>
      rw [e] at key
      exact key
  event := event

end Sys2Proof.Machine
end

section
/-!
The plan and the roster (R3, R4, R65): no event writes either, and of the requests only those that place a segment or change the roster.
-/

namespace Sys2Proof.Machine

open Sys2Proof

/-! ### What the compound operations leave -/

section Frames

variable (s : State)

@[simp] theorem becomeReady_frame :
    s.becomeReady.plan = s.plan ∧ s.becomeReady.lanes = s.lanes ∧ s.becomeReady.cells = s.cells ∧
      s.becomeReady.sensing = s.sensing ∧ s.becomeReady.roster = s.roster ∧ s.becomeReady.patterns = s.patterns ∧
      s.becomeReady.quests = s.quests ∧ s.becomeReady.play = s.play ∧ s.becomeReady.lamps = s.lamps ∧
      s.becomeReady.link = s.link := by
  simp [State.becomeReady]

@[simp] theorem endSettle_frame :
    s.endSettle.rest = s.rest ∧ s.endSettle.plan = s.plan ∧ s.endSettle.cells = s.cells ∧
      s.endSettle.sensing = s.sensing ∧ s.endSettle.roster = s.roster ∧ s.endSettle.patterns = s.patterns ∧
      s.endSettle.quests = s.quests ∧ s.endSettle.play = s.play ∧ s.endSettle.link = s.link := by
  simp [State.endSettle]

@[simp] theorem endCue_frame :
    s.endCue.plan = s.plan ∧ s.endCue.cells = s.cells ∧ s.endCue.sensing = s.sensing ∧ s.endCue.roster = s.roster ∧
      s.endCue.patterns = s.patterns ∧ s.endCue.quests = s.quests ∧ s.endCue.link = s.link := by
  simp [State.endCue]

@[simp] theorem tickLamps_frame :
    s.tickLamps.plan = s.plan ∧ s.tickLamps.cells = s.cells ∧ s.tickLamps.sensing = s.sensing ∧
      s.tickLamps.roster = s.roster ∧ s.tickLamps.patterns = s.patterns ∧ s.tickLamps.quests = s.quests ∧
      s.tickLamps.link = s.link := by
  unfold State.tickLamps State.tickCue
  split
  · simp
  · split <;> simp

@[simp] theorem removeFlash_frame (q : QuestId) :
    (s.removeFlash q).rest = s.rest ∧ (s.removeFlash q).plan = s.plan ∧ (s.removeFlash q).cells = s.cells ∧
      (s.removeFlash q).sensing = s.sensing ∧ (s.removeFlash q).roster = s.roster ∧
      (s.removeFlash q).patterns = s.patterns ∧ (s.removeFlash q).quests = s.quests ∧
      (s.removeFlash q).play = s.play ∧ (s.removeFlash q).link = s.link := by
  simp [State.removeFlash]

@[simp] theorem seeConnector_frame (n : Lane) :
    (s.seeConnector n).plan = s.plan ∧ (s.seeConnector n).cells = s.cells ∧ (s.seeConnector n).sensing = s.sensing ∧
      (s.seeConnector n).roster = s.roster ∧ (s.seeConnector n).patterns = s.patterns ∧
      (s.seeConnector n).quests = s.quests ∧ (s.seeConnector n).link = s.link := by
  unfold State.seeConnector State.beginLink
  split <;> simp

@[simp] theorem dropConnector_frame (n : Lane) :
    (s.dropConnector n).plan = s.plan ∧ (s.dropConnector n).sensing = s.sensing ∧
      (s.dropConnector n).roster = s.roster ∧ (s.dropConnector n).patterns = s.patterns := by
  unfold State.dropConnector
  split <;> simp

@[simp] theorem endRead_frame (c : CellId) (k : SlotKind) (r : RawResult) :
    (s.endRead c k r).plan = s.plan ∧ (s.endRead c k r).sensing = s.sensing ∧ (s.endRead c k r).roster = s.roster ∧
      (s.endRead c k r).patterns = s.patterns ∧ (s.endRead c k r).link = s.link := by
  unfold State.endRead
  dsimp only
  split <;> simp

@[simp] theorem stopCues_frame :
    s.stopCues.plan = s.plan ∧ s.stopCues.cells = s.cells ∧ s.stopCues.sensing = s.sensing ∧
      s.stopCues.roster = s.roster ∧ s.stopCues.patterns = s.patterns ∧ s.stopCues.quests = s.quests ∧
      s.stopCues.link = s.link := by
  unfold State.stopCues
  split <;> simp

@[simp] theorem newGame_frame :
    s.newGame.plan = s.plan ∧ s.newGame.cells = s.cells ∧ s.newGame.sensing = s.sensing ∧
      s.newGame.roster = s.roster ∧ s.newGame.patterns = s.patterns ∧ s.newGame.quests = s.quests.renewed ∧
      s.newGame.link = s.link := by
  simp [State.newGame]

@[simp] theorem reinstate_frame (c : CellId) :
    (s.reinstate c).rest = s.rest ∧ (s.reinstate c).plan = s.plan ∧ (s.reinstate c).sensing = s.sensing ∧
      (s.reinstate c).roster = s.roster ∧ (s.reinstate c).patterns = s.patterns ∧ (s.reinstate c).play = s.play ∧
      (s.reinstate c).link = s.link := by
  unfold State.reinstate
  dsimp only
  split <;> simp

@[simp] theorem replace_frame (n : Lane) (p : Option Placement) :
    (s.replace n p).rest = s.rest ∧ (s.replace n p).plan = Table.put s.plan n p ∧
      (s.replace n p).sensing = s.sensing ∧ (s.replace n p).roster = s.roster ∧
      (s.replace n p).patterns = s.patterns ∧ (s.replace n p).play = s.play ∧ (s.replace n p).link = s.link := by
  simp [State.replace]

end Frames

/-- An event writes neither the plan, the sensing parameters, the roster nor a pattern. -/
theorem EventLeaves.frame {s t : State} (h : EventLeaves s t) :
    t.plan = s.plan ∧ t.sensing = s.sensing ∧ t.roster = s.roster ∧ t.patterns = s.patterns := by
  cases h <;> simp [State.restartTick, State.setConnector, State.endPace, State.beginSweep, State.endCheckSlot]
  all_goals split <;> simp

/-- A request leaves the plan, or places or unplaces one lane (R3, R4, R6). -/
theorem RequestLeaves.plan {s t : State} {b : Bool} (h : RequestLeaves s b t) :
    t.plan = s.plan ∨
      (∃ n p, p.onGrid = true ∧ s.overlapLane n p = none ∧ t.plan = Table.put s.plan n (some p)) ∨
      ∃ n, t.plan = Table.put s.plan n none := by
  cases h
  case places n p grid apart => exact .inr (.inl ⟨n, p, grid, apart, by simp⟩)
  case unplaces n => exact .inr (.inr ⟨n, by simp⟩)
  all_goals exact .inl (by simp)

/-- A request leaves the roster, adds or replaces an entry in it, takes a serial's out, or gives it new settings (R67 to R69). -/
theorem RequestLeaves.roster {s t : State} {b : Bool} (h : RequestLeaves s b t) :
    t.roster = s.roster ∨
      (∃ e : RosterEntry, (s.roster.find e.serial = none → s.roster.entries.length < rosterRoom) ∧
        t.roster = { s.roster with entries := insertEntry e s.roster.entries }) ∨
      (∃ x, t.roster = { s.roster with entries := s.roster.entries.filter fun d => decide (d.serial ≠ x) }) ∨
      ∃ closed editions, t.roster = { s.roster with closed := closed, editions := editions } := by
  cases h
  case enrolls e room => exact .inr (.inl ⟨e, room, by simp⟩)
  case withdraws x => exact .inr (.inr (.inl ⟨x, by simp⟩))
  case setsPolicy c e => exact .inr (.inr (.inr ⟨c, e, by simp⟩))
  all_goals exact .inl (by simp)

/-! ### The standing law of the plan (R3, R4) -/

/-- Footprints that share a position overlap (R4). -/
theorem overlaps_of_covers {p q : Placement} {b : Pos} (hp : p.covers b = true) (hq : q.covers b = true) :
    p.overlaps q = true := by
  simp only [Placement.covers, Placement.overlaps, Bool.and_eq_true, decide_eq_true_eq] at *
  omega

/-- A footprint that no other placed lane's overlaps covers no position of theirs (R4). -/
theorem covers_apart {s : State} {n m : Lane} {p q : Placement} {b : Pos} (h : s.overlapLane n p = none) (hm : m ≠ n)
    (hq : Table.read s.plan m = some q) (cp : p.covers b = true) : q.covers b = false := by
  have key := List.find?_eq_none.1 h m (List.mem_finRange m)
  rw [hq] at key
  by_contra cq
  exact key (by simp [hm, overlaps_of_covers cp (Bool.eq_true_of_not_eq_false cq)])

/-- The plan's law reads the plan alone. -/
theorem planLawful_congr {s t : State} (h : t.plan = s.plan) (hs : s.planLawful) : t.planLawful := by
  unfold State.planLawful
  rwa [h]

/-- A placement on the grid and apart from the others keeps the plan's law. -/
theorem planLawful_place {s t : State} {n : Lane} {p : Placement} (hs : s.planLawful) (grid : p.onGrid = true)
    (apart : s.overlapLane n p = none) (ht : t.plan = Table.put s.plan n (some p)) : t.planLawful := by
  obtain ⟨onGrid, disjoint⟩ := hs
  unfold State.planLawful
  simp only [ht, Table.read_put]
  refine ⟨fun m q hq => ?_, fun m k q r b hq hr cq cr => ?_⟩
  · split at hq
    · cases hq; exact grid
    · exact onGrid m q hq
  · by_cases hm : m = n <;> by_cases hk : k = n
    · rw [hm, hk]
    · rw [if_pos hm, Option.some.injEq] at hq
      rw [if_neg hk] at hr
      subst hq
      rw [covers_apart apart hk hr cq] at cr
      cases cr
    · rw [if_neg hm] at hq
      rw [if_pos hk, Option.some.injEq] at hr
      subst hr
      rw [covers_apart apart hm hq cr] at cq
      cases cq
    · rw [if_neg hm] at hq
      rw [if_neg hk] at hr
      exact disjoint m k q r b hq hr cq cr

/-- An unplaced lane keeps the plan's law. -/
theorem planLawful_unplace {s t : State} {n : Lane} (hs : s.planLawful) (ht : t.plan = Table.put s.plan n none) :
    t.planLawful := by
  have old : ∀ {m q}, Table.read t.plan m = some q → Table.read s.plan m = some q := by
    intro m q h
    rw [ht, Table.read_put] at h
    split at h
    · cases h
    · exact h
  exact ⟨fun m q h => hs.1 m q (old h), fun m k q r b hq hr => hs.2 m k q r b (old hq) (old hr)⟩

/-- The plan's law is kept by every step. -/
theorem planLawful_kept : Kept State.planLawful := by
  refine Kept.of_blind (fun s c l q hs => hs) (fun reason pending => ?_) (fun s hs => ?_) (fun s _ t hs h => ?_)
    fun s t hs h => planLawful_congr h.frame.1 hs
  · exact ⟨fun n p h => by simp [State.afterReset] at h, fun n m p q b h => by simp [State.afterReset] at h⟩
  · exact planLawful_congr (by simp) hs
  · rcases h.plan with e | ⟨n, p, grid, apart, e⟩ | ⟨n, e⟩
    · exact planLawful_congr e hs
    · exact planLawful_place hs grid apart e
    · exact planLawful_unplace hs e

/-! ### The law of the roster (R65) -/

/-- An entry added to entries in rising order keeps them so, and is the only one new. -/
theorem insertEntry_sorted (e : RosterEntry) : ∀ {l : List RosterEntry},
    l.Pairwise (fun d e => d.serial.toNat < e.serial.toNat) →
      (insertEntry e l).Pairwise (fun d e => d.serial.toNat < e.serial.toNat) ∧
        ∀ d ∈ insertEntry e l, d = e ∨ d ∈ l
  | [], _ => by simp [insertEntry]
  | d :: rest, h => by
    obtain ⟨low, sorted⟩ := List.pairwise_cons.1 h
    obtain ⟨ih, old⟩ := insertEntry_sorted e sorted
    unfold insertEntry
    split
    case isTrue same =>
      rw [List.pairwise_cons]
      exact ⟨⟨fun x hx => same ▸ low x hx, sorted⟩, by simp; tauto⟩
    split
    case isTrue less =>
      refine ⟨List.pairwise_cons.2 ⟨fun x hx => ?_, h⟩, by simp⟩
      rcases List.mem_cons.1 hx with rfl | hx
      · exact less
      · exact less.trans (low x hx)
    case isFalse differ less =>
      have more : d.serial.toNat < e.serial.toNat := by
        have : e.serial.toNat ≠ d.serial.toNat := fun h => differ (BitVec.eq_of_toNat_eq h)
        omega
      refine ⟨List.pairwise_cons.2 ⟨fun x hx => ?_, ih⟩, fun x hx => ?_⟩
      · rcases old x hx with rfl | hx
        · exact more
        · exact low x hx
      · rcases List.mem_cons.1 hx with rfl | hx
        · simp
        · rcases old x hx with rfl | hx
          · simp
          · simp [hx]

/-- An entry added makes the roster one longer at most, and no longer where its serial is enrolled. -/
theorem insertEntry_length (e : RosterEntry) : ∀ {l : List RosterEntry},
    l.Pairwise (fun d e => d.serial.toNat < e.serial.toNat) →
      (insertEntry e l).length ≤ l.length + 1 ∧
        ((l.find? fun d => decide (d.serial = e.serial)) ≠ none → (insertEntry e l).length = l.length)
  | [], _ => by simp [insertEntry]
  | d :: rest, h => by
    obtain ⟨low, sorted⟩ := List.pairwise_cons.1 h
    obtain ⟨short, known⟩ := insertEntry_length e sorted
    unfold insertEntry
    split
    · simp
    split
    case isTrue less =>
      refine ⟨by simp, fun enrolled => absurd (List.find?_eq_none.2 fun x hx => ?_) enrolled⟩
      have more : e.serial.toNat < x.serial.toNat := by
        rcases List.mem_cons.1 hx with rfl | hx
        · exact less
        · exact less.trans (low x hx)
      simp only [decide_eq_true_eq]
      rintro same
      rw [same] at more
      exact more.false
    case isFalse differ _ =>
      refine ⟨by simpa using short, fun enrolled => ?_⟩
      rw [List.find?_cons_of_neg (by simpa using Ne.symm differ)] at enrolled
      simp [known enrolled]

/-- The roster's law is kept by every step. -/
theorem rosterLawful_kept : Kept fun s => s.roster.lawful := by
  refine Kept.of_blind (fun s c l q hs => hs) (fun reason pending => ?_) (fun s hs => ?_) (fun s _ t hs h => ?_)
    fun s t hs h => h.frame.2.2.1 ▸ hs
  · exact ⟨Nat.zero_le _, .nil⟩
  · have e : s.frameReceived.roster = s.roster := by simp
    rwa [e]
  · obtain ⟨room, sorted⟩ := id hs
    rcases h.roster with e | ⟨x, free, e⟩ | ⟨x, e⟩ | ⟨c, e, h⟩
    · rwa [e]
    · rw [e]
      obtain ⟨short, known⟩ := insertEntry_length x sorted
      refine ⟨?_, (insertEntry_sorted x sorted).1⟩
      by_cases enrolled : s.roster.find x.serial = none
      · exact short.trans (free enrolled)
      · exact (known enrolled).trans_le room
    · rw [e]
      exact ⟨(List.length_filter_le ..).trans room, sorted.filter _⟩
    · rw [h]
      exact hs

end Sys2Proof.Machine

open Sys2Proof Sys2Proof.Machine

/-- Settles O56: of all that a step can leave, only a placement and the roster requests write the plan or the roster. -/
theorem stepKeepsThePlanAndRoster : Obligations.StepKeepsThePlanAndRoster :=
  ⟨fun _ _ => planLawful_kept.step, fun _ _ => rosterLawful_kept.step⟩

end

section
/-!
The cell records and the serials (R36, R37, R44): what each operation of the Cell Tracker keeps of both laws.
-/

namespace Sys2Proof.Machine

open Sys2Proof

/-! ### One record -/

/-- A cell record as R36 says: its tiles present by state, its counts in range. -/
def CellRec.lawful (r : CellRec) : Prop := r.present = true ∧ r.counted = true

/-- The ranges of R36, one by one. -/
theorem counted_iff (r : CellRec) :
    r.counted = true ↔
      r.arriveInRange = true ∧ r.lift ≤ 15 ∧ r.absent ≤ 2 ∧ r.score ≤ 15 ∧ r.entries ≤ 3 ∧
        (r.entries = 3 → r.state = .retired) ∧ r.peak ≤ 255 := by
  simp only [CellRec.counted, Bool.and_eq_true, decide_eq_true_eq, and_assoc]

/-- The counts of a record that is not RETIRED lie in their ranges, whatever its state and candidate say. -/
structure CellRec.counts (r : CellRec) : Prop where
  lift : r.lift ≤ 15
  absent : r.absent ≤ 2
  score : r.score ≤ 15
  entries : r.entries ≤ 2
  peak : r.peak ≤ 255

/-- The counts of a lawful record that is not RETIRED. -/
theorem lawful_counts {r : CellRec} (h : r.lawful) (live : r.state ≠ .retired) : r.counts := by
  obtain ⟨-, lift, absent, score, entries, third, peak⟩ := (counted_iff r).1 h.2
  have : r.entries ≠ 3 := fun e => live (third e)
  exact ⟨lift, absent, score, by omega, peak⟩

/-- A record with tiles as its state asks and counts in range is lawful. -/
theorem CellRec.counts.lawful {r : CellRec} (h : r.counts) (present : r.present = true)
    (arrive : r.arriveInRange = true) : r.lawful := by
  obtain ⟨lift, absent, score, entries, peak⟩ := h
  exact ⟨present, (counted_iff r).2 ⟨arrive, lift, absent, score, by omega, by omega, peak⟩⟩

/-- A cell holds a serial when its incumbent has it. -/
theorem holds_iff {r : CellRec} {x : Serial} : r.holds x = true ↔ ∃ t, r.incumbent = some t ∧ t.tile.serial = x := by
  unfold CellRec.holds
  split <;> simp_all

/-! ### Both laws kept together -/

/-- Both laws of the map go over from `s` to `t`. -/
def State.mapKept (s t : State) : Prop :=
  (s.cellsLawful → t.cellsLawful) ∧ (s.serialsUnique → t.serialsUnique)

theorem mapKept_refl (s : State) : s.mapKept s := ⟨id, id⟩

theorem State.mapKept.trans {s t u : State} (h : s.mapKept t) (k : t.mapKept u) : s.mapKept u :=
  ⟨k.1 ∘ h.1, k.2 ∘ h.2⟩

/-- Both laws read the cells and the sensing parameters alone. -/
theorem mapKept_of_same {s t : State} (hc : t.cells = s.cells) (hs : t.sensing = s.sensing) : s.mapKept t := by
  have cell : ∀ c, t.cell c = s.cell c := fun c => by rw [State.cell, hc]; rfl
  constructor
  · simp only [State.cellsLawful, hs, cell, imp_self]
  · simp only [State.serialsUnique, cell, imp_self]

/-- What leaves the cells and the sensing parameters of `t` keeps what `t` kept. -/
theorem State.mapKept.same {s t u : State} (h : s.mapKept t) (hc : u.cells = t.cells) (hs : u.sensing = t.sensing) :
    s.mapKept u :=
  h.trans (mapKept_of_same hc hs)

/-- A cell's own serial is on no other cell. -/
theorem serial_elsewhere {s : State} (h : s.serialsUnique) {c : CellId} {x : Serial} (hc : (s.cell c).holds x = true) :
    ∀ d, d ≠ c → (s.cell d).holds x = false := fun d hd => by
  by_contra he
  exact hd (h d c x (Bool.eq_true_of_not_eq_false he) hc)

/-- Both laws of the map go over from `o` to `s`, but for the state and the candidate of cell `c`, whose counts are in range all the same. -/
structure State.mapKeptBut (o s : State) (c : CellId) : Prop where
  sensing : o.cellsLawful → s.sensing.inRange
  others : o.cellsLawful → ∀ d, d ≠ c → (s.cell d).lawful
  counts : o.cellsLawful → (s.cell c).counts
  unique : o.serialsUnique → s.serialsUnique

/-- A map kept is kept but for a cell that is not RETIRED. -/
theorem State.mapKept.but {o s : State} {c : CellId} (kept : o.mapKept s) (live : (s.cell c).state ≠ .retired) :
    o.mapKeptBut s c :=
  ⟨fun h => (kept.1 h).1, fun h d _ => (kept.1 h).2 d, fun h => lawful_counts ((kept.1 h).2 c) live, kept.2⟩

/-- The open cell given a lawful record that holds only serials no other cell holds. -/
theorem State.mapKeptBut.write {o s t : State} {c : CellId} {r : CellRec} (kept : o.mapKeptBut s c)
    (cells : ∀ d, t.cell d = if d = c then r else s.cell d) (sensing : t.sensing = s.sensing)
    (record : o.cellsLawful → r.lawful)
    (holds : o.serialsUnique → ∀ x, r.holds x = true → ∀ d, d ≠ c → (s.cell d).holds x = false) : o.mapKept t := by
  refine ⟨fun h => ⟨sensing ▸ kept.sensing h, fun d => ?_⟩, fun h d e x hd he => ?_⟩
  · rw [cells]
    split
    case isTrue => exact record h
    case isFalse hd => exact kept.others h d hd
  · rw [cells] at hd he
    split at hd <;> split at he
    case isTrue.isTrue dc ec => rw [dc, ec]
    case isTrue.isFalse ec =>
      rw [holds h x hd e ec] at he
      cases he
    case isFalse.isTrue dc _ =>
      rw [holds h x he d dc] at hd
      cases hd
    case isFalse.isFalse => exact kept.unique h d e x hd he

/-- The open cell given a lawful record that holds no serial it did not hold. -/
theorem State.mapKeptBut.close {o s : State} {c : CellId} {r : CellRec} (kept : o.mapKeptBut s c)
    (record : o.cellsLawful → r.lawful) (holds : ∀ x, r.holds x = true → (s.cell c).holds x = true) :
    o.mapKept (s.setCell c r) :=
  kept.write (fun d => setCell_cell s c d r) rfl record fun h x hx => serial_elsewhere (kept.unique h) (holds x hx)

/-- Serials stay unique when one cell is rewritten with no serial it did not hold. -/
theorem setCell_unique {s : State} {c : CellId} {r : CellRec} (h : s.serialsUnique)
    (holds : ∀ x, r.holds x = true → (s.cell c).holds x = true) : (s.setCell c r).serialsUnique := by
  have before : ∀ b x, ((s.setCell c r).cell b).holds x = true → (s.cell b).holds x = true := fun b x hb => by
    rw [setCell_cell] at hb
    split at hb
    case isTrue e => exact e ▸ holds x hb
    case isFalse => exact hb
  exact fun d e x hd he => h d e x (before d x hd) (before e x he)

/-- One cell rewritten, its counts in range and with no serial it did not hold. -/
theorem State.mapKeptBut.setCell {o s : State} {c : CellId} {r : CellRec} (kept : o.mapKeptBut s c)
    (counts : o.cellsLawful → r.counts) (holds : ∀ x, r.holds x = true → (s.cell c).holds x = true) :
    o.mapKeptBut (s.setCell c r) c := by
  refine ⟨kept.sensing, fun h d hd => ?_, fun h => ?_, fun h => ?_⟩
  · rw [setCell_cell_ne s r hd]
    exact kept.others h d hd
  · rw [setCell_cell_same]
    exact counts h
  · exact setCell_unique (kept.unique h) holds

/-- One cell rewritten to a lawful record that holds no serial it did not hold. -/
theorem State.mapKept.setCell {o s : State} {c : CellId} {r : CellRec} (kept : o.mapKept s)
    (record : s.cellsLawful → r.lawful) (holds : ∀ x, r.holds x = true → (s.cell c).holds x = true) :
    o.mapKept (s.setCell c r) := by
  refine ⟨fun h => ⟨(kept.1 h).1, fun d => ?_⟩, fun h => setCell_unique (kept.2 h) holds⟩
  rw [setCell_cell]
  split
  case isTrue => exact record (kept.1 h)
  case isFalse => exact (kept.1 h).2 d

/-- Every cell rewritten, each to a lawful record that holds no serial it did not hold. -/
theorem mapKept_mapCells {s : State} {f : CellId → CellRec → CellRec} (record : ∀ c r, r.lawful → (f c r).lawful)
    (holds : ∀ c r x, (f c r).holds x = true → r.holds x = true) : s.mapKept (s.mapCells f) := by
  refine ⟨fun h => ⟨h.1, fun c => ?_⟩, fun h c d x hc hd => ?_⟩
  · rw [mapCells_cell]
    exact record c _ (h.2 c)
  · rw [mapCells_cell] at hc hd
    exact h c d x (holds _ _ _ hc) (holds _ _ _ hd)

/-! ### Seats, twins and promotions (R44, R46, R53) -/

variable {o s : State} {c : CellId}

/-- A tile seated, its serial on no other cell. -/
theorem State.mapKeptBut.seat (kept : o.mapKeptBut s c) {t : TileRead} (p : Bool)
    (free : o.serialsUnique → ∀ d, d ≠ c → (s.cell d).holds t.serial = false) : o.mapKept (s.seat c t p) := by
  refine kept.write (fun d => seat_cell s c d t p) (by simp) (fun h => ?_) fun h x hx => ?_
  · obtain ⟨-, -, score, entries, peak⟩ := kept.counts h
    exact CellRec.counts.lawful ⟨Nat.zero_le _, Nat.zero_le _, score, entries, peak⟩ rfl rfl
  · obtain ⟨_, ⟨⟩, rfl⟩ := holds_iff.1 hx
    exact free h

/-- A promotion of a serial that no cell holds (R53). -/
theorem State.mapKept.promote (kept : o.mapKept s) {x : Serial}
    (gone : o.serialsUnique → ∀ d, (s.cell d).holds x = false) : o.mapKept (s.promote x) := by
  unfold State.promote
  split
  case h_2 => exact kept
  case h_1 d t h =>
    obtain ⟨twin, -, serial⟩ := twinOf_eq_some.1 (firstTwin_twinOf h)
    exact (kept.but (by simp [twin])).seat true fun u e _ => serial ▸ gone u e

/-- After the cell that held a serial holds it no more, no cell does. -/
theorem serial_gone {t : State} {x : Serial} {r : CellRec} (h : s.serialsUnique) (hx : (s.cell c).holds x = true)
    (cells : ∀ d, t.cell d = if d = c then r else s.cell d) (dropped : r.holds x = false) :
    ∀ d, (t.cell d).holds x = false := fun d => by
  rw [cells]
  split
  case isTrue => exact dropped
  case isFalse hd => exact serial_elsewhere h hx d hd

/-- The record of a cell that becomes TWIN. -/
def CellRec.twinned (r : CellRec) (t : Candidate) : CellRec :=
  { r with state := .twin, incumbent := none, candidate := some t, lift := 0, absent := 0 }

theorem becomeTwin_cell (s : State) (c d : CellId) (t : Candidate) (h : CellId) :
    (s.becomeTwin c t h).cell d = if d = c then (s.cell c).twinned t else s.cell d := by
  simp only [State.becomeTwin, commit_frame, setCell_cell]
  rfl

/-- A TWIN cell holds no serial. -/
theorem twinned_holds (r : CellRec) (t : Candidate) (x : Serial) : (r.twinned t).holds x = false := rfl

/-- A TWIN record with a candidate whose count is in range. -/
theorem twinned_lawful {r : CellRec} {t : Candidate} (h : r.counts) (arrive : 1 ≤ t.arrive ∧ t.arrive ≤ 8) :
    (r.twinned t).lawful := by
  obtain ⟨-, -, score, entries, peak⟩ := h
  exact CellRec.counts.lawful ⟨Nat.zero_le _, Nat.zero_le _, score, entries, peak⟩ rfl
    (by simpa [CellRec.arriveInRange, CellRec.twinned] using arrive)

/-- A cell becomes TWIN with a candidate whose count is in range. -/
theorem State.mapKeptBut.becomeTwin (kept : o.mapKeptBut s c) {t : Candidate} (holder : CellId)
    (arrive : o.cellsLawful → 1 ≤ t.arrive ∧ t.arrive ≤ 8) : o.mapKept (s.becomeTwin c t holder) :=
  kept.write (fun d => becomeTwin_cell s c d t holder) (by simp)
    (fun h => twinned_lawful (kept.counts h) (arrive h)) fun _ x hx => by simp [twinned_holds] at hx

/-- No other cell holds a serial for which there is no other holder. -/
theorem otherHolder_none {x : Serial} (h : s.otherHolder c x = none) :
    ∀ d, d ≠ c → (s.cell d).holds x = false := fun d hd => by
  have := List.find?_eq_none.1 h d (mem_allCells d)
  simpa [hd] using this

/-- A completed arrival (R44). -/
theorem State.mapKeptBut.completeArrival (kept : o.mapKeptBut s c) {t : Candidate}
    (arrive : o.cellsLawful → 1 ≤ t.arrive ∧ t.arrive ≤ 8) : o.mapKept (s.completeArrival c t) := by
  unfold State.completeArrival
  split
  case h_1 free => exact kept.seat false fun _ => otherHolder_none free
  case h_2 d _ => exact kept.becomeTwin d arrive

/-- The incumbent of a cell is a tile it holds. -/
theorem holds_incumbent {r : CellRec} {t : Incumbent} (seated : r.incumbent = some t) :
    r.holds t.tile.serial = true :=
  holds_iff.2 ⟨t, seated, rfl⟩

/-- A completed shift of the cell's incumbent (R46). -/
theorem State.mapKeptBut.completeShift (kept : o.mapKeptBut s c) {inc : Incumbent} {t : Candidate} {a : Nat}
    (seated : (s.cell c).incumbent = some inc) (arrive : o.cellsLawful → 1 ≤ t.arrive ∧ t.arrive ≤ 8)
    (low : o.cellsLawful → a ≤ 255) : o.mapKept (s.completeShift c inc t a) := by
  have held := holds_incumbent seated
  unfold State.completeShift
  split
  case isTrue same =>
    refine kept.write (by simp only [commit_frame, setCell_cell]; exact fun _ => rfl) (by simp) (fun h => ?_)
      fun h x hx => ?_
    · obtain ⟨lift, absent, score, entries, peak⟩ := kept.counts h
      exact CellRec.counts.lawful ⟨lift, absent, score, entries, peak⟩ rfl rfl
    · obtain ⟨_, ⟨⟩, rfl⟩ := holds_iff.1 hx
      exact serial_elsewhere (kept.unique h) (same ▸ held)
  case isFalse differ =>
    split
    case h_1 free =>
      let r : CellRec :=
        { s.cell c with state := .seated, incumbent := some (s.seatedTile c t.tile), candidate := none, peak := a }
      have cells : ∀ b d, (((s.setCell c r).commit b).reportMove c).cell d = if d = c then r else s.cell d := by
        simp [setCell_cell]
      refine (kept.write (cells _) (by simp) (fun h => ?_) fun _ x hx => ?_).promote fun h =>
        serial_gone (kept.unique h) held (cells _) (decide_eq_false differ)
      · obtain ⟨lift, absent, score, entries, -⟩ := kept.counts h
        exact CellRec.counts.lawful ⟨lift, absent, score, entries, low h⟩ rfl rfl
      · obtain ⟨_, ⟨⟩, rfl⟩ := holds_iff.1 hx
        exact otherHolder_none free
    case h_2 holder _ =>
      have cells : ∀ b d, (((s.setCell c { s.cell c with incumbent := none }).commit b).becomeTwin c t holder).cell d =
          if d = c then (s.cell c).twinned t else s.cell d := by
        intro b d
        simp only [becomeTwin_cell, commit_frame, setCell_cell]
        split <;> rfl
      exact (kept.write (cells _) (by simp) (fun h => twinned_lawful (kept.counts h) (arrive h)) fun _ x hx => by
        simp [twinned_holds] at hx).promote fun h => serial_gone (kept.unique h) held (cells _) (twinned_holds ..)

/-- A record emptied, its counts those of a lawful one but for score and entries. -/
theorem emptied_lawful {r : CellRec} (h : r.counts) : r.emptied.lawful :=
  CellRec.counts.lawful ⟨Nat.zero_le _, Nat.zero_le _, h.score, h.entries, Nat.zero_le _⟩ rfl rfl

/-- An empty cell holds no serial. -/
theorem emptied_holds (r : CellRec) (x : Serial) : r.emptied.holds x = false := rfl

/-- An incumbent read gone (R47). -/
theorem State.mapKeptBut.liftRead (kept : o.mapKeptBut s c) {x : Serial} (held : (s.cell c).holds x = true) :
    o.mapKept (s.liftRead c x) := by
  have cells : ∀ b d, ((s.setCell c (s.cell c).emptied).commit b).cell d = if d = c then (s.cell c).emptied else s.cell d := by
    simp [setCell_cell]
  exact (kept.write (cells _) (by simp) (fun h => emptied_lawful (kept.counts h)) fun _ x hx => by
    simp [emptied_holds] at hx).promote fun h => serial_gone (kept.unique h) held (cells _) (emptied_holds ..)

/-! ### Entering ARRIVING, SHIFTING, LIFTING (R43 to R47) -/

/-- A CONFIRM asked for touches no cell. -/
theorem State.mapKept.requestConfirm (kept : o.mapKept s) : o.mapKept (s.requestConfirm c) :=
  kept.same (by simp) (by simp)

theorem State.mapKeptBut.enterArriving (kept : o.mapKeptBut s c) {t : TileRead} : o.mapKept (s.enterArriving c t) := by
  unfold State.enterArriving
  dsimp only
  have counts : o.cellsLawful → CellRec.counts
      { s.cell c with
        state := .arriving, incumbent := none, candidate := some { tile := t, arrive := 1 }, lift := 0, absent := 0 } :=
    fun h => ⟨Nat.zero_le _, Nat.zero_le _, (kept.counts h).score, (kept.counts h).entries, (kept.counts h).peak⟩
  split
  · exact (kept.setCell counts fun x hx => by simp [CellRec.holds] at hx).completeArrival fun _ => by simp
  · exact (kept.close (fun h => (counts h).lawful rfl rfl) fun x hx => by simp [CellRec.holds] at hx).requestConfirm

theorem State.mapKeptBut.enterShifting (kept : o.mapKeptBut s c) {inc : Incumbent} {t : TileRead} {a : Nat}
    (seated : (s.cell c).incumbent = some inc) (low : o.cellsLawful → a ≤ 255) :
    o.mapKept (s.enterShifting c inc t a) := by
  unfold State.enterShifting
  dsimp only
  have counts : o.cellsLawful → CellRec.counts
      { s.cell c with state := .shifting, candidate := some { tile := t, arrive := 1 }, lift := 0 } := fun h =>
    { kept.counts h with lift := Nat.zero_le _ }
  split
  · exact (kept.setCell counts fun x hx => hx).completeShift (by simpa using seated) (fun _ => by simp) low
  · exact (kept.close (fun h => (counts h).lawful (by simp [CellRec.present, seated]) rfl) fun x hx => hx).requestConfirm

theorem State.mapKeptBut.enterLifting (kept : o.mapKeptBut s c) {inc : Incumbent}
    (seated : (s.cell c).incumbent = some inc) : o.mapKept (s.enterLifting c inc.tile.serial) := by
  unfold State.enterLifting
  dsimp only
  have counts : o.cellsLawful → CellRec.counts { s.cell c with state := .lifting, candidate := none, lift := 1 } :=
    fun h => { kept.counts h with lift := Nat.le_add_left 1 14 }
  split
  · exact (kept.setCell counts fun x hx => hx).liftRead (holds_incumbent (by simpa using seated))
  · exact (kept.close (fun h => (counts h).lawful (by simp [CellRec.present, seated]) rfl) fun x hx => hx).requestConfirm

/-! ### Faults and retirement (R41, R49 to R51) -/

/-- A retirement makes its cell an empty RETIRED one, and then promotes the first twin of the serial it held (R51). -/
theorem retire_cells (s : State) (c : CellId) (auto : Bool) :
    ∃ u : State, (∀ d, u.cell d = if d = c then { (s.cell c).emptied with state := .retired } else s.cell d) ∧
      u.sensing = s.sensing ∧
      s.retire c auto = match (s.cell c).incumbent with | some t => u.promote t.tile.serial | none => u := by
  refine ⟨_, fun d => ?_, ?_, rfl⟩
  · simp only [wantPass_cell, stopDeadScan_frame, lampEvent_frame, setCell_cell]
    cases (s.cell c).state <;> cases (s.cell c).candidate <;> cases (s.cell c).incumbent <;>
      simp [setCell_cell, CellRec.emptied] <;> split <;> rfl
  · simp only [wantPass_sensing, stopDeadScan_frame, lampEvent_frame, setCell_sensing]
    cases (s.cell c).state <;> cases (s.cell c).candidate <;> cases (s.cell c).incumbent <;> simp

/-- A cell retired, its entries as a third SUSPECT entry may just have left them (R49, R51). -/
theorem State.mapKept.retire (kept : o.mapKept s) {t : State} (auto : Bool)
    (others : ∀ d, d ≠ c → t.cell d = s.cell d) (sensing : t.sensing = s.sensing)
    (incumbent : (t.cell c).incumbent = (s.cell c).incumbent)
    (counts : o.cellsLawful → (t.cell c).score ≤ 15 ∧ (t.cell c).entries ≤ 3) : o.mapKept (t.retire c auto) := by
  obtain ⟨u, cells, same, e⟩ := retire_cells t c auto
  have cells' : ∀ d, u.cell d = if d = c then { (t.cell c).emptied with state := .retired } else s.cell d := by
    intro d
    rw [cells]
    split
    case isTrue => rfl
    case isFalse hd => exact others d hd
  have kept' : o.mapKept u := by
    refine ⟨fun h => ⟨?_, fun d => ?_⟩, fun h d e x hd he => ?_⟩
    · rw [same, sensing]
      exact (kept.1 h).1
    · rw [cells']
      split
      case isTrue =>
        obtain ⟨score, entries⟩ := counts h
        exact ⟨rfl, (counted_iff _).2 ⟨rfl, Nat.zero_le _, Nat.zero_le _, score, entries, fun _ => rfl, Nat.zero_le _⟩⟩
      case isFalse => exact (kept.1 h).2 d
    · rw [cells'] at hd he
      split at hd
      · cases hd
      · split at he
        · cases he
        · exact kept.2 h d e x hd he
  rw [e, incumbent]
  split
  case h_1 inc seated => exact kept'.promote fun h => serial_gone (kept.2 h) (holds_incumbent seated) cells' rfl
  case h_2 => exact kept'

/-- A SUSPECT entry, or the retirement at what would be the third (R49). -/
theorem State.mapKept.enterSuspect (kept : o.mapKept s) {f : OutcomeKind} (live : (s.cell c).state ≠ .retired) :
    o.mapKept (s.enterSuspect c f) := by
  unfold State.enterSuspect
  dsimp only
  split
  case isTrue =>
    refine kept.retire true (fun d hd => by simp [setCell_cell_ne s _ hd]) (by simp) (by simp) fun h => ?_
    simpa using (lawful_counts ((kept.1 h).2 c) live).score
  case isFalse few =>
    have entered : o.mapKept (s.setCell c
        { s.cell c with
          state := .suspect, candidate := none, absent := 0, entries := (s.cell c).entries + 1
          lift := if (s.cell c).state = .lifting then (s.cell c).lift else 0 }) := by
      refine kept.setCell (fun h => ?_) fun x hx => hx
      obtain ⟨lift, absent, score, -, peak⟩ := lawful_counts (h.2 c) live
      refine CellRec.counts.lawful ⟨?_, Nat.zero_le _, score, by dsimp only; omega, peak⟩ rfl rfl
      dsimp only
      split
      · exact lift
      · exact Nat.zero_le _
    refine entered.same ?_ ?_ <;> simp only [postFault_frame, notify_frame] <;> split <;> simp

/-- A lawful record with another score in range. -/
theorem score_lawful {r : CellRec} {v : Nat} (h : r.lawful) (low : v ≤ 15) : ({ r with score := v } : CellRec).lawful := by
  obtain ⟨arrive, lift, absent, -, entries, third, peak⟩ := (counted_iff r).1 h.2
  exact ⟨h.1, (counted_iff _).2 ⟨arrive, lift, absent, low, entries, third, peak⟩⟩

/-- A lawful record with another lift count in range. -/
theorem lift_lawful {r : CellRec} {v : Nat} (h : r.lawful) (low : v ≤ 15) : ({ r with lift := v } : CellRec).lawful := by
  obtain ⟨arrive, -, absent, score, entries, third, peak⟩ := (counted_iff r).1 h.2
  exact ⟨h.1, (counted_iff _).2 ⟨arrive, low, absent, score, entries, third, peak⟩⟩

/-- A lawful record with another peak in range. -/
theorem peak_lawful {r : CellRec} {v : Nat} (h : r.lawful) (low : v ≤ 255) : ({ r with peak := v } : CellRec).lawful := by
  obtain ⟨arrive, lift, absent, score, entries, third, -⟩ := (counted_iff r).1 h.2
  exact ⟨h.1, (counted_iff _).2 ⟨arrive, lift, absent, score, entries, third, low⟩⟩

/-- A FAULTY outcome scored (R41). -/
theorem State.mapKept.scoreFault (kept : o.mapKept s) {k : SlotKind} {f : OutcomeKind}
    (live : (s.cell c).state ≠ .retired) : o.mapKept (s.scoreFault c k f) := by
  cases k
  case confirm => exact kept
  case sense =>
    have scored : o.mapKept (s.setCell c { s.cell c with score := min 15 ((s.cell c).score + 2) }) :=
      kept.setCell (fun h => score_lawful (h.2 c) (Nat.min_le_left ..)) fun x hx => hx
    unfold State.scoreFault
    dsimp only
    split
    · exact scored.enterSuspect (by simpa using live)
    · exact scored

/-- A GOOD outcome of the seated tile (R41, R45 to R47). -/
theorem State.mapKept.matchIncumbent (kept : o.mapKept s) {k : SlotKind} {inc : Incumbent}
    (live : (s.cell c).state ≠ .retired) (seated : (s.cell c).incumbent = some inc) :
    o.mapKept (s.matchIncumbent c k) := by
  refine kept.setCell (fun h => ?_) fun x hx => hx
  obtain ⟨lift, absent, score, entries, peak⟩ := lawful_counts (h.2 c) live
  refine CellRec.counts.lawful ⟨Nat.zero_le _, absent, ?_, entries, peak⟩ (by simp [CellRec.present, seated]) rfl
  dsimp only
  split <;> omega

/-- A SUSPECT cell recovered (R50). -/
theorem State.mapKept.recover (kept : o.mapKept s) (suspect : (s.cell c).state = .suspect) :
    o.mapKept (s.recover c) := by
  have live : (s.cell c).state ≠ .retired := by simp [suspect]
  unfold State.recover
  dsimp only
  split
  case h_1 inc seated =>
    have back : o.mapKept (s.setCell c { s.cell c with state := .seated }) := by
      refine kept.setCell (fun h => ?_) fun x hx => hx
      obtain ⟨lift, absent, score, entries, peak⟩ := lawful_counts (h.2 c) live
      have no_candidate : (s.cell c).candidate = none := by simpa [CellRec.present, suspect] using (h.2 c).1
      exact CellRec.counts.lawful ⟨lift, absent, score, entries, peak⟩ (by simp [CellRec.present, seated, no_candidate])
        (by simp [CellRec.arriveInRange, no_candidate])
    exact back.same (by simp) (by simp)
  case h_2 =>
    have back : o.mapKept (s.setCell c (s.cell c).emptied) :=
      kept.setCell (fun h => emptied_lawful (lawful_counts (h.2 c) live)) fun x hx => by simp [emptied_holds] at hx
    exact back.same (by simp) (by simp)

end Sys2Proof.Machine
end

section
/-!
The cell records and the serials, continued: outcomes, lane events, recomputation, and the step as a whole (R38 to R58).
-/

namespace Sys2Proof.Machine

open Sys2Proof

variable {o s : State} {c : CellId}

/-! ### Outcomes, state by state (R43 to R50) -/

/-- The candidate of a cell that still counts is below 8 (R36). -/
theorem candidate_counting {r : CellRec} {t : Candidate} (h : r.lawful) (some_candidate : r.candidate = some t)
    (counting : r.state ≠ .twin) : 1 ≤ t.arrive ∧ t.arrive ≤ 7 := by
  have arrive := ((counted_iff r).1 h.2).1
  simpa [CellRec.arriveInRange, some_candidate, counting] using arrive

theorem State.mapKept.stepVacant (kept : o.mapKept s) {r : Outcome} (vacant : (s.cell c).state = .vacant) :
    o.mapKept (s.stepVacant c r) := by
  cases r with
  | good t => exact (kept.but (by simp [vacant])).enterArriving
  | absent => exact kept
  | faulty f => exact kept

theorem State.mapKept.stepArriving (kept : o.mapKept s) {t : Candidate} {k : SlotKind} {r : Outcome}
    (arriving : (s.cell c).state = .arriving) (candidate : (s.cell c).candidate = some t) :
    o.mapKept (s.stepArriving c t k r) := by
  have live : (s.cell c).state ≠ .retired := by simp [arriving]
  have counted : o.cellsLawful → 1 ≤ t.arrive ∧ t.arrive ≤ 7 := fun h =>
    candidate_counting ((kept.1 h).2 c) candidate (by simp [arriving])
  unfold State.stepArriving
  split
  case h_1 u =>
    split
    case isFalse => exact (kept.but live).enterArriving
    case isTrue =>
      dsimp only
      have counts : o.cellsLawful → CellRec.counts
          { s.cell c with candidate := some { t with arrive := t.arrive + 1 }, absent := 0 } := fun h =>
        { (kept.but live).counts h with absent := Nat.zero_le _ }
      split
      case isTrue =>
        refine ((kept.but live).setCell counts fun x hx => hx).completeArrival fun h => ?_
        have := counted h
        exact ⟨by simp, by simp; omega⟩
      case isFalse more =>
        refine ((kept.but live).close (fun h => (counts h).lawful ?_ ?_) fun x hx => hx).requestConfirm
        · simpa [CellRec.present, arriving, candidate] using ((kept.1 h).2 c).1
        · have := (kept.1 h).1.2.1
          simp [CellRec.arriveInRange, arriving]
          omega
  case h_2 =>
    split
    case isTrue =>
      exact kept.setCell (fun h => emptied_lawful (lawful_counts (h.2 c) live)) fun x hx => by simp [emptied_holds] at hx
    case isFalse few =>
      refine State.mapKept.requestConfirm (kept.setCell (fun h => ?_) fun x hx => hx)
      obtain ⟨arrive, lift, -, score, entries, third, peak⟩ := (counted_iff _).1 (h.2 c).2
      exact ⟨(h.2 c).1, (counted_iff _).2 ⟨arrive, lift, by dsimp only; omega, score, entries, third, peak⟩⟩
  case h_3 => exact kept.scoreFault live

theorem State.mapKept.stepSeated (kept : o.mapKept s) {inc : Incumbent} {k : SlotKind} {r : Outcome} {a : Nat}
    (live : (s.cell c).state ≠ .retired) (seated : (s.cell c).incumbent = some inc) (low : o.cellsLawful → a ≤ 255) :
    o.mapKept (s.stepSeated c inc k r a) := by
  unfold State.stepSeated
  split
  case h_1 t =>
    split
    case isTrue => exact kept.matchIncumbent live seated
    case isFalse => exact (kept.but live).enterShifting seated low
  case h_2 => exact (kept.but live).enterLifting seated
  case h_3 => exact kept.scoreFault live

theorem State.mapKept.stepShifting (kept : o.mapKept s) {inc : Incumbent} {t : Candidate} {k : SlotKind} {r : Outcome}
    {a : Nat} (shifting : (s.cell c).state = .shifting) (seated : (s.cell c).incumbent = some inc)
    (candidate : (s.cell c).candidate = some t) (low : o.cellsLawful → a ≤ 255) :
    o.mapKept (s.stepShifting c inc t k r a) := by
  have live : (s.cell c).state ≠ .retired := by simp [shifting]
  have counted : o.cellsLawful → 1 ≤ t.arrive ∧ t.arrive ≤ 7 := fun h =>
    candidate_counting ((kept.1 h).2 c) candidate (by simp [shifting])
  unfold State.stepShifting
  split
  case h_1 u =>
    split
    case isTrue =>
      dsimp only
      have counts : o.cellsLawful → CellRec.counts
          { s.cell c with candidate := some { t with arrive := t.arrive + 1 } } := fun h =>
        { (kept.but live).counts h with }
      split
      case isTrue =>
        refine ((kept.but live).setCell counts fun x hx => hx).completeShift (by simpa using seated) (fun h => ?_) low
        have := counted h
        exact ⟨by simp, by simp; omega⟩
      case isFalse more =>
        refine ((kept.but live).close (fun h => (counts h).lawful ?_ ?_) fun x hx => hx).requestConfirm
        · simp [CellRec.present, shifting, seated]
        · have := (kept.1 h).1.2.1
          simp [CellRec.arriveInRange, shifting]
          omega
    case isFalse =>
      split
      case isTrue => exact kept.matchIncumbent live seated
      case isFalse => exact (kept.but live).enterShifting seated low
  case h_2 => exact (kept.but live).enterLifting seated
  case h_3 => exact kept.scoreFault live

theorem State.mapKept.stepLifting (kept : o.mapKept s) {inc : Incumbent} {k : SlotKind} {r : Outcome} {a : Nat}
    (live : (s.cell c).state ≠ .retired) (seated : (s.cell c).incumbent = some inc) (low : o.cellsLawful → a ≤ 255) :
    o.mapKept (s.stepLifting c inc k r a) := by
  unfold State.stepLifting
  split
  case h_1 t =>
    split
    case isTrue => exact kept.matchIncumbent live seated
    case isFalse => exact (kept.but live).enterShifting seated low
  case h_2 =>
    dsimp only
    split
    case isTrue => exact (kept.but live).liftRead (holds_incumbent seated)
    case isFalse more =>
      refine State.mapKept.requestConfirm (kept.setCell (fun h => lift_lawful (h.2 c) ?_) fun x hx => hx)
      have := h.1.2.2.2.1
      omega
  case h_3 => exact kept.scoreFault live

theorem State.mapKept.stepTwin (kept : o.mapKept s) {t : Candidate} {k : SlotKind} {r : Outcome}
    (twin : (s.cell c).state = .twin) : o.mapKept (s.stepTwin c t k r) := by
  have live : (s.cell c).state ≠ .retired := by simp [twin]
  unfold State.stepTwin
  split
  case h_1 u =>
    split
    case isTrue => exact kept.setCell (fun h => lift_lawful (h.2 c) (Nat.zero_le _)) fun x hx => hx
    case isFalse => exact ((kept.same (by simp) (by simp)).but (by simpa using live)).enterArriving
  case h_2 =>
    dsimp only
    split
    case isTrue =>
      have left : o.mapKept (s.setCell c (s.cell c).emptied) :=
        kept.setCell (fun h => emptied_lawful (lawful_counts (h.2 c) live)) fun x hx => by simp [emptied_holds] at hx
      exact left.same (by simp) (by simp)
    case isFalse more =>
      refine kept.setCell (fun h => lift_lawful (h.2 c) ?_) fun x hx => hx
      have := h.1.2.2.2.1
      omega
  case h_3 => exact kept.scoreFault live

/-- A SUSPECT record with other counts in range, its tile present or not. -/
theorem suspect_lawful {r r' : CellRec} (h : r.lawful) (suspect : r.state = .suspect) (state : r'.state = r.state)
    (candidate : r'.candidate = r.candidate) (counts : r'.counts) : r'.lawful := by
  have no_candidate : r'.candidate = none := by simpa [CellRec.present, suspect, candidate] using h.1
  exact counts.lawful (by simp [CellRec.present, state, suspect, no_candidate])
    (by simp [CellRec.arriveInRange, no_candidate])

theorem State.mapKept.stepSuspect (kept : o.mapKept s) {k : SlotKind} {r : Outcome}
    (suspect : (s.cell c).state = .suspect) : o.mapKept (s.stepSuspect c k r) := by
  have live : (s.cell c).state ≠ .retired := by simp [suspect]
  unfold State.stepSuspect
  split
  case h_1 =>
    cases k
    case confirm => exact kept
    case sense =>
      have scored : o.mapKept (s.setCell c { s.cell c with score := (s.cell c).score - 1, lift := 0 }) := by
        refine kept.setCell (fun h => suspect_lawful (h.2 c) suspect rfl rfl ?_) fun x hx => hx
        obtain ⟨lift, absent, score, entries, peak⟩ := lawful_counts (h.2 c) live
        exact ⟨Nat.zero_le _, absent, by dsimp only; omega, entries, peak⟩
      dsimp only
      split
      case isTrue => exact scored.recover (by simpa using suspect)
      case isFalse => exact scored
  case h_2 =>
    cases k
    case confirm => exact kept
    case sense => exact kept.setCell (fun h => score_lawful (h.2 c) (Nat.min_le_left ..)) fun x hx => hx
  case h_3 =>
    split
    case h_1 => exact kept
    case h_2 inc seated =>
      dsimp only
      split
      case isTrue =>
        have cells : ∀ b d, ((s.setCell c { s.cell c with incumbent := none, lift := 0 }).commit b).cell d =
            if d = c then { s.cell c with incumbent := none, lift := 0 } else s.cell d := by
          simp [setCell_cell]
        have left : o.mapKept (s.setCell c { s.cell c with incumbent := none, lift := 0 }) := by
          refine kept.setCell (fun h => suspect_lawful (h.2 c) suspect rfl rfl ?_) fun x hx => by
            simp [CellRec.holds] at hx
          exact { lawful_counts (h.2 c) live with lift := Nat.zero_le _ }
        have committed : ∀ b, o.mapKept ((s.setCell c { s.cell c with incumbent := none, lift := 0 }).commit b) :=
          fun b => left.same (by simp) (by simp)
        exact (committed _).promote fun h => serial_gone (kept.2 h) (holds_incumbent seated) (cells _) rfl
      case isFalse more =>
        refine kept.setCell (fun h => lift_lawful (h.2 c) ?_) fun x hx => hx
        have := h.1.2.2.2.1
        omega

/-- The state machine of R38 step 4, whatever state the cell is in. -/
theorem State.mapKept.stepCell (kept : o.mapKept s) {k : SlotKind} {r : Outcome} {a : Nat}
    (low : o.cellsLawful → a ≤ 255) : o.mapKept (s.stepCell c k r a) := by
  unfold State.stepCell
  split
  case h_1 vacant => exact kept.stepVacant vacant
  case h_2 arriving candidate => exact kept.stepArriving arriving candidate
  case h_3 state seated => exact kept.stepSeated (by simp [state]) seated low
  case h_4 shifting seated candidate => exact kept.stepShifting shifting seated candidate low
  case h_5 state seated => exact kept.stepLifting (by simp [state]) seated low
  case h_6 twin _ => exact kept.stepTwin twin
  case h_7 suspect => exact kept.stepSuspect suspect
  case h_8 => exact kept

/-- The peak follows amplitudes in range (R39). -/
theorem nextPeak_le {p a : Nat} (hp : p ≤ 255) (ha : a ≤ 255) : nextPeak p a ≤ 255 := by
  unfold nextPeak
  split <;> omega

theorem State.mapKept.updatePeak (kept : o.mapKept s) {r : Outcome} {a : Nat} (low : a ≤ 255) :
    o.mapKept (s.updatePeak c r a) := by
  have moved : o.mapKept (s.setCell c { s.cell c with peak := nextPeak (s.cell c).peak a }) := by
    refine kept.setCell (fun h => peak_lawful (h.2 c) (nextPeak_le ?_ low)) fun x hx => hx
    obtain ⟨-, -, -, -, -, -, peak⟩ := (counted_iff _).1 (h.2 c).2
    exact peak
  unfold State.updatePeak
  split
  case h_1 => exact kept
  case h_2 => exact kept
  case h_3 => exact moved
  case h_4 => exact kept

/-- An outcome taken (R38). -/
theorem State.mapKept.takeOutcome (kept : o.mapKept s) {k : SlotKind} {r : RawResult} (low : r.amplitude ≤ 255) :
    o.mapKept (s.takeOutcome c k r) := by
  have traced : o.mapKept (s.traceOutcome c k r) := kept.same (by simp) (by simp)
  unfold State.takeOutcome
  dsimp only
  split
  case isTrue => exact traced
  case isFalse => exact (traced.updatePeak low).stepCell fun _ => low

end Sys2Proof.Machine
end

section
/-!
The cell records and the serials, concluded: lane events, recomputation, reinstatement, and every step (R52 to R56, R58).
-/

namespace Sys2Proof.Machine

open Sys2Proof

variable {o s : State}

/-! ### Operations that write no cell -/

section Quiet

theorem State.mapKept.notify (kept : o.mapKept s) (b : NoticeBody) : o.mapKept (s.notify b) :=
  kept.same (by simp) (by simp)

theorem State.mapKept.wake (kept : o.mapKept s) (w : WakeCause) : o.mapKept (s.wake w) :=
  kept.same (by simp) (by simp)

theorem State.mapKept.finish (kept : o.mapKept s) : o.mapKept s.finish :=
  kept.same (by simp) (by simp)

theorem State.mapKept.setLane (kept : o.mapKept s) (n : Lane) (u : LaneUnit) : o.mapKept (s.setLane n u) :=
  kept.same rfl rfl

end Quiet

/-! ### Lane events (R54 to R56) -/

/-- What LOSS and PARK make of a record (R54). -/
theorem lose_lawful {r : CellRec} (h : r.lawful) : r.lose.lawful := by
  have held : ∀ inc, r.incumbent = some inc → r.state ≠ .retired →
      ({ r with state := .held, candidate := none, lift := 0, absent := 0 } : CellRec).lawful := by
    intro inc seated live
    obtain ⟨-, -, score, entries, peak⟩ := lawful_counts h live
    exact CellRec.counts.lawful ⟨Nat.zero_le _, Nat.zero_le _, score, entries, peak⟩ (by simp [CellRec.present, seated]) rfl
  have tile : r.state = .seated ∨ r.state = .shifting ∨ r.state = .lifting → ∃ inc, r.incumbent = some inc := by
    have present := h.1
    rintro (e | e | e) <;> simp only [CellRec.present, e, Bool.and_eq_true, Option.isSome_iff_exists] at present <;>
      exact present.1
  unfold CellRec.lose
  split
  case h_1 e =>
    obtain ⟨inc, seated⟩ := tile (.inl e)
    exact held inc seated (by simp [e])
  case h_2 e =>
    obtain ⟨inc, seated⟩ := tile (.inr (.inl e))
    exact held inc seated (by simp [e])
  case h_3 e =>
    obtain ⟨inc, seated⟩ := tile (.inr (.inr e))
    exact held inc seated (by simp [e])
  case h_4 inc e seated => exact held inc seated (by simp [e])
  case h_5 e => exact emptied_lawful (lawful_counts h (by simp [e]))
  case h_6 e => exact emptied_lawful (lawful_counts h (by simp [e]))
  case h_7 => exact h

/-- A LOSS or PARK gives no cell a serial. -/
theorem lose_holds {r : CellRec} {x : Serial} (h : r.lose.holds x = true) : r.holds x = true := by
  unfold CellRec.lose at h
  split at h <;> simp_all [CellRec.holds, CellRec.emptied]

theorem State.mapKept.loseCells (kept : o.mapKept s) (n : Lane) : o.mapKept (s.loseCells n) := by
  refine kept.trans (mapKept_mapCells (fun d r h => ?_) fun d r x h => ?_)
  · split
    · exact lose_lawful h
    · exact h
  · split at h
    · exact lose_holds h
    · exact h

theorem State.mapKept.resumeCells (kept : o.mapKept s) (n : Lane) : o.mapKept (s.resumeCells n) := by
  refine kept.trans (mapKept_mapCells (fun d r h => ?_) fun d r x h => ?_)
  · split
    case isTrue held =>
      obtain ⟨lift, absent, score, entries, peak⟩ := lawful_counts h (by simp [held.2])
      have present := h.1
      simp only [CellRec.present, held.2, Bool.and_eq_true, Option.isNone_iff_eq_none] at present
      exact CellRec.counts.lawful ⟨lift, absent, score, entries, peak⟩ (by simp [CellRec.present, present])
        (by simp [CellRec.arriveInRange, present])
    case isFalse => exact h
  · split at h
    · exact h
    · exact h

/-- A promotion gives no cell another serial than the one promoted. -/
theorem promote_gone {x y : Serial} (differ : y ≠ x) (gone : ∀ d, (s.cell d).holds y = false) (d : CellId) :
    ((s.promote x).cell d).holds y = false := by
  unfold State.promote
  split
  case h_2 => exact gone d
  case h_1 e t h =>
    obtain ⟨-, -, serial⟩ := twinOf_eq_some.1 (firstTwin_twinOf h)
    rw [seat_cell]
    split
    case isFalse => exact gone d
    case isTrue => exact decide_eq_false (serial ▸ differ.symm)

/-- Promotions, in turn, of serials that no cell holds. -/
theorem State.mapKept.promotes (xs : List Serial) : ∀ {s : State}, o.mapKept s → (o.serialsUnique → xs.Nodup) →
    (o.serialsUnique → ∀ x ∈ xs, ∀ d, (s.cell d).holds x = false) → o.mapKept (xs.foldl State.promote s) := by
  induction xs with
  | nil => exact fun kept _ _ => kept
  | cons x xs ih =>
    intro s kept nodup gone
    refine ih (kept.promote fun u => gone u x List.mem_cons_self) (fun u => (nodup u).of_cons) fun u y hy d => ?_
    have differ : y ≠ x := fun e => (List.nodup_cons.1 (nodup u)).1 (e ▸ hy)
    exact promote_gone differ (gone u y (List.mem_cons_of_mem x hy)) d

/-- A serial of a HELD tile of a lane is on no cell once the lane's HELD cells are empty (R56). -/
theorem laneCleared_gone {n : Lane} (h : s.serialsUnique) {x : Serial} (hx : x ∈ (heldTiles s.cell n).map (·.tile.serial))
    (d : CellId) : ((s.laneCleared n).cell d).holds x = false := by
  obtain ⟨t, ht, rfl⟩ := List.mem_map.1 hx
  obtain ⟨e, he, held⟩ := List.mem_filterMap.1 ht
  obtain ⟨i, -, rfl⟩ := List.mem_map.1 he
  have state : (s.cell ⟨n, i⟩).state = .held ∧ (s.cell ⟨n, i⟩).incumbent = some t := by simpa using held
  obtain ⟨state, seated⟩ := state
  rw [(laneCleared_frame s n).1, emptyHeld_cell]
  split
  case isTrue => rfl
  case isFalse other =>
    refine serial_elsewhere h (holds_incumbent seated) d fun e => other ?_
    rw [e]
    exact ⟨rfl, state⟩

theorem State.mapKept.clearCells (kept : o.mapKept s) (n : Lane) : o.mapKept (s.clearCells n) := by
  rw [clearCells_eq]
  refine State.mapKept.promotes _ (kept.trans ?_) (fun u => heldSerials_nodup (kept.2 u) n) fun u x hx =>
    laneCleared_gone (kept.2 u) hx
  have emptied : s.mapKept (s.emptyHeld n) := mapKept_mapCells
    (fun d r h => by
      split
      case isTrue held => exact emptied_lawful (lawful_counts h (by simp [held.2]))
      case isFalse => exact h)
    fun d r x h => by
      split at h
      · cases h
      · exact h
  exact emptied.same (by simp [State.laneCleared]) (by simp [State.laneCleared])

/-! ### Lanes -/

theorem State.mapKept.expireHold (kept : o.mapKept s) (n : Lane) : o.mapKept (s.expireHold n) := by
  have cleared : o.mapKept ((s.setLane n { s.lane n with hold := none }).clearCells n) :=
    (kept.setLane n _).clearCells n
  unfold State.expireHold
  dsimp only
  split <;> exact cleared.same (by simp) (by simp)

theorem State.mapKept.startHold (kept : o.mapKept s) (n : Lane) : o.mapKept (s.startHold n) := by
  unfold State.startHold
  split
  · exact kept.expireHold n
  · exact kept.setLane n _

theorem State.mapKept.park (kept : o.mapKept s) (n : Lane) : o.mapKept (s.park n) := by
  unfold State.park
  dsimp only
  split
  · exact State.mapKept.loseCells (kept.same (by simp) (by simp)) n
  · exact kept
  · exact kept.same (by simp) (by simp)

theorem State.mapKept.completePark (kept : o.mapKept s) (n : Lane) : o.mapKept (s.completePark n) := by
  have parked : o.mapKept ((s.setLane n { s.lane n with parkWaiting := false }).park n) :=
    (kept.setLane n _).park n
  exact parked.same (by simp [State.completePark]) (by simp [State.completePark])

theorem State.mapKept.loseLane (kept : o.mapKept s) (n : Lane) : o.mapKept (s.loseLane n) := by
  have stopped : o.mapKept (s.lampEvent fun s => s.setLane n ((s.lane n).stopped .lost)) :=
    kept.same (by simp) (by simp)
  have checked : ∀ v r, o.mapKept ((s.lampEvent fun s => s.setLane n ((s.lane n).stopped .lost)).endCheck n v r) :=
    fun v r => stopped.same (by simp) (by simp)
  unfold State.loseLane
  dsimp only
  split <;> split
  · exact ((((checked _ _).loseCells n).notify _).startHold n).completePark n
  · exact (((stopped.loseCells n).notify _).startHold n).completePark n
  · exact (((checked _ _).loseCells n).notify _).startHold n
  · exact ((stopped.loseCells n).notify _).startHold n

theorem State.mapKept.unlinkLane (kept : o.mapKept s) (n : Lane) : o.mapKept (s.unlinkLane n) := by
  unfold State.unlinkLane
  dsimp only
  split
  · split
    · exact (kept.setLane n _).startHold n
    · exact kept.setLane n _
  · exact kept.setLane n _

theorem State.mapKept.linkLane (kept : o.mapKept s) (n : Lane) : o.mapKept (s.linkLane n) := by
  have started : o.mapKept (s.lampEvent fun s => s.setLane n (s.startedLane n)) := kept.same (by simp) (by simp)
  unfold State.linkLane
  dsimp only
  split
  · exact (started.resumeCells n).notify _
  · exact started

theorem State.mapKept.dropConnector (kept : o.mapKept s) (n : Lane) : o.mapKept (s.dropConnector n) := by
  unfold State.dropConnector
  split
  · exact (kept.loseLane n).wake _
  · exact (kept.unlinkLane n).wake _
  · exact kept
  · exact kept
  · exact kept

/-- The amplitude of a raw result lies in 0 to 255 (R24). -/
theorem hear_amplitude_le (check : Bool) (marks : List Mark) : (hear check marks).amplitude ≤ 255 := by
  unfold hear
  split
  · exact Nat.zero_le _
  · exact Nat.min_le_left ..

theorem State.mapKept.endRead (kept : o.mapKept s) (c : CellId) {k : SlotKind} {r : RawResult} (low : r.amplitude ≤ 255) :
    o.mapKept (s.endRead c k r) := by
  have taken : o.mapKept ((s.setLane c.lane { s.lane c.lane with slot := none }).takeOutcome c k r) :=
    (kept.setLane _ _).takeOutcome low
  unfold State.endRead
  dsimp only
  split <;> exact taken.same (by simp) (by simp)

/-! ### Recomputation, reinstatement and placement (R11, R52, R58, R70) -/

/-- Another incumbent put where one was keeps a record lawful. -/
theorem incumbent_lawful {r : CellRec} (h : r.lawful) (f : Incumbent → Incumbent) :
    ({ r with incumbent := r.incumbent.map f } : CellRec).lawful := by
  refine ⟨?_, h.2⟩
  have := h.1
  simpa [CellRec.present] using this

/-- Incumbents changed in place, their tiles the same, hold what they held. -/
theorem incumbent_holds {r : CellRec} {f : Incumbent → Incumbent} (tile : ∀ t, (f t).tile = t.tile) {x : Serial}
    (h : ({ r with incumbent := r.incumbent.map f } : CellRec).holds x = true) : r.holds x = true := by
  obtain ⟨t, ht, rfl⟩ := holds_iff.1 h
  obtain ⟨u, hu, rfl⟩ := Option.map_eq_some_iff.1 ht
  exact holds_iff.2 ⟨u, hu, by rw [tile]⟩

theorem State.mapKept.rejudge (kept : o.mapKept s) (x : Option Serial) : o.mapKept (s.rejudge x) := by
  have judged := kept.trans <| mapKept_mapCells (s := s)
    (f := fun _ r => { r with
      incumbent := r.incumbent.map fun t =>
        if x.isNone || decide (x = some t.tile.serial) then s.roster.rejudge t else t })
    (fun d r h => incumbent_lawful h _) fun d r y h => incumbent_holds (fun t => by split <;> rfl) h
  unfold State.rejudge
  dsimp only
  split
  · exact judged
  · exact judged.same (by simp) (by simp)

/-- Facings written afresh (R11). -/
theorem mapKept_refaceLane (s : State) (n : Lane) : s.mapKept (s.refaceLane n) := by
  refine mapKept_mapCells (fun d r h => ?_) fun d r x h => ?_
  · split
    · exact incumbent_lawful h _
    · exact h
  · split at h
    · exact incumbent_holds (f := fun t => { t with facing := s.facingOf n t.tile.pad }) (fun _ => rfl) h
    · exact h

theorem State.mapKept.replace (kept : o.mapKept s) (n : Lane) (p : Option Placement) : o.mapKept (s.replace n p) := by
  have moved : o.mapKept { s with plan := Table.put s.plan n p } := kept.same rfl rfl
  have placed := moved.trans (mapKept_refaceLane _ n)
  exact placed.same (by simp [State.replace]) (by simp [State.replace])

theorem State.mapKept.reinstate (kept : o.mapKept s) (c : CellId) : o.mapKept (s.reinstate c) := by
  have fresh : o.mapKept (s.setCell c CellRec.reset) :=
    kept.setCell (fun _ => ⟨rfl, rfl⟩) fun x hx => by simp [CellRec.holds, CellRec.reset] at hx
  unfold State.reinstate
  dsimp only
  split <;> exact fresh.same (by simp) (by simp)

/-! ### Every step -/

/-- The requests keep both laws. -/
theorem RequestLeaves.mapKept {t : State} {b : Bool} (h : RequestLeaves s b t) : s.mapKept t := by
  have same := mapKept_refl s
  cases h
  case places n p grid apart => exact (same.replace n (some p)).finish
  case unplaces n => exact (same.replace n none).finish
  case parks n => exact (same.park n).finish
  case unparks n _ => exact ((same.setLane n _).startHold n).finish
  case retires c live =>
    refine (same.retire false (fun _ _ => rfl) rfl rfl fun h => ?_).finish
    obtain ⟨-, -, score, entries, -⟩ := lawful_counts (h.2 c) live
    exact ⟨score, by omega⟩
  case reinstates c => exact (same.reinstate c).finish
  case senses v ranges => exact ⟨fun h => ⟨ranges h.1, h.2⟩, id⟩
  case enrolls e _ =>
    refine State.mapKept.finish (State.mapKept.rejudge ?_ _)
    exact same.same rfl rfl
  case withdraws x =>
    refine State.mapKept.finish (State.mapKept.rejudge ?_ _)
    exact same.same rfl rfl
  case setsPolicy =>
    refine State.mapKept.finish (State.mapKept.rejudge ?_ _)
    exact same.same rfl rfl
  all_goals exact same.same (by simp) (by simp)

/-- The events keep both laws. -/
theorem EventLeaves.mapKept {t : State} (h : EventLeaves s t) : s.mapKept t := by
  have same := mapKept_refl s
  cases h
  case losesConnector n => exact ((same.setLane n _).dropConnector n).finish
  case linksLane n _ => exact (same.linkLane n).finish
  case expiresHold n _ => exact (same.expireHold n).finish
  case completesPark n _ => exact (same.completePark n).finish
  case reads n c k marks _ => exact (same.endRead c (hear_amplitude_le false marks)).finish
  case sweeps n _ =>
    refine State.mapKept.finish ?_
    unfold State.beginSweep
    dsimp only
    split <;> exact same.setLane n _
  all_goals
    exact same.same
      (by simp [State.restartTick, State.setConnector, State.endPace, State.endCheckSlot])
      (by simp [State.restartTick, State.setConnector, State.endPace, State.endCheckSlot])

/-- The laws of the map do not read the chip, the link or the queue, and a frame heard writes no cell. -/
theorem mapKept_frameReceived (s : State) : s.mapKept s.frameReceived := mapKept_of_same (by simp) (by simp)

/-- After a reset every cell has its reset record (R36). -/
theorem afterReset_cell (reason : StartReason) (pending : List Instr) (c : CellId) :
    (State.afterReset reason pending).cell c = CellRec.reset := by
  simp [State.afterReset, State.cell]

/-- The sensing parameters of reset lie in their ranges (R37). -/
theorem sensing_reset_inRange : Sensing.reset.inRange := by
  unfold Sensing.inRange
  decide

/-- The law of the cells is kept by every step. -/
theorem cellsLawful_kept : Kept State.cellsLawful :=
  Kept.of_blind (fun _ _ _ _ hs => hs)
    (fun _ _ => ⟨sensing_reset_inRange, fun c => by rw [afterReset_cell]; exact ⟨rfl, rfl⟩⟩)
    (fun s => (mapKept_frameReceived s).1) (fun _ _ _ hs h => h.mapKept.1 hs) fun _ _ hs h => h.mapKept.1 hs

/-- The uniqueness of serials is kept by every step. -/
theorem serialsUnique_kept : Kept State.serialsUnique :=
  Kept.of_blind (fun _ _ _ _ hs => hs)
    (fun _ _ c d x hc => by rw [afterReset_cell] at hc; cases hc)
    (fun s => (mapKept_frameReceived s).2) (fun _ _ _ hs h => h.mapKept.2 hs) fun _ _ hs h => h.mapKept.2 hs

end Sys2Proof.Machine

open Sys2Proof Sys2Proof.Machine

/-- Settles O57: each operation of the Cell Tracker keeps both laws, and only those write a cell. -/
theorem stepKeepsTheCells : Obligations.StepKeepsTheCells :=
  ⟨fun _ _ => cellsLawful_kept.step, fun _ _ => serialsUnique_kept.step⟩

end

section
/-!
What the Cell Tracker's operations do to the rest of the state: a property that its few primitive effects keep is kept by each of them.
-/

namespace Sys2Proof.Machine

open Sys2Proof

/-- A property kept by the primitive effects of the Cell Tracker: cell writes, board changes and notices, moves, first-fault and trace entries, CONFIRM requests, a lamp that follows its cell, a scan with no cell left to read. -/
structure TrackerKept (P : State → Prop) : Prop where
  cells : ∀ s v, P s → P { s with cells := v }
  commit : ∀ s b, P s → P (s.commit b)
  notify : ∀ s b, P s → P (s.notify b)
  move : ∀ s, P s → P s.takeMove
  fault : ∀ s f, P s → P { s with firstFault := f }
  watch : ∀ s w, P s → P { s with watch := w }
  confirm : ∀ s c, P s → P (s.requestConfirm c)
  lamp : ∀ s c (r : State → CellRec), P s → P (s.lampEvent fun u => u.setCell c (r u))
  dead : ∀ s n, P s → P (s.stopDeadScan n)
  wants : ∀ s, P s → P s.wantPass

namespace TrackerKept

variable {P : State → Prop} (h : TrackerKept P) {s : State}

include h

theorem setCell (hs : P s) (c : CellId) (r : CellRec) : P (s.setCell c r) := h.cells s _ hs

theorem mapCells (hs : P s) (f : CellId → CellRec → CellRec) : P (s.mapCells f) := h.cells s _ hs

theorem postFault (hs : P s) (k : FaultCause) (p : FaultPlace) (o : OutcomeKind) (v : Nat) : P (s.postFault k p o v) := by
  unfold State.postFault
  split
  · exact h.fault s _ hs
  · exact h.fault s _ hs

theorem reportMove (hs : P s) (c : CellId) : P (s.reportMove c) := by
  unfold State.reportMove
  split
  · exact h.move s hs
  · exact hs

theorem seat (hs : P s) (c : CellId) (t : TileRead) (p : Bool) : P (s.seat c t p) :=
  h.reportMove (h.commit _ _ (h.setCell hs c _)) c

theorem promote (hs : P s) (x : Serial) : P (s.promote x) := by
  unfold State.promote
  split
  · exact h.seat hs _ _ _
  · exact hs

theorem promotes (xs : List Serial) : ∀ {s : State}, P s → P (xs.foldl State.promote s) := by
  induction xs with
  | nil => exact id
  | cons x xs ih => exact fun hs => ih (h.promote hs x)

theorem becomeTwin (hs : P s) (c : CellId) (t : Candidate) (d : CellId) : P (s.becomeTwin c t d) :=
  h.commit _ _ (h.setCell hs c _)

theorem completeArrival (hs : P s) (c : CellId) (t : Candidate) : P (s.completeArrival c t) := by
  unfold State.completeArrival
  split
  · exact h.seat hs _ _ _
  · exact h.becomeTwin hs _ _ _

theorem completeShift (hs : P s) (c : CellId) (inc : Incumbent) (t : Candidate) (a : Nat) :
    P (s.completeShift c inc t a) := by
  unfold State.completeShift
  split
  case isTrue => exact h.commit _ _ (h.setCell hs c _)
  case isFalse =>
    split
    · exact h.promote (h.reportMove (h.commit _ _ (h.setCell hs c _)) c) _
    · exact h.promote (h.becomeTwin (h.commit _ _ (h.setCell hs c _)) _ _ _) _

theorem liftRead (hs : P s) (c : CellId) (x : Serial) : P (s.liftRead c x) :=
  h.promote (h.commit _ _ (h.setCell hs c _)) x

theorem enterArriving (hs : P s) (c : CellId) (t : TileRead) : P (s.enterArriving c t) := by
  unfold State.enterArriving
  dsimp only
  split
  · exact h.completeArrival (h.setCell hs c _) _ _
  · exact h.confirm _ _ (h.setCell hs c _)

theorem enterShifting (hs : P s) (c : CellId) (inc : Incumbent) (t : TileRead) (a : Nat) :
    P (s.enterShifting c inc t a) := by
  unfold State.enterShifting
  dsimp only
  split
  · exact h.completeShift (h.setCell hs c _) _ _ _ _
  · exact h.confirm _ _ (h.setCell hs c _)

theorem enterLifting (hs : P s) (c : CellId) (x : Serial) : P (s.enterLifting c x) := by
  unfold State.enterLifting
  dsimp only
  split
  · exact h.liftRead (h.setCell hs c _) _ _
  · exact h.confirm _ _ (h.setCell hs c _)

/-- The retirement steps of R51, one after the other. -/
theorem retire (hs : P s) (c : CellId) (auto : Bool) : P (s.retire c auto) := by
  unfold State.retire
  dsimp only
  split <;> split
  · refine h.promote (h.wants _ (h.dead _ _ (h.lamp _ c _ ?_))) _
    exact h.commit _ _ (h.commit _ _ (h.setCell (h.notify _ _ hs) c _))
  · refine h.promote (h.wants _ (h.dead _ _ (h.lamp _ c _ ?_))) _
    exact h.commit _ _ (h.setCell (h.notify _ _ hs) c _)
  · refine h.wants _ (h.dead _ _ (h.lamp _ c _ ?_))
    exact h.commit _ _ (h.notify _ _ hs)
  · refine h.wants _ (h.dead _ _ (h.lamp _ c _ ?_))
    exact h.notify _ _ hs

theorem enterSuspect (hs : P s) (c : CellId) (o : OutcomeKind) : P (s.enterSuspect c o) := by
  unfold State.enterSuspect
  dsimp only
  split
  case isTrue => exact h.retire (h.postFault (h.setCell hs c _) _ _ _ _) c true
  case isFalse =>
    split
    · exact h.postFault (h.notify _ _ (h.commit _ _ (h.setCell hs c _))) _ _ _ _
    · exact h.postFault (h.notify _ _ (h.setCell hs c _)) _ _ _ _

theorem scoreFault (hs : P s) (c : CellId) (k : SlotKind) (o : OutcomeKind) : P (s.scoreFault c k o) := by
  cases k
  case confirm => exact hs
  case sense =>
    unfold State.scoreFault
    dsimp only
    split
    · exact h.enterSuspect (h.setCell hs c _) _ _
    · exact h.setCell hs c _

theorem recover (hs : P s) (c : CellId) : P (s.recover c) := by
  unfold State.recover
  dsimp only
  split <;> exact h.notify _ _ (h.setCell hs c _)

theorem stepArriving (hs : P s) (c : CellId) (t : Candidate) (k : SlotKind) (r : Outcome) :
    P (s.stepArriving c t k r) := by
  unfold State.stepArriving
  split
  case h_1 =>
    split
    case isTrue =>
      dsimp only
      split
      · exact h.completeArrival (h.setCell hs c _) _ _
      · exact h.confirm _ _ (h.setCell hs c _)
    case isFalse => exact h.enterArriving hs _ _
  case h_2 =>
    split
    · exact h.setCell hs c _
    · exact h.confirm _ _ (h.setCell hs c _)
  case h_3 => exact h.scoreFault hs _ _ _

theorem stepSeated (hs : P s) (c : CellId) (inc : Incumbent) (k : SlotKind) (r : Outcome) (a : Nat) :
    P (s.stepSeated c inc k r a) := by
  unfold State.stepSeated
  split
  case h_1 =>
    split
    · exact h.setCell hs c _
    · exact h.enterShifting hs _ _ _ _
  case h_2 => exact h.enterLifting hs _ _
  case h_3 => exact h.scoreFault hs _ _ _

theorem stepShifting (hs : P s) (c : CellId) (inc : Incumbent) (t : Candidate) (k : SlotKind) (r : Outcome) (a : Nat) :
    P (s.stepShifting c inc t k r a) := by
  unfold State.stepShifting
  split
  case h_1 =>
    split
    case isTrue =>
      dsimp only
      split
      · exact h.completeShift (h.setCell hs c _) _ _ _ _
      · exact h.confirm _ _ (h.setCell hs c _)
    case isFalse =>
      split
      · exact h.setCell hs c _
      · exact h.enterShifting hs _ _ _ _
  case h_2 => exact h.enterLifting hs _ _
  case h_3 => exact h.scoreFault hs _ _ _

theorem stepLifting (hs : P s) (c : CellId) (inc : Incumbent) (k : SlotKind) (r : Outcome) (a : Nat) :
    P (s.stepLifting c inc k r a) := by
  unfold State.stepLifting
  split
  case h_1 =>
    split
    · exact h.setCell hs c _
    · exact h.enterShifting hs _ _ _ _
  case h_2 =>
    dsimp only
    split
    · exact h.liftRead hs _ _
    · exact h.confirm _ _ (h.setCell hs c _)
  case h_3 => exact h.scoreFault hs _ _ _

theorem stepTwin (hs : P s) (c : CellId) (t : Candidate) (k : SlotKind) (r : Outcome) : P (s.stepTwin c t k r) := by
  unfold State.stepTwin
  split
  case h_1 =>
    split
    · exact h.setCell hs c _
    · exact h.enterArriving (h.commit _ _ hs) _ _
  case h_2 =>
    dsimp only
    split
    · exact h.commit _ _ (h.setCell hs c _)
    · exact h.setCell hs c _
  case h_3 => exact h.scoreFault hs _ _ _

theorem stepSuspect (hs : P s) (c : CellId) (k : SlotKind) (r : Outcome) : P (s.stepSuspect c k r) := by
  unfold State.stepSuspect
  split
  case h_1 =>
    cases k
    case confirm => exact hs
    case sense =>
      dsimp only
      split
      · exact h.recover (h.setCell hs c _) _
      · exact h.setCell hs c _
  case h_2 =>
    cases k
    case confirm => exact hs
    case sense => exact h.setCell hs c _
  case h_3 =>
    split
    case h_1 => exact hs
    case h_2 =>
      dsimp only
      split
      · exact h.promote (h.commit _ _ (h.setCell hs c _)) _
      · exact h.setCell hs c _

theorem stepCell (hs : P s) (c : CellId) (k : SlotKind) (r : Outcome) (a : Nat) : P (s.stepCell c k r a) := by
  unfold State.stepCell
  split
  case h_1 =>
    cases r with
    | good t => exact h.enterArriving hs _ _
    | absent => exact hs
    | faulty f => exact hs
  case h_2 => exact h.stepArriving hs _ _ _ _
  case h_3 => exact h.stepSeated hs _ _ _ _ _
  case h_4 => exact h.stepShifting hs _ _ _ _ _ _
  case h_5 => exact h.stepLifting hs _ _ _ _ _
  case h_6 => exact h.stepTwin hs _ _ _ _
  case h_7 => exact h.stepSuspect hs _ _ _
  case h_8 => exact hs

/-- An outcome taken keeps what the primitive effects keep (R38). -/
theorem takeOutcome (hs : P s) (c : CellId) (k : SlotKind) (r : RawResult) : P (s.takeOutcome c k r) := by
  have traced : P (s.traceOutcome c k r) := by
    unfold State.traceOutcome
    split
    · exact h.watch s _ hs
    · exact hs
  have peaked : ∀ {u : State} (o : Outcome) (a : Nat), P u → P (u.updatePeak c o a) := by
    intro u o a hu
    unfold State.updatePeak
    split
    case h_3 => exact h.setCell hu c _
    all_goals exact hu
  unfold State.takeOutcome
  dsimp only
  split
  · exact traced
  · exact h.stepCell (peaked _ _ traced) _ _ _ _

/-- A lane clear keeps what the primitive effects keep (R56). -/
theorem clearCells (hs : P s) (n : Lane) : P (s.clearCells n) :=
  h.promotes _ (h.commit _ _ (h.mapCells hs _))

/-- A recomputation keeps what the primitive effects keep (R70). -/
theorem rejudge (hs : P s) (x : Option Serial) : P (s.rejudge x) := by
  unfold State.rejudge
  dsimp only
  split
  · exact h.mapCells hs _
  · exact h.wants _ (h.mapCells hs _)

end TrackerKept

end Sys2Proof.Machine
end

section
/-!
The same for the operations around the Cell Tracker: the lamps' events, the lane transitions, the end of an event.
-/

namespace Sys2Proof.Machine

open Sys2Proof

/-- A property that lanes and the guard do not enter, and that a notice keeps. -/
structure LampKept (P : State → Prop) : Prop where
  lanes : ∀ s v, P s → P { s with lanes := v }
  guard : ∀ s g, P s → P { s with lamps := { s.lamps with guard := g } }
  notify : ∀ s b, P s → P (s.notify b)

namespace LampKept

variable {P : State → Prop} (h : LampKept P) {s : State}

include h

theorem guardTo (hs : P s) (g : Guard) : P (s.guardTo g) := by
  have moved : P (State.markStale s { s with lamps := { s.lamps with guard := g } }) := h.lanes _ _ (h.guard s g hs)
  unfold State.guardTo
  dsimp only
  split
  · exact hs
  · split
    · exact h.notify _ _ moved
    · exact moved

/-- An event at the lamps keeps what its own change keeps (R136, R137). -/
theorem lampEvent {f : State → State} (hf : P (f s)) : P (s.lampEvent f) := by
  have marked : P (State.markStale s (f s)) := h.lanes _ _ hf
  unfold State.lampEvent
  dsimp only
  split
  · exact marked
  · exact h.guardTo marked _

end LampKept

/-- A property of the quests, the play record, the lamps, the notices or the rest that lanes, cells, link and guard do not enter, with what it asks of a notice, a move, an activity report, a pass, a wake and a rest. -/
structure Calm (P : State → Prop) : Prop extends LampKept P where
  cells : ∀ s v, P s → P { s with cells := v }
  epoch : ∀ s v, P s → P { s with epoch := v }
  plan : ∀ s v, P s → P { s with plan := v }
  roster : ∀ s v, P s → P { s with roster := v }
  fault : ∀ s v, P s → P { s with firstFault := v }
  watch : ∀ s v, P s → P { s with watch := v }
  link : ∀ s v, P s → P { s with link := v }
  move : ∀ s, P s → P s.takeMove
  wants : ∀ s, P s → P s.wantPass
  activity : ∀ s, P s → P s.reportActivity
  pass : ∀ s, P s → P s.startPass
  wake : ∀ s w, P s → P (s.wake w)
  rest : ∀ s, P s → P s.restIfDue

namespace Calm

variable {P : State → Prop} (h : Calm P) {s : State}

include h

theorem setLane (hs : P s) (n : Lane) (u : LaneUnit) : P (s.setLane n u) := h.lanes s _ hs

theorem commit (hs : P s) (b : NoticeBody) : P (s.commit b) :=
  h.activity _ (h.wants _ (h.notify _ _ (h.epoch s _ hs)))

theorem requestConfirm (hs : P s) (c : CellId) : P (s.requestConfirm c) := by
  unfold State.requestConfirm
  dsimp only
  split
  · exact h.setLane hs _ _
  · exact hs

theorem stopDeadScan (hs : P s) (n : Lane) : P (s.stopDeadScan n) := by
  unfold State.stopDeadScan
  dsimp only
  split
  · exact h.setLane hs _ _
  · split
    · exact h.setLane hs _ _
    · exact hs

/-- The Cell Tracker keeps such a property. -/
theorem tracker : TrackerKept P where
  cells := h.cells
  commit _ b hs := h.commit hs b
  notify := h.notify
  move := h.move
  fault := h.fault
  watch := h.watch
  confirm _ c hs := h.requestConfirm hs c
  lamp _ _ _ hs := h.lampEvent (h.cells _ _ hs)
  dead _ n hs := h.stopDeadScan hs n
  wants := h.wants

theorem beginWaiting (hs : P s) (n : Lane) : P (s.beginWaiting n) := by
  unfold State.beginWaiting
  split
  · exact hs
  · exact h.setLane hs _ _

theorem grantLower (hs : P s) (n : Lane) : P (s.grantLower n) := by
  unfold State.grantLower
  dsimp only
  split
  · split <;> exact h.setLane hs _ _
  · split
    · exact h.setLane hs _ _
    · exact hs

theorem grant (hs : P s) (n : Lane) : P (s.grant n) := by
  unfold State.grant State.grantConfirm
  dsimp only
  split
  · split
    · exact h.setLane hs _ _
    · split
      · exact h.grantLower hs n
      · split
        · exact h.setLane hs _ _
        · exact h.grantLower (h.setLane hs _ _) n
  · exact hs

theorem grants (l : List Lane) : ∀ {s : State}, P s → P (l.foldl State.grant s) := by
  induction l with
  | nil => exact id
  | cons n l ih => exact fun hs => ih (h.grant hs n)

/-- The end of an event keeps what the start of a pass keeps. -/
theorem finish (hs : P s) : P s.finish := h.pass _ (h.grants _ hs)

theorem expireHold (hs : P s) (n : Lane) : P (s.expireHold n) := by
  have cleared : P ((s.setLane n { s.lane n with hold := none }).clearCells n) := h.tracker.clearCells (h.setLane hs _ _) n
  unfold State.expireHold
  dsimp only
  split
  · exact h.setLane cleared _ _
  · exact h.setLane cleared _ _
  · exact cleared

theorem startHold (hs : P s) (n : Lane) : P (s.startHold n) := by
  unfold State.startHold
  split
  · exact h.expireHold hs n
  · exact h.setLane hs _ _

theorem park (hs : P s) (n : Lane) : P (s.park n) := by
  unfold State.park
  dsimp only
  split
  · exact h.cells _ _ (h.lampEvent (h.setLane hs _ _))
  · exact hs
  · exact h.setLane hs _ _

theorem completePark (hs : P s) (n : Lane) : P (s.completePark n) :=
  h.link _ _ (h.link _ _ (h.park (h.setLane hs n _) n))

theorem endCheck (hs : P s) (n : Lane) (v : Bool) (r : RawResult) : P (s.endCheck n v r) := by
  have answered : P (({ s.setLane n { s.lane n with checkPending := false } with
      link := { (s.setLane n { s.lane n with checkPending := false }).link with inHand := none } } : State).pushReply
        { kind := replyKind 0x1A, status := .success, data := checkData v r }) :=
    h.link _ _ (h.link _ _ (h.setLane hs _ _))
  unfold State.endCheck
  dsimp only
  split
  · exact answered
  · exact h.tracker.postFault answered _ _ _ _

theorem loseLane (hs : P s) (n : Lane) : P (s.loseLane n) := by
  have stopped : P (s.lampEvent fun s => s.setLane n ((s.lane n).stopped .lost)) := h.lampEvent (h.setLane hs _ _)
  have held : ∀ {u : State} b, P u → P (((u.loseCells n).notify b).startHold n) := fun b hu =>
    h.startHold (h.notify _ _ (h.cells _ _ hu)) n
  unfold State.loseLane
  dsimp only
  split <;> split
  · exact h.completePark (held _ (h.endCheck stopped _ _ _)) n
  · exact h.completePark (held _ stopped) n
  · exact held _ (h.endCheck stopped _ _ _)
  · exact held _ stopped

theorem unlinkLane (hs : P s) (n : Lane) : P (s.unlinkLane n) := by
  unfold State.unlinkLane
  dsimp only
  split
  · split
    · exact h.startHold (h.setLane hs _ _) n
    · exact h.setLane hs _ _
  · exact h.setLane hs _ _

theorem linkLane (hs : P s) (n : Lane) : P (s.linkLane n) := by
  have started : P (s.lampEvent fun s => s.setLane n (s.startedLane n)) := h.lampEvent (h.setLane hs _ _)
  unfold State.linkLane
  dsimp only
  split
  · exact h.notify _ _ (h.cells _ _ started)
  · exact started

theorem seeConnector (hs : P s) (n : Lane) : P (s.seeConnector n) := by
  unfold State.seeConnector
  split
  case h_1 => exact h.wake _ _ (h.setLane hs _ _)
  case h_2 => exact h.wake _ _ (h.setLane hs _ _)
  all_goals exact hs

theorem dropConnector (hs : P s) (n : Lane) : P (s.dropConnector n) := by
  unfold State.dropConnector
  split
  case h_1 => exact h.wake _ _ (h.loseLane hs n)
  case h_2 => exact h.wake _ _ (h.unlinkLane hs n)
  all_goals exact hs

theorem endRead (hs : P s) (c : CellId) (k : SlotKind) (r : RawResult) : P (s.endRead c k r) := by
  have taken := h.grant (h.tracker.takeOutcome (h.setLane hs c.lane { s.lane c.lane with slot := none }) c k r) c.lane
  unfold State.endRead
  dsimp only
  split
  · exact h.wake _ _ taken
  · exact taken

theorem reinstate (hs : P s) (c : CellId) : P (s.reinstate c) := by
  have fresh : P ((s.lampEvent fun s => s.setCell c CellRec.reset).wantPass) :=
    h.wants _ (h.lampEvent (h.cells _ _ hs))
  unfold State.reinstate
  dsimp only
  split
  · exact h.beginWaiting fresh _
  · exact fresh

theorem replace (hs : P s) (n : Lane) (p : Option Placement) : P (s.replace n p) :=
  h.wants _ (h.lampEvent (h.cells _ _ (h.plan _ _ hs)))

theorem beginSweep (hs : P s) (n : Lane) : P (s.beginSweep n) := by
  unfold State.beginSweep
  dsimp only
  split <;> exact h.setLane hs _ _

/-- A frame received keeps what a wake and an activity report keep (R159). -/
theorem frameReceived (hs : P s) : P s.frameReceived := by
  unfold State.frameReceived
  split
  · exact h.finish (h.wake _ _ hs)
  · exact h.activity _ hs

end Calm

end Sys2Proof.Machine
end

section
/-!
The same for the game: what a property that lanes and cells do not enter needs of the clock, the quests, the lamps and the rest, so that every request and event, and so every step, keeps it.
-/

namespace Sys2Proof.Machine

open Sys2Proof

/-- What the operations of the game ask of a property, beside what `Calm` asks. -/
structure Played (P : State → Prop) : Prop extends Calm P where
  blind : ∀ s c l q, P s → P { s with chip := c, link := l, pending := q }
  reset : ∀ reason pending, P (State.afterReset reason pending)
  sensing : ∀ s v, P s → P { s with sensing := v }
  ready : ∀ s, s.rest.part = .starting → P s → P s.becomeReady
  settle : ∀ s, P s → P { s with lamps := { s.lamps with settle := none } }
  tick : ∀ s, P s → P s.restartTick
  rises : ∀ s, P s → P { s with play := { s.play with clock := min clockMax (s.play.clock + 1) } }
  advance : ∀ s q st b e, (s.quest q).state = .running → (s.quest q).current = some st → P s → P (s.advance q st b e)
  fail : ∀ s q why, (s.quest q).inPlay = true → P s → P (s.failQuest q why)
  flashes : ∀ s, P s → P s.tickFlashes
  unflash : ∀ s q, P s → P (s.removeFlash q)
  blink : ∀ s, P s → P s.toggleBlink
  blinkTick : ∀ s, P s → P s.tickBlink
  nextCue : ∀ s, P s → P s.nextCue
  cueTick : ∀ s, P s → P s.tickCue
  commitPass : ∀ s, P s → P s.commitPass
  expire : ∀ s, s.rest.activity.runs = true → P s → P { s with rest := { s.rest with activity := .expired } }
  setRest : ∀ s v a, P s → P { s with
    rest := { s.rest with
      delay := restDelay v, autoPause := a
      activity := if s.rest.part = .ready then fullActivity (restDelay v) else s.rest.activity } }
  fetch : ∀ s k, P s → P { s with notices := { s.notices with queue := s.notices.queue.drop k, dropped := 0 } }
  modes : ∀ s m, P s → P { s with notices := { s.notices with modes := m } }
  turn : ∀ s turns np current per, 1 ≤ np → (if turns = true then 1 ≤ current ∧ current ≤ np else current = 0) → per ≤ 9 →
    P s → P { s with
      play := { s.play with turns := turns, np := np, current := current, turnNumber := 1, moves := 0, movesPerTurn := per } }
  endTurn : ∀ s, s.play.turns = true → P s → P (s.endTurn true)
  runs : ∀ s b, P s → P (s.setClockRunning b false)
  clock : ∀ s v, v ≤ clockMax → P s → P { s with play := { s.play with clock := v } }
  scores : ∀ s v, (∀ k, Table.read v k ≤ scoreMax) → P s → P { s with play := { s.play with scores := v } }
  pattern : ∀ s p d, s.usedBy p = none → P s → P (s.setPattern p d)
  define : ∀ s q owner stages, 1 ≤ stages.length → stages.length ≤ 4 → (s.quest q).inPlay = false → P s →
    P (s.setQuest q { state := .dormant, owner := owner, stages := stages, progress := Progress.fresh })
  erase : ∀ s q, (s.quest q).state ≠ .running → P s → P ((s.setQuest q Quest.blank).leaveSet q)
  start : ∀ s q, (s.quest q).state = .dormant → s.missingPattern (s.quest q) = none → P s →
    P (((s.setQuest q ((s.quest q).goes .running ((s.quest q).startProgress s.play.clock))).wantPass.postHint q
      ((s.quest q).hintOf 0)))
  pause : ∀ s q, (s.quest q).state = .running → P s →
    P (((s.setQuest q ((s.quest q).goes .paused ((s.quest q).pauseProgress s.play.clock))).setHint q none).leaveSet q)
  resume : ∀ s q, (s.quest q).state = .paused → P s →
    P (((s.setQuest q ((s.quest q).goes .running ((s.quest q).resumeProgress s.play.clock))).wantPass.postHint q
      ((s.quest q).hintOf (s.quest q).progress.stage)))
  progress : ∀ s q stage earned, stage < (s.quest q).stages.length → earned ≤ 1500 → (s.quest q).state ≠ .empty →
    (s.quest q).inPlay = false → s.missingPattern (s.quest q) = none → P s →
    P (s.setQuest q ((s.quest q).goes .paused ((s.quest q).setProgress stage earned s.play.clock)))
  host : ∀ s cells v, P s → P (s.setHost cells v)
  cue : ∀ s c, s.lamps.cues.length < cueRoom → P s → P (s.enqueueCue c)
  silence : ∀ s, P s → P s.silence
  limit : ∀ s l, 16 ≤ l → l ≤ 200 → P s → P { s with lamps := { s.lamps with limit := l } }
  newGame : ∀ s, P s → P s.newGame

/-- A due hold is that of a RUNNING quest's current stage (R124). -/
theorem holdDue_current {s : State} {q : QuestId} {st : Stage} (h : s.holdDue q = some st) :
    (s.quest q).state = .running ∧ (s.quest q).current = some st := by
  unfold State.holdDue at h
  dsimp only at h
  split at h
  case h_1 st' since state current _ =>
    split at h
    · split at h
      · cases h
        exact ⟨state, current⟩
      · cases h
    · cases h
  case h_2 => cases h

/-- A due deadline is that of a RUNNING quest (R124). -/
theorem deadlineDue_running {s : State} {q : QuestId} (h : s.deadlineDue q = true) : (s.quest q).state = .running := by
  unfold State.deadlineDue at h
  dsimp only at h
  split at h
  case h_1 state _ => exact state
  case h_2 => cases h

/-- A RUNNING quest is in play. -/
theorem inPlay_of_running {r : Quest} (h : r.state = .running) : r.inPlay = true := by simp [Quest.inPlay, h]

namespace Played

variable {P : State → Prop} (h : Played P) {s : State}

include h

theorem dutiesOf (hs : P s) (q : QuestId) : P (s.dutiesOf q) := by
  unfold State.dutiesOf
  split
  case h_1 due =>
    obtain ⟨running, current⟩ := holdDue_current due
    exact h.advance s q _ _ _ running current hs
  case h_2 =>
    split
    case isTrue due => exact h.fail s q _ (inPlay_of_running (deadlineDue_running due)) hs
    case isFalse => exact hs

theorem duties (l : List QuestId) : ∀ {s : State}, P s → P (l.foldl State.dutiesOf s) := by
  induction l with
  | nil => exact id
  | cons q l ih => exact fun hs => ih (h.dutiesOf hs q)

theorem tickClock (hs : P s) : P s.tickClock := by
  unfold State.tickClock
  split
  · exact h.duties _ (h.rises s hs)
  · exact hs

theorem tickLamps (hs : P s) : P s.tickLamps := h.cueTick _ (h.blinkTick _ (h.flashes _ hs))

theorem endCue (hs : P s) : P s.endCue := h.rest _ (h.nextCue _ hs)

theorem stopCues (hs : P s) : P s.stopCues := by
  unfold State.stopCues
  split
  · exact hs
  · exact h.rest _ (h.silence _ hs)

/-- The events keep such a property. -/
theorem event {t : State} (hs : P s) (he : EventLeaves s t) : P t := by
  cases he with
  | startsUp starting => exact h.ready s starting hs
  | settles => exact h.finish (h.guardTo (h.settle s hs) _)
  | ticksClockFirst => exact h.finish (h.tickLamps (h.tickClock (h.tick s hs)))
  | ticksLampsFirst => exact h.finish (h.tickClock (h.tickLamps (h.tick s hs)))
  | completesHold q st due =>
    obtain ⟨running, current⟩ := holdDue_current due
    exact h.finish (h.advance s q st _ _ running current hs)
  | expiresDeadline q due => exact h.finish (h.fail s q _ (inPlay_of_running (deadlineDue_running due)) hs)
  | removesFlash q => exact h.finish (h.unflash s q hs)
  | blinks => exact h.finish (h.blink s hs)
  | endsCue => exact h.finish (h.endCue hs)
  | seesConnector n => exact h.finish (h.seeConnector (h.setLane hs _ _) n)
  | losesConnector n => exact h.finish (h.dropConnector (h.setLane hs _ _) n)
  | linksLane n => exact h.finish (h.linkLane hs n)
  | expiresHold n => exact h.finish (h.expireHold hs n)
  | completesPark n => exact h.finish (h.completePark hs n)
  | endsPace n => exact h.finish (h.beginWaiting (h.setLane hs _ _) n)
  | sweeps n => exact h.finish (h.beginSweep hs n)
  | reads n c k marks => exact h.finish (h.endRead hs c k _)
  | loadsLamps n copy => exact h.finish (h.setLane hs _ _)
  | endsCheck n r => exact h.finish (h.endCheck (h.setLane hs _ _) n _ r)
  | commitsPass => exact h.finish (h.commitPass s hs)
  | expiresActivity running => exact h.finish (h.rest _ (h.expire s running hs))
  | rests => exact h.finish (h.rest s hs)

/-- The requests keep such a property. -/
theorem request {t : State} {b : Bool} (hs : P s) (hr : RequestLeaves s b t) : P t := by
  cases hr with
  | same => exact hs
  | restarts => exact h.link s _ hs
  | newGame => exact h.finish (h.newGame s hs)
  | setsRest delay a => exact h.setRest s delay a hs
  | fetches k => exact h.fetch s k hs
  | setsModes m => exact h.modes s m hs
  | places n p => exact h.finish (h.replace hs n _)
  | unplaces n => exact h.finish (h.replace hs n _)
  | parkWaits n => exact h.link _ _ (h.setLane hs n _)
  | parks n => exact h.finish (h.park hs n)
  | links n => exact h.setLane hs n _
  | unparks n => exact h.finish (h.startHold (h.setLane hs n _) n)
  | checks n => exact h.finish (h.link _ _ (h.setLane hs n _))
  | watches w => exact h.watch s w hs
  | retires c => exact h.finish (h.tracker.retire hs c false)
  | reinstates c => exact h.finish (h.reinstate hs c)
  | clearsFault => exact h.fault s none hs
  | senses v => exact h.sensing s v hs
  | enrolls e => exact h.finish (h.tracker.rejudge (h.roster s _ hs) _)
  | withdraws x => exact h.finish (h.tracker.rejudge (h.roster s _ hs) _)
  | setsPolicy closed editions => exact h.finish (h.tracker.rejudge (h.roster s _ hs) _)
  | setsTurn turns np current per some_play plays few => exact h.turn s turns np current per some_play plays few hs
  | endsTurn turns => exact h.endTurn s turns hs
  | runsClock b => exact h.runs s b hs
  | setsClock v low => exact h.clock s v low hs
  | setsScores v low => exact h.scores s v low hs
  | setsPattern p d free => exact h.pattern s p d free hs
  | definesQuest q owner stages some_stage few idle => exact h.define s q owner stages some_stage few idle hs
  | erasesQuest q idle => exact h.erase s q idle hs
  | startsQuest q dormant defined => exact h.finish (h.activity _ (h.start s q dormant defined hs))
  | pausesQuest q running => exact h.finish (h.activity _ (h.pause s q running hs))
  | resumesQuest q paused => exact h.finish (h.activity _ (h.resume s q paused hs))
  | abandonsQuest q playing => exact h.finish (h.fail s q _ playing hs)
  | setsProgress q stage earned within low known idle defined =>
    exact h.activity _ (h.progress s q stage earned within low known idle defined hs)
  | setsLamps cells v => exact h.finish (h.lampEvent (h.host s cells v hs))
  | playsCue c room => exact h.finish (h.cue s c room hs)
  | stopsCues => exact h.finish (h.stopCues hs)
  | setsLimit l low high => exact h.finish (h.guardTo (h.limit s l low high hs) _)

/-- Every step keeps such a property. -/
theorem kept : Kept P :=
  Kept.of_blind h.blind h.reset (fun _ hs => h.frameReceived hs) (fun _ _ _ hs hr => h.request hs hr)
    fun _ _ hs he => h.event hs he

end Played

end Sys2Proof.Machine
end

section
/-!
Quests, pass, patterns in use and hints (R106, R108, R120, R126): each quest operation writes one record, its hint and its place in the evaluated set together.
-/

namespace Sys2Proof.Machine

open Sys2Proof

/-! ### Hints -/

section Hints

variable (s : State)

@[simp] theorem lampEvent_hints (f : State → State) : (s.lampEvent f).lamps.hints = (f s).lamps.hints :=
  (lampEvent_lamps_frame s f).2.1

@[simp] theorem wake_hints (w : WakeCause) : (s.wake w).lamps.hints = s.lamps.hints := by
  unfold State.wake
  split
  · simp [State.lightUp, State.allNormal]
  · rfl

@[simp] theorem restIfDue_hints : s.restIfDue.lamps.hints = s.lamps.hints := by
  unfold State.restIfDue State.enterRest
  split
  · simp [State.allSweep, State.goDark]
  · rfl

@[simp] theorem setHint_hints (q : QuestId) (r : Option Region) :
    (s.setHint q r).lamps.hints = Table.put s.lamps.hints q r := by
  simp [State.setHint]

@[simp] theorem postFlash_hints (q : QuestId) (r : Region) : (s.postFlash q r).lamps.hints = s.lamps.hints := by
  simp [State.postFlash]

@[simp] theorem enqueueCue_hints (c : Fin 16) : (s.enqueueCue c).lamps.hints = s.lamps.hints := by
  unfold State.enqueueCue
  dsimp only
  split <;> simp [LampUnit.startHead]

@[simp] theorem offerCue_hints (c : Fin 16) : (s.offerCue c).lamps.hints = s.lamps.hints := by
  unfold State.offerCue
  split <;> simp

@[simp] theorem nextCue_hints : s.nextCue.lamps.hints = s.lamps.hints := by
  unfold State.nextCue
  dsimp only
  split <;> simp [LampUnit.startHead]

@[simp] theorem tickCue_hints : s.tickCue.lamps.hints = s.lamps.hints := by
  unfold State.tickCue State.endCue
  split
  · rfl
  · split <;> simp

@[simp] theorem tickBlink_hints : s.tickBlink.lamps.hints = s.lamps.hints := by
  unfold State.tickBlink State.toggleBlink
  split <;> simp

@[simp] theorem tickCue_quests : s.tickCue.quests = s.quests ∧ s.tickCue.patterns = s.patterns := by
  unfold State.tickCue
  split
  · simp
  · split <;> simp

end Hints

/-! ### The law, and one record rewritten -/

/-- The law reads the quest records, the pass, the patterns and the hints. -/
theorem questsLawful_congr {s t : State} (records : t.quests.records = s.quests.records)
    (pass : t.quests.pass = s.quests.pass) (patterns : t.patterns = s.patterns)
    (hints : t.lamps.hints = s.lamps.hints) (hs : s.questsLawful) : t.questsLawful := by
  unfold State.questsLawful State.missingPattern State.quest
  rw [records, pass, patterns, hints]
  exact hs

/-- The missing pattern of a quest depends on the stages it has and on the patterns. -/
theorem missingPattern_congr {s t : State} {r r' : Quest} (patterns : t.patterns = s.patterns)
    (stages : r'.stages = r.stages) : t.missingPattern r' = s.missingPattern r := by
  unfold State.missingPattern Quest.names
  rw [patterns, stages]

/-- The hint that agrees with a quest's record (R126). -/
def Quest.posted (r : Quest) : Option Region := if r.state = .running then r.hintOf r.progress.stage else none

/-- `t` has `r` as record of quest `q` with its hint, every other quest as in `s`, and evaluates no quest that `s` does not; `q` only while it runs. -/
structure State.questWritten (s t : State) (q : QuestId) (r : Quest) : Prop where
  record : ∀ k, t.quest k = if k = q then r else s.quest k
  patterns : t.patterns = s.patterns
  hint : ∀ k, Table.read t.lamps.hints k = if k = q then r.posted else Table.read s.lamps.hints k
  pass : ∀ p, t.quests.pass = some p → ∃ p', s.quests.pass = some p' ∧ ∀ e ∈ p.evaluated,
    e ∈ p'.evaluated ∧ (e.1 = q → r.state = .running ∧ r.progress.stage = e.2)

/-- One lawful record written, its patterns DEFINED while it is in play, keeps the law. -/
theorem questsLawful_written {s t : State} {q : QuestId} {r : Quest} (hs : s.questsLawful) (hw : s.questWritten t q r)
    (lawful : r.lawful) (defined : r.inPlay = true → s.missingPattern r = none) : t.questsLawful := by
  obtain ⟨records, evaluated, used, hints⟩ := hs
  refine ⟨fun k => ?_, fun p hp e he => ?_, fun k playing => ?_, fun k => ?_⟩
  · rw [hw.record]
    split
    · exact lawful
    · exact records k
  · obtain ⟨p', hp', only⟩ := hw.pass p hp
    obtain ⟨old, own⟩ := only e he
    rw [hw.record]
    split
    case isTrue eq => exact own eq
    case isFalse => exact evaluated p' hp' e old
  · rw [hw.record] at playing ⊢
    split
    case isTrue eq =>
      rw [if_pos eq] at playing
      exact (missingPattern_congr hw.patterns rfl).trans (defined playing)
    case isFalse ne =>
      rw [if_neg ne] at playing
      exact (missingPattern_congr hw.patterns rfl).trans (used k playing)
  · rw [hw.hint, hw.record]
    split
    · rfl
    · exact hints k

/-- A quest that is not RUNNING is in no evaluated set. -/
theorem evaluated_ne {s : State} {q : QuestId} (hs : s.questsLawful) (idle : (s.quest q).state ≠ .running) {p : Pass}
    (hp : s.quests.pass = some p) {e : QuestId × Nat} (he : e ∈ p.evaluated) : e.1 ≠ q := fun eq =>
  idle (eq ▸ (hs.2.1 p hp e he).1)

/-- The hint of a quest that is not RUNNING is withdrawn. -/
theorem hint_idle {s : State} {q : QuestId} (hs : s.questsLawful) (idle : (s.quest q).state ≠ .running) :
    Table.read s.lamps.hints q = none := by
  rw [hs.2.2.2 q, if_neg idle]

/-- A record written over one that was not RUNNING, its hint agreeing with it. -/
theorem written_idle {s t : State} {q : QuestId} {r : Quest} (hs : s.questsLawful) (idle : (s.quest q).state ≠ .running)
    (record : ∀ k, t.quest k = if k = q then r else s.quest k) (patterns : t.patterns = s.patterns)
    (hint : ∀ k, Table.read t.lamps.hints k = if k = q then r.posted else Table.read s.lamps.hints k)
    (pass : t.quests.pass = s.quests.pass) : s.questWritten t q r :=
  ⟨record, patterns, hint, fun p hp => ⟨p, pass ▸ hp, fun _ he =>
    ⟨he, fun eq => absurd eq (evaluated_ne hs idle (pass ▸ hp) he)⟩⟩⟩

/-- A record written while its quest leaves the evaluated set. -/
theorem written_left {s t : State} {q : QuestId} {r : Quest}
    (record : ∀ k, t.quest k = if k = q then r else s.quest k) (patterns : t.patterns = s.patterns)
    (hint : ∀ k, Table.read t.lamps.hints k = if k = q then r.posted else Table.read s.lamps.hints k)
    (pass : t.quests.pass = (s.leaveSet q).quests.pass) : s.questWritten t q r := by
  refine ⟨record, patterns, hint, fun p hp => ?_⟩
  rw [pass] at hp
  obtain ⟨p', hp', rfl⟩ := Option.map_eq_some_iff.1 hp
  refine ⟨p', hp', fun e he => ?_⟩
  obtain ⟨old, ne⟩ := List.mem_filter.1 he
  exact ⟨old, fun eq => absurd eq (of_decide_eq_true ne)⟩

end Sys2Proof.Machine
end

section
/-!
Quests, pass, patterns in use and hints, continued: the records each operation writes, the commit of a pass, and every step.
-/

namespace Sys2Proof.Machine

open Sys2Proof

/-- What a quest reads as after one record is written. -/
theorem setQuest_quest (s : State) (q k : QuestId) (r : Quest) :
    (s.setQuest q r).quest k = if k = q then r else s.quest k := by
  split
  case isTrue e => rw [e, setQuest_quest_same]
  case isFalse e => exact setQuest_quest_ne s r e

/-! ### The records written (R106, R112 to R116, R122) -/

section Records

variable {r : Quest} (h : r.lawful) (clock : Nat)

include h

/-- A quest that has not failed keeps no reason. -/
theorem failReason_none (standing : r.state ≠ .failed) : r.progress.failReason = none := by
  obtain ⟨-, -, -, failed, -⟩ := h
  simpa [standing] using failed

/-- A lawful record that keeps its stages goes on at a stage it has, lawful while timers and hold agree with its new state. -/
theorem goes_lawful {st : QuestState} {p : Progress} (known : r.state ≠ .empty) (open_ : st ≠ .empty ∧ st ≠ .done)
    (within : p.stage < r.stages.length) (earned : p.earned ≤ 1500) (failed : p.failReason.isSome = true ↔ st = .failed)
    (deadline : p.deadline.isSome = true → st = .running) (remaining : p.remaining.isSome = true → st = .paused)
    (hold : p.holdSince.isSome = true → st = .running) : (r.goes st p).lawful := by
  obtain ⟨-, stages, -⟩ := h
  obtain ⟨some_stage, few, -, -⟩ := stages known
  refine ⟨fun e => absurd e open_.1, fun _ => ⟨some_stage, few, within.le, ?_⟩, earned, failed, deadline, remaining, hold⟩
  simp only [Quest.goes, open_.2, iff_false]
  exact within.ne

/-- The stage of a quest that is in play is one it has. -/
theorem stage_lt (known : r.state ≠ .empty) (undone : r.state ≠ .done) : r.progress.stage < r.stages.length := by
  obtain ⟨-, stages, -⟩ := h
  obtain ⟨-, -, low, last⟩ := stages known
  exact lt_of_le_of_ne low fun e => undone (last.1 e)

theorem started_lawful (dormant : r.state = .dormant) : (r.goes .running (r.startProgress clock)).lawful := by
  have known : r.state ≠ .empty := by simp [dormant]
  have no_reason := failReason_none h (by simp [dormant])
  obtain ⟨-, stages, earned, -⟩ := id h
  refine goes_lawful h known (by simp) ?_ earned ?_ (fun _ => rfl) (by simp [Quest.startProgress]) fun _ => rfl
  · exact (stages known).1
  · simp [Quest.startProgress, no_reason]

theorem paused_lawful (running : r.state = .running) : (r.goes .paused (r.pauseProgress clock)).lawful := by
  have known : r.state ≠ .empty := by simp [running]
  have no_reason := failReason_none h (by simp [running])
  have within := stage_lt h known (by simp [running])
  obtain ⟨-, -, earned, -⟩ := id h
  exact goes_lawful h known (by simp) within earned (by simp [Quest.pauseProgress, no_reason])
    (by simp [Quest.pauseProgress]) (fun _ => rfl) (by simp [Quest.pauseProgress])

omit h in
theorem resumeProgress_keeps :
    (r.resumeProgress clock).stage = r.progress.stage ∧ (r.resumeProgress clock).earned = r.progress.earned ∧
      (r.resumeProgress clock).failReason = r.progress.failReason ∧ (r.resumeProgress clock).remaining = none := by
  unfold Quest.resumeProgress
  split
  case h_1 => simp
  case h_2 e => simp [e]

theorem resumed_lawful (paused : r.state = .paused) : (r.goes .running (r.resumeProgress clock)).lawful := by
  have known : r.state ≠ .empty := by simp [paused]
  have no_reason := failReason_none h (by simp [paused])
  have within := stage_lt h known (by simp [paused])
  obtain ⟨-, -, earned, -⟩ := id h
  obtain ⟨same_stage, same_earned, same_reason, no_remaining⟩ := resumeProgress_keeps (r := r) clock
  exact goes_lawful h known (by simp) (by rwa [same_stage]) (by rwa [same_earned]) (by simp [same_reason, no_reason])
    (fun _ => rfl) (by simp [no_remaining]) fun _ => rfl

theorem failed_lawful (playing : r.inPlay = true) (why : FailReason) :
    (r.goes .failed { r.progress with deadline := none, remaining := none, holdSince := none, failReason := some why }).lawful := by
  have state : r.state = .running ∨ r.state = .paused := of_decide_eq_true playing
  have known : r.state ≠ .empty := by rintro e; simp [e] at state
  have within := stage_lt h known (by rintro e; simp [e] at state)
  obtain ⟨-, -, earned, -⟩ := id h
  exact goes_lawful h known (by simp) within earned (by simp) (by simp) (by simp) (by simp)

theorem setProgress_lawful (known : r.state ≠ .empty) {stage earned : Nat} (within : stage < r.stages.length)
    (low : earned ≤ 1500) : (r.goes .paused (r.setProgress stage earned clock)).lawful :=
  goes_lawful h known (by simp) within low (by simp [Quest.setProgress]) (by simp [Quest.setProgress]) (fun _ => rfl)
    (by simp [Quest.setProgress])

theorem advanced_lawful (running : r.state = .running) (points : Nat) : (r.advanced points clock).lawful := by
  have known : r.state ≠ .empty := by simp [running]
  have no_reason := failReason_none h (by simp [running])
  have within := stage_lt h known (by simp [running])
  obtain ⟨-, stages, -, -, -, paused, -⟩ := id h
  have no_remaining : r.progress.remaining = none := by simpa [running] using paused
  obtain ⟨some_stage, few, -, -⟩ := stages known
  unfold Quest.advanced
  dsimp only
  split
  case isTrue last =>
    exact ⟨by simp, fun _ => ⟨some_stage, few, last.le, by simpa using last⟩, Nat.min_le_left .., by simp [no_reason],
      by simp, by simp, by simp⟩
  case isFalse more =>
    refine ⟨by simp [running], fun _ => ⟨some_stage, few, within, by simpa [running] using more⟩, Nat.min_le_left ..,
      by simp [no_reason, running], fun _ => running, by simp [no_remaining], fun _ => running⟩

theorem holdSince_lawful (running : r.state = .running) (v : Option Nat) :
    ({ r with progress := { r.progress with holdSince := v } } : Quest).lawful := by
  obtain ⟨blank, stages, earned, failed, deadline, remaining, -⟩ := h
  exact ⟨blank, stages, earned, failed, deadline, remaining, fun _ => running⟩

omit h in
/-- A record defined afresh is DORMANT at stage 0. -/
theorem defined_lawful {owner : Player} {stages : List Stage} (some_stage : 1 ≤ stages.length) (few : stages.length ≤ 4) :
    ({ state := .dormant, owner := owner, stages := stages, progress := Progress.fresh } : Quest).lawful := by
  refine ⟨by simp, fun _ => ⟨some_stage, few, Nat.zero_le _, ?_⟩, by simp [Progress.fresh], by simp [Progress.fresh],
    by simp [Progress.fresh], by simp [Progress.fresh], by simp [Progress.fresh]⟩
  simp only [Progress.fresh, reduceCtorEq, iff_false]
  omega

omit h in
theorem blank_lawful : Quest.blank.lawful := by
  simp [Quest.lawful, Quest.blank, Progress.fresh]

theorem renewed_lawful : r.renewed.lawful := by
  unfold Quest.renewed
  split
  case isTrue => exact h
  case isFalse known =>
    obtain ⟨-, stages, -⟩ := h
    obtain ⟨some_stage, few, -⟩ := stages known
    exact defined_lawful some_stage few

end Records

end Sys2Proof.Machine
end

section
/-!
Quests, pass, patterns in use and hints, concluded: each operation as one record written, and every step (R112 to R122).
-/

namespace Sys2Proof.Machine

open Sys2Proof

variable {s : State} {q : QuestId}

/-- The hint of an advanced record is that of its next stage, or none when it is done. -/
theorem advanced_posted {r : Quest} (running : r.state = .running) (points clock : Nat) :
    (r.advanced points clock).posted =
      if r.progress.stage + 1 = r.stages.length then none else r.hintOf (r.progress.stage + 1) := by
  unfold Quest.advanced
  dsimp only
  split
  · rfl
  · simp [Quest.posted, running, Quest.hintOf]

/-- An advance writes the advanced record with its hint, and takes its quest out of the evaluated set (R122). -/
theorem advance_written (st : Stage) (b : Bool) (e : BitVec 16) (running : (s.quest q).state = .running) :
    ∃ points, s.questWritten (s.advance q st b e) q ((s.quest q).advanced points s.play.clock) := by
  refine ⟨st.reward + timeBonus st.reward st.limit (s.quest q).progress.deadline s.play.clock,
    written_left (fun k => ?_) ?_ (fun k => ?_) ?_⟩
  · rw [← setQuest_quest]
    unfold State.advance
    dsimp only
    cases st.cue <;> cases st.hint <;> simp [State.setQuest, State.quest, State.leaveSet]
  · simp
  · rw [advanced_posted running]
    unfold State.advance
    dsimp only
    cases st.cue <;> cases st.hint <;> simp [Table.read_put]
  · unfold State.advance
    dsimp only
    cases st.cue <;> cases st.hint <;> simp [leaveSet_pass]

/-- An advance of a RUNNING quest keeps the law. -/
theorem questsLawful_advance (hs : s.questsLawful) (st : Stage) (b : Bool) (e : BitVec 16)
    (running : (s.quest q).state = .running) : (s.advance q st b e).questsLawful := by
  obtain ⟨points, written⟩ := advance_written st b e running
  refine questsLawful_written hs written (advanced_lawful (hs.1 q) _ running _) fun _ => ?_
  refine (missingPattern_congr rfl ?_).trans (hs.2.2.1 q (inPlay_of_running running))
  unfold Quest.advanced
  dsimp only
  split <;> rfl

/-- A failure writes the FAILED record, without a hint, and takes its quest out of the evaluated set (R115, R124). -/
theorem questsLawful_fail (hs : s.questsLawful) (playing : (s.quest q).inPlay = true) (why : FailReason) :
    (s.failQuest q why).questsLawful := by
  have written := written_left (s := s) (t := s.failQuest q why) (q := q)
    (r := (s.quest q).goes .failed
      { (s.quest q).progress with deadline := none, remaining := none, holdSince := none, failReason := some why })
    (fun k => by rw [← setQuest_quest]; simp [State.failQuest, State.quest, State.setQuest, State.leaveSet, Quest.goes]) (by simp)
    (fun k => by simp [State.failQuest, Table.read_put, Quest.posted, Quest.goes]) (by simp [State.failQuest, leaveSet_pass])
  exact questsLawful_written hs written (failed_lawful (hs.1 q) playing why) fun h => by simp [Quest.inPlay, Quest.goes] at h

/-! ### Requests -/

/-- A posted hint over none leaves the hint asked for. -/
theorem postHint_hints_idle {t : State} {v : Option Region} (idle : Table.read t.lamps.hints q = none) (k : QuestId) :
    Table.read (t.postHint q v).lamps.hints k = if k = q then v else Table.read t.lamps.hints k := by
  cases v with
  | none =>
    split
    case isTrue e => rw [e]; exact idle
    case isFalse => rfl
  | some g => simp [State.postHint, Table.read_put]

/-- A quest that runs again, its hint posted and a pass wanted (R112, R114). -/
theorem questsLawful_run (hs : s.questsLawful) (idle : (s.quest q).state ≠ .running) {p : Progress}
    (lawful : ((s.quest q).goes .running p).lawful) (defined : s.missingPattern (s.quest q) = none) :
    (((s.setQuest q ((s.quest q).goes .running p)).wantPass).postHint q ((s.quest q).hintOf p.stage)).questsLawful := by
  have posted : ((s.quest q).goes .running p).posted = (s.quest q).hintOf p.stage := by
    simp [Quest.posted, Quest.goes, Quest.hintOf]
  have none_yet : Table.read ((s.setQuest q ((s.quest q).goes .running p)).wantPass).lamps.hints q = none := by
    rw [wantPass_lamps, setQuest_lamps]
    exact hint_idle hs idle
  have written := written_idle (q := q) (r := (s.quest q).goes .running p) hs idle
    (t := ((s.setQuest q ((s.quest q).goes .running p)).wantPass).postHint q ((s.quest q).hintOf p.stage))
    (fun k => by rw [← setQuest_quest]; simp) (by simp)
    (fun k => by rw [posted, postHint_hints_idle none_yet]; simp) (by simp)
  exact questsLawful_written hs written lawful fun _ => (missingPattern_congr rfl rfl).trans defined

/-- A record that does not run, written over one that does not. -/
theorem questsLawful_rest (hs : s.questsLawful) (idle : (s.quest q).state ≠ .running) {r : Quest} (lawful : r.lawful)
    (still : r.state ≠ .running) (defined : r.inPlay = true → s.missingPattern r = none) :
    (s.setQuest q r).questsLawful := by
  have hint : ∀ k, Table.read (s.setQuest q r).lamps.hints k = if k = q then r.posted else Table.read s.lamps.hints k := by
    intro k
    split
    case isTrue e =>
      rw [Quest.posted, if_neg still, e, setQuest_lamps]
      exact hint_idle hs idle
    case isFalse => rfl
  exact questsLawful_written hs (written_idle hs idle (fun k => setQuest_quest s q k r) rfl hint rfl) lawful defined

/-- A quest that is not in play does not run. -/
theorem not_running_of_idle {r : Quest} (idle : r.inPlay = false) : r.state ≠ .running := fun e => by
  simp [Quest.inPlay, e] at idle

/-- Quests that leave the evaluated set keep the law. -/
theorem questsLawful_leaveSet (hs : s.questsLawful) : (s.leaveSet q).questsLawful := by
  obtain ⟨records, evaluated, used, hints⟩ := hs
  refine ⟨records, fun p hp e he => ?_, used, hints⟩
  obtain ⟨p', hp', rfl⟩ := Option.map_eq_some_iff.1 hp
  exact evaluated p' hp' e (List.mem_filter.1 he).1

/-- A pause takes the hint and the place in the evaluated set from its quest (R113). -/
theorem questsLawful_pause (hs : s.questsLawful) (running : (s.quest q).state = .running) :
    (((s.setQuest q ((s.quest q).goes .paused ((s.quest q).pauseProgress s.play.clock))).setHint q none).leaveSet
      q).questsLawful := by
  have written := written_left (s := s) (q := q) (r := (s.quest q).goes .paused ((s.quest q).pauseProgress s.play.clock))
    (t := ((s.setQuest q ((s.quest q).goes .paused ((s.quest q).pauseProgress s.play.clock))).setHint q none).leaveSet q)
    (fun k => by rw [← setQuest_quest]; simp) (by simp) (fun k => by simp [Table.read_put, Quest.posted, Quest.goes])
    (by simp [leaveSet_pass])
  exact questsLawful_written hs written (paused_lawful (hs.1 q) _ running) fun _ =>
    (missingPattern_congr rfl rfl).trans (hs.2.2.1 q (inPlay_of_running running))

/-- A pattern that no quest in play names may change (R78). -/
theorem questsLawful_setPattern (hs : s.questsLawful) {p : Fin 32} {d : Option Pattern} (free : s.usedBy p = none) :
    (s.setPattern p d).questsLawful := by
  obtain ⟨records, evaluated, used, hints⟩ := hs
  refine ⟨records, evaluated, fun k playing => ?_, hints⟩
  have unnamed : (s.quest k).names p = false := by
    have := List.find?_eq_none.1 free k (List.mem_finRange k)
    have playing' : (s.quest k).inPlay = true := playing
    simpa [playing'] using this
  have before := List.find?_eq_none.1 (used k playing)
  refine List.find?_eq_none.2 fun x hx => ?_
  by_cases e : x = p
  · simp [e, unnamed]
  · have := before x hx
    have same : Table.read (s.setPattern p d).patterns x = Table.read s.patterns x := by
      simp [State.setPattern, Table.read_put, e]
    rw [same]
    exact this

/-- A new game leaves every quest DORMANT or EMPTY, without hints and without a pass (R129). -/
theorem questsLawful_newGame (hs : s.questsLawful) : s.newGame.questsLawful := by
  have quest : ∀ k, s.newGame.quest k = (s.quest k).renewed := fun k => by
    simp only [State.quest, newGame_frame, QuestEngine.renewed]
    simp
  have still : ∀ k, (s.newGame.quest k).state ≠ .running := fun k => by
    rw [quest]
    unfold Quest.renewed
    split
    case isTrue e => simp [e]
    case isFalse => simp
  refine ⟨fun k => quest k ▸ renewed_lawful (hs.1 k), fun p hp => ?_, fun k playing => ?_, fun k => ?_⟩
  · simp [QuestEngine.renewed] at hp
  · rw [quest] at playing
    unfold Quest.renewed at playing
    split at playing
    case isTrue e => simp [Quest.inPlay, e] at playing
    case isFalse => simp [Quest.inPlay] at playing
  · rw [if_neg (still k)]
    simp [State.newGame, LampUnit.renewed]

/-! ### The pass -/

/-- A pass that starts evaluates the RUNNING quests (R119). -/
theorem questsLawful_startPass (hs : s.questsLawful) : s.startPass.questsLawful := by
  obtain ⟨records, evaluated, used, hints⟩ := hs
  unfold State.startPass
  split
  case isFalse => exact ⟨records, evaluated, used, hints⟩
  case isTrue =>
    refine ⟨records, fun p hp e he => ?_, used, hints⟩
    obtain rfl := Option.some.inj hp
    obtain ⟨k, -, hk⟩ := List.mem_filterMap.1 he
    split at hk
    case isTrue running =>
      obtain rfl := Option.some.inj hk
      exact ⟨running, rfl⟩
    case isFalse => cases hk

/-- After the end of an event a wanted pass is in flight (R119). -/
theorem passLawful_finish (s : State) : s.finish.passLawful := by
  unfold State.passLawful State.finish State.startPass
  split
  case isTrue => simp
  case isFalse none_wanted =>
    intro wanted
    rw [Option.isSome_iff_ne_none]
    exact fun none => none_wanted ⟨wanted, none⟩

/-- A hold begun or lost by a RUNNING quest (R121). -/
theorem questsLawful_setHoldSince (hs : s.questsLawful) (running : (s.quest q).state = .running) (v : Option Nat) :
    (s.setHoldSince q v).questsLawful := by
  have written : s.questWritten (s.setHoldSince q v) q
      { s.quest q with progress := { (s.quest q).progress with holdSince := v } } := by
    refine ⟨fun k => setQuest_quest s q k _, rfl, fun k => ?_, fun p hp => ⟨p, hp, fun e he => ⟨he, fun eq => ?_⟩⟩⟩
    · split
      case isTrue e => rw [e]; exact hs.2.2.2 q
      case isFalse => rfl
    · obtain ⟨-, stage⟩ := hs.2.1 p hp e he
      exact ⟨running, eq ▸ stage⟩
  exact questsLawful_written hs written (holdSince_lawful (hs.1 q) running v) fun _ =>
    (missingPattern_congr rfl rfl).trans (hs.2.2.1 q (inPlay_of_running running))

/-- A quest that runs, or has none of its stages left. -/
def Quest.underway (r : Quest) : Prop := r.state = .running ∨ r.current = none

/-- One result applied keeps the law, and leaves quests underway so (R121). -/
theorem questsLawful_applyResult (hs : s.questsLawful) (p : Pass) (e : QuestId × Nat) (under : (s.quest e.1).underway) :
    (State.applyResult p s e).questsLawful ∧
      ∀ k, (s.quest k).underway → ((State.applyResult p s e).quest k).underway := by
  unfold State.applyResult
  dsimp only
  split
  case h_1 => exact ⟨hs, fun _ => id⟩
  case h_2 st current =>
    have running : (s.quest e.1).state = .running := under.resolve_right (by simp [current])
    have held : ∀ v, (s.setHoldSince e.1 v).questsLawful ∧
        ∀ k, (s.quest k).underway → ((s.setHoldSince e.1 v).quest k).underway := fun v =>
      ⟨questsLawful_setHoldSince hs running v, fun k hk => by
        rw [State.setHoldSince, setQuest_quest]
        split
        · exact .inl running
        · exact hk⟩
    have advanced : ∀ b g, (s.advance e.1 st b g).questsLawful ∧
        ∀ k, (s.quest k).underway → ((s.advance e.1 st b g).quest k).underway := fun b g => by
      refine ⟨questsLawful_advance hs st b g running, fun k hk => ?_⟩
      obtain ⟨points, written⟩ := advance_written st b g running
      rw [written.record]
      split
      case isFalse => exact hk
      case isTrue =>
        unfold Quest.advanced
        dsimp only
        split
        case isTrue last => exact .inr (by simp [Quest.current, last])
        case isFalse => exact .inl running
    split
    case h_1 =>
      split
      · exact held _
      · exact ⟨hs, fun _ => id⟩
    case h_2 =>
      split
      · exact ⟨hs, fun _ => id⟩
      · obtain ⟨lawful, rest⟩ := held none
        exact ⟨questsLawful_congr (by simp) (by simp) (by simp) (by simp) lawful, fun k hk => by
          simp only [notify_frame]
          exact rest k hk⟩
    case h_3 =>
      split
      · exact advanced _ _
      · exact ⟨hs, fun _ => id⟩

/-- The results of a pass applied in turn keep the law. -/
theorem questsLawful_results (p : Pass) (l : List (QuestId × Nat)) :
    ∀ {s : State}, s.questsLawful → (∀ e ∈ l, (s.quest e.1).underway) → (l.foldl (State.applyResult p) s).questsLawful := by
  induction l with
  | nil => exact fun hs _ => hs
  | cons e l ih =>
    intro s hs under
    obtain ⟨lawful, rest⟩ := questsLawful_applyResult hs p e (under e List.mem_cons_self)
    exact ih lawful fun d hd => rest d.1 (under d (List.mem_cons_of_mem e hd))

theorem questsLawful_commitPass (hs : s.questsLawful) : s.commitPass.questsLawful := by
  unfold State.commitPass
  split
  case h_1 => exact hs
  case h_2 p hp =>
    obtain ⟨records, evaluated, used, hints⟩ := hs
    exact questsLawful_results p _ ⟨records, (fun _ h => by cases h), used, hints⟩ fun e he => .inl (evaluated p hp e he).1

end Sys2Proof.Machine
end

section
/-!
The law of the quests and the law of the pass are kept by every step (R106, R108, R119, R120, R126).
-/

namespace Sys2Proof.Machine

open Sys2Proof

/-- What leaves the quests, the patterns and the hints keeps the law of the quests. -/
theorem questsLawful_same {s t : State} (quests : t.quests = s.quests) (patterns : t.patterns = s.patterns)
    (hints : t.lamps.hints = s.lamps.hints) (hs : s.questsLawful) : t.questsLawful :=
  questsLawful_congr (by rw [quests]) (by rw [quests]) patterns hints hs

theorem questsLawful_reset (reason : StartReason) (pending : List Instr) :
    (State.afterReset reason pending).questsLawful := by
  have blank : ∀ q, (State.afterReset reason pending).quest q = Quest.blank := fun q => by
    simp [State.afterReset, State.quest]
  refine ⟨fun q => blank q ▸ blank_lawful, (fun p hp => by cases hp), fun q h => ?_, fun q => ?_⟩
  · rw [blank] at h
    cases h
  · rw [blank, if_neg (by simp [Quest.blank])]
    simp [State.afterReset, LampUnit.reset]

/-- The lanes, the cells, a notice, a wake or a rest leave quests, patterns and hints. -/
theorem questsLawful_calm : Calm State.questsLawful where
  cells _ _ hs := hs
  epoch _ _ hs := hs
  lanes _ _ hs := hs
  plan _ _ hs := hs
  roster _ _ hs := hs
  fault _ _ hs := hs
  watch _ _ hs := hs
  link _ _ hs := hs
  guard _ _ hs := hs
  notify _ _ hs := questsLawful_same (by simp) (by simp) (by simp) hs
  move _ hs := questsLawful_same (by simp) (by simp) (by simp) hs
  wants _ hs := hs
  activity _ hs := questsLawful_same (by simp) (by simp) (by simp) hs
  pass _ hs := questsLawful_startPass hs
  wake _ _ hs := questsLawful_same (by simp) (by simp) (by simp) hs
  rest _ hs := questsLawful_same (by simp) (by simp) (by simp) hs

/-- Of the operations of the game, those on quests and patterns are the ones that need an argument. -/
theorem questsLawful_played : Played State.questsLawful where
  toCalm := questsLawful_calm
  blind _ _ _ _ hs := hs
  reset := questsLawful_reset
  sensing _ _ hs := hs
  ready _ _ hs := questsLawful_same (by simp) (by simp) (by simp) hs
  settle _ hs := hs
  tick _ hs := hs
  rises _ hs := hs
  advance _ _ st b e running _ hs := questsLawful_advance hs st b e running
  fail _ _ why playing hs := questsLawful_fail hs playing why
  flashes _ hs := questsLawful_same (by simp) (by simp) (by simp [State.tickFlashes]) hs
  unflash _ _ hs := questsLawful_same (by simp) (by simp) (by simp [State.removeFlash]) hs
  blink _ hs := questsLawful_same (by simp) (by simp) (by simp [State.toggleBlink]) hs
  blinkTick _ hs := questsLawful_same (by simp) (by simp) (by simp) hs
  nextCue _ hs := questsLawful_same (by simp) (by simp) (by simp) hs
  cueTick _ hs := questsLawful_same (by simp) (by simp) (by simp) hs
  commitPass _ hs := questsLawful_commitPass hs
  expire _ _ hs := hs
  setRest _ _ _ hs := hs
  fetch _ _ hs := hs
  modes _ _ hs := hs
  turn _ _ _ _ _ _ _ _ hs := hs
  endTurn _ _ hs := questsLawful_same (by simp) (by simp) (by simp) hs
  runs _ _ hs := questsLawful_same (by simp) (by simp) (by simp) hs
  clock _ _ _ hs := hs
  scores _ _ _ hs := hs
  pattern _ _ _ free hs := questsLawful_setPattern hs free
  define _ _ _ _ some_stage few idle hs :=
    questsLawful_rest hs (not_running_of_idle idle) (defined_lawful some_stage few) (by simp) fun h => by
      simp [Quest.inPlay] at h
  erase _ _ idle hs :=
    questsLawful_leaveSet (questsLawful_rest hs idle blank_lawful (by simp [Quest.blank]) fun h => by
      simp [Quest.inPlay, Quest.blank] at h)
  start s q dormant defined hs :=
    questsLawful_run hs (by simp [dormant]) (started_lawful (hs.1 q) s.play.clock dormant) defined
  pause _ _ running hs := questsLawful_pause hs running
  resume s q paused hs := by
    have run := questsLawful_run hs (by simp [paused]) (resumed_lawful (hs.1 q) s.play.clock paused)
      (hs.2.2.1 q (by simp [Quest.inPlay, paused]))
    rwa [(resumeProgress_keeps (r := s.quest q) s.play.clock).1] at run
  progress s q _ _ within low known idle defined hs :=
    questsLawful_rest hs (not_running_of_idle idle) (setProgress_lawful (hs.1 q) s.play.clock known within low)
      (by simp [Quest.goes]) fun _ => (missingPattern_congr rfl rfl).trans defined
  host _ _ _ hs := hs
  cue _ _ _ hs := questsLawful_same (by simp) (by simp) (by simp) hs
  silence _ hs := questsLawful_same (by simp) (by simp) (by simp [State.silence]) hs
  limit _ _ _ _ hs := hs
  newGame _ hs := questsLawful_newGame hs

/-! ### The wanted pass (R119) -/

/-- The law of the pass reads whether a pass is wanted and whether one is in flight. -/
theorem passLawful_congr {s t : State} (wanted : t.quests.passWanted = s.quests.passWanted)
    (flight : t.quests.pass.isSome = s.quests.pass.isSome) (hs : s.passLawful) : t.passLawful := by
  unfold State.passLawful
  rwa [wanted, flight]

/-- What leaves the Quest Engine keeps the law of the pass. -/
theorem passLawful_same {s t : State} (quests : t.quests = s.quests) (hs : s.passLawful) : t.passLawful :=
  passLawful_congr (by rw [quests]) (by rw [quests]) hs

/-- The requests that end with the arbiters start a wanted pass; the others want none. -/
theorem RequestLeaves.passLawful {s t : State} {b : Bool} (h : RequestLeaves s b t) (hs : s.passLawful) : t.passLawful := by
  cases h
  case same | restarts | setsRest | fetches | setsModes | parkWaits | links | watches | clearsFault | senses | setsTurn |
    setsClock | setsScores | setsPattern | definesQuest =>
    exact hs
  case endsTurn | runsClock => exact passLawful_same (by simp) hs
  case erasesQuest q idle => exact passLawful_congr (s := s) rfl (by simp [leaveSet_pass]) hs
  case setsProgress => exact passLawful_congr (by simp) (by simp) hs
  all_goals exact passLawful_finish _

/-- The law of the pass is kept by every step. -/
theorem passLawful_kept : Kept State.passLawful := by
  refine Kept.of_blind (fun _ _ _ _ hs => hs) (fun _ _ h => by cases h) (fun s hs => ?_) (fun _ _ _ hs h => h.passLawful hs)
    fun s t hs h => ?_
  · unfold State.frameReceived
    split
    · exact passLawful_finish _
    · exact passLawful_same (by simp) hs
  · cases h
    case startsUp => exact passLawful_same (by simp) hs
    all_goals exact passLawful_finish _

end Sys2Proof.Machine

open Sys2Proof Sys2Proof.Machine

/-- Settles O58: every quest operation writes one record with its hint and its place in the evaluated set, and every event ends with the start of a wanted pass. -/
theorem stepKeepsTheQuestsLawful : Obligations.StepKeepsTheQuestsLawful := fun _ _ hs h =>
  ⟨questsLawful_played.kept.step hs.1 h, passLawful_kept.step hs.2 h⟩

end

section
/-!
The ranges (R93, R131, R146): play record, lamps and notices.
-/

namespace Sys2Proof.Machine

open Sys2Proof

/-! ### Properties that quest records do not enter -/

/-- A property that quest records and hints do not enter, with what it asks of points, flashes and cues. -/
structure QuestBlind (P : State → Prop) : Prop where
  lampEvent : ∀ (s : State) (f : State → State), P (f s) → P (s.lampEvent f)
  notify : ∀ s b, P s → P (s.notify b)
  wants : ∀ s, P s → P s.wantPass
  activity : ∀ s, P s → P s.reportActivity
  quests : ∀ s v, P s → P { s with quests := v }
  hints : ∀ s v, P s → P { s with lamps := { s.lamps with hints := v } }
  credit : ∀ s k p, P s → P (s.credit k p)
  flash : ∀ s q r, P s → P (s.postFlash q r)
  offer : ∀ s c, P s → P (s.offerCue c)

namespace QuestBlind

variable {P : State → Prop} (h : QuestBlind P) {s : State}

include h

theorem setHint (hs : P s) (q : QuestId) (r : Option Region) : P (s.setHint q r) := h.lampEvent _ _ (h.hints _ _ hs)

theorem postHint (hs : P s) (q : QuestId) (r : Option Region) : P (s.postHint q r) := by
  cases r with
  | none => exact hs
  | some g => exact h.setHint hs q _

/-- The steps of an advance, one after the other (R122). -/
theorem advance (hs : P s) (q : QuestId) (st : Stage) (b : Bool) (e : BitVec 16) : P (s.advance q st b e) := by
  have told : ∀ k p n, P ((s.credit k p).notify n) := fun k p n => h.notify _ _ (h.credit s k p hs)
  unfold State.advance
  dsimp only
  refine h.activity _ (h.wants _ (h.setHint (h.quests _ _ (h.quests _ _ ?_)) _ _))
  split <;> split
  · exact h.flash _ _ _ (h.offer _ _ (told _ _ _))
  · exact h.flash _ _ _ (told _ _ _)
  · exact h.offer _ _ (told _ _ _)
  · exact told _ _ _

theorem failQuest (hs : P s) (q : QuestId) (why : FailReason) : P (s.failQuest q why) :=
  h.activity _ (h.quests _ _ (h.setHint (h.notify _ _ (h.quests _ _ hs)) q none))

theorem applyResult (p : Pass) (hs : P s) (e : QuestId × Nat) : P (State.applyResult p s e) := by
  unfold State.applyResult
  dsimp only
  split
  case h_1 => exact hs
  case h_2 =>
    split
    case h_1 =>
      split
      · exact h.quests _ _ hs
      · exact hs
    case h_2 =>
      split
      · exact hs
      · exact h.notify _ _ (h.quests _ _ hs)
    case h_3 =>
      split
      · exact h.advance hs _ _ _ _
      · exact hs

theorem results (p : Pass) (l : List (QuestId × Nat)) : ∀ {s : State}, P s → P (l.foldl (State.applyResult p) s) := by
  induction l with
  | nil => exact id
  | cons e l ih => exact fun hs => ih (h.applyResult p hs e)

theorem commitPass (hs : P s) : P s.commitPass := by
  unfold State.commitPass
  split
  · exact hs
  · exact h.results _ _ (h.quests _ _ hs)

end QuestBlind

/-! ### The ranges, unit by unit -/

/-- Play record, lamps and notices lie in their ranges. -/
def State.inRange (s : State) : Prop := s.play.inRange ∧ s.lamps.inRange ∧ s.notices.inRange

/-- A notice made keeps the ranges. -/
theorem inRange_notify {s : State} (hs : s.inRange) (b : NoticeBody) : (s.notify b).inRange := by
  obtain ⟨play, lamps, queue, dropped⟩ := hs
  refine ⟨by simpa only [notify_frame] using play, by simpa only [notify_frame] using lamps, ?_⟩
  rcases notify_cases s b with ⟨-, e⟩ | ⟨-, e⟩
  · rw [e]
    exact ⟨queue, dropped⟩
  · rw [e]
    exact offer_inRange _ _ queue dropped

/-- Play passes to a player in play (R96). -/
theorem nextPlayer_le {current np : Player} (h : 1 ≤ np) : 1 ≤ nextPlayer current np ∧ nextPlayer current np ≤ np := by
  have low : 1 ≤ np.val := h
  have small := Nat.mod_lt current.val (show 0 < np.val from low)
  have fits : (current.val % np.val + 1) % 5 = current.val % np.val + 1 := Nat.mod_eq_of_lt (by omega)
  simp only [nextPlayer, Fin.le_def, Fin.val_ofNat, fits]
  simp
  omega

/-- Turn numbers stay in 1 to 65,535 (R96). -/
theorem nextTurn_le {t : Nat} (h : t ≤ 65535) : 1 ≤ nextTurn t ∧ nextTurn t ≤ 65535 := by
  unfold nextTurn
  split <;> omega

theorem inRange_endTurn {s : State} (hs : s.inRange) (turns : s.play.turns = true) (b : Bool) : (s.endTurn b).inRange := by
  obtain ⟨-, lamps, notices⟩ := inRange_notify hs
    (.turnEnd s.play.current s.play.turnNumber s.play.moves b (nextPlayer s.play.current s.play.np))
  obtain ⟨⟨some_play, -, -, high, -, per, clock, scores⟩, -, -⟩ := hs
  have player := nextPlayer_le (current := s.play.current) some_play
  have turn := nextTurn_le high
  refine ⟨?_, lamps, notices⟩
  simp only [State.endTurn, notify_frame, PlayRecord.inRange, turns]
  exact ⟨some_play, by simpa using player, turn.1, turn.2, Nat.zero_le _, per, clock, scores⟩

theorem inRange_takeMove {s : State} (hs : s.inRange) : s.takeMove.inRange := by
  have counted : State.inRange { s with play := { s.play with moves := min 255 (s.play.moves + 1) } } := by
    obtain ⟨⟨some_play, plays, low, high, -, rest⟩, units⟩ := hs
    exact ⟨⟨some_play, plays, low, high, Nat.min_le_left .., rest⟩, units⟩
  unfold State.takeMove
  dsimp only
  split
  case isFalse => exact hs
  case isTrue turns =>
    split
    · exact inRange_endTurn counted turns _
    · exact counted

/-- What leaves the three units keeps the ranges. -/
theorem inRange_same {s t : State} (play : t.play = s.play) (lamps : t.lamps = s.lamps) (notices : t.notices = s.notices)
    (hs : s.inRange) : t.inRange := by
  unfold State.inRange
  rwa [play, lamps, notices]

/-- A wake or a rest writes of the play record the clock's run state alone. -/
theorem inRange_clockRunning {s : State} (hs : s.inRange) (run byRest : Bool) : (s.setClockRunning run byRest).inRange :=
  inRange_notify (s := { s with play := { s.play with clockRunning := run } }) hs _

end Sys2Proof.Machine
end

section
/-!
The ranges, continued: the lamps' events, and every step (R93, R131, R146).
-/

namespace Sys2Proof.Machine

open Sys2Proof

theorem inRange_lampKept : LampKept State.inRange where
  lanes _ _ hs := hs
  guard _ _ hs := hs
  notify _ b hs := inRange_notify hs b

theorem inRange_rerunClock {s : State} (hs : s.inRange) : s.rerunClock.inRange := by
  unfold State.rerunClock
  split
  · exact inRange_clockRunning (s := { s with rest := { s.rest with autoPaused := false } }) hs _ _
  · exact hs

theorem inRange_wake {s : State} (hs : s.inRange) (w : WakeCause) : (s.wake w).inRange := by
  unfold State.wake
  split
  · have lit : s.allNormal.lightUp.inRange := inRange_lampKept.lampEvent hs
    exact inRange_notify (inRange_rerunClock lit) _
  · exact hs

theorem inRange_restIfDue {s : State} (hs : s.inRange) : s.restIfDue.inRange := by
  have gone : s.goDark.inRange := inRange_lampKept.lampEvent hs
  have dark : s.goDark.allSweep.inRange := inRange_same (by simp) (by simp) (by simp) gone
  have paused : s.goDark.allSweep.pauseForRest.inRange := by
    unfold State.pauseForRest
    split
    · exact inRange_clockRunning (s := { s.goDark.allSweep with rest := { s.goDark.allSweep.rest with autoPaused := true } })
        dark _ _
    · exact dark
  unfold State.restIfDue
  split
  · exact inRange_notify paused _
  · exact hs

theorem inRange_calm : Calm State.inRange where
  toLampKept := inRange_lampKept
  cells _ _ hs := hs
  epoch _ _ hs := hs
  plan _ _ hs := hs
  roster _ _ hs := hs
  fault _ _ hs := hs
  watch _ _ hs := hs
  link _ _ hs := hs
  move _ hs := inRange_takeMove hs
  wants _ hs := hs
  activity _ hs := inRange_same (by simp) (by simp) (by simp) hs
  pass _ hs := inRange_same (by simp) (by simp) (by simp) hs
  wake _ w hs := inRange_wake hs w
  rest _ hs := inRange_restIfDue hs

/-! ### Scores, flashes and cues -/

theorem inRange_credit {s : State} (hs : s.inRange) (k : Player) (p : Nat) : (s.credit k p).inRange := by
  obtain ⟨⟨some_play, plays, low, high, moves, per, clock, scores⟩, units⟩ := hs
  refine ⟨⟨some_play, plays, low, high, moves, per, clock, fun j => ?_⟩, units⟩
  simp only [State.credit, Table.read_put]
  split
  · exact Nat.min_le_left ..
  · exact scores j

/-- A flash written with its ticks in range. -/
theorem inRange_flashes {s : State} (hs : s.inRange) {v : Table 24 (Option Flash)}
    (h : ∀ q f, Table.read v q = some f → 1 ≤ f.left ∧ f.left ≤ 8) :
    State.inRange { s with lamps := { s.lamps with flashes := v } } := by
  obtain ⟨play, ⟨-, rest⟩, notices⟩ := hs
  exact ⟨play, ⟨h, rest⟩, notices⟩

theorem inRange_postFlash {s : State} (hs : s.inRange) (q : QuestId) (r : Region) : (s.postFlash q r).inRange := by
  refine inRange_lampKept.lampEvent (inRange_flashes hs fun k f hf => ?_)
  rw [Table.read_put] at hf
  split at hf
  · cases hf
    simp
  · exact hs.2.1.1 k f hf

theorem inRange_removeFlash {s : State} (hs : s.inRange) (q : QuestId) : (s.removeFlash q).inRange := by
  refine inRange_lampKept.lampEvent (inRange_flashes hs fun k f hf => ?_)
  rw [Table.read_put] at hf
  split at hf
  · cases hf
  · exact hs.2.1.1 k f hf

theorem inRange_tickFlashes {s : State} (hs : s.inRange) : s.tickFlashes.inRange := by
  refine inRange_lampKept.lampEvent (inRange_flashes hs fun k f hf => ?_)
  rw [Table.read_each] at hf
  obtain ⟨g, hg, step⟩ := Option.bind_eq_some_iff.1 hf
  have := hs.2.1.1 k g hg
  unfold Flash.step at step
  split at step
  · cases step
  · cases step
    dsimp only
    omega

/-- The blink count and phase written with the count in range. -/
theorem inRange_blinkCount {s : State} (hs : s.inRange) (b : Bool) {k : Nat} (h : k ≤ 1) :
    State.inRange { s with lamps := { s.lamps with phaseOn := b, blinkCount := k } } := by
  obtain ⟨play, ⟨flashes, -, rest⟩, notices⟩ := hs
  exact ⟨play, ⟨flashes, h, rest⟩, notices⟩

theorem inRange_toggleBlink {s : State} (hs : s.inRange) : s.toggleBlink.inRange :=
  inRange_lampKept.lampEvent (inRange_blinkCount hs _ (Nat.zero_le _))

theorem inRange_tickBlink {s : State} (hs : s.inRange) : s.tickBlink.inRange := by
  unfold State.tickBlink
  split
  case isTrue => exact inRange_toggleBlink hs
  case isFalse few => exact inRange_blinkCount hs s.lamps.phaseOn (by omega)

/-- The cue queue and the sounder written in agreement. -/
theorem inRange_cues {s : State} (hs : s.inRange) {cues : List (Fin 16)} {sounder : Option Nat}
    (few : cues.length ≤ cueRoom) (plays : sounder.isSome = true ↔ cues ≠ []) :
    State.inRange { s with lamps := { s.lamps with cues := cues, sounder := sounder } } := by
  obtain ⟨play, ⟨flashes, blink, low, high, -, -⟩, notices⟩ := hs
  exact ⟨play, ⟨flashes, blink, low, high, few, plays⟩, notices⟩

/-- The sounder plays once the head has started exactly when there is a head. -/
theorem startHead_plays (cues : List (Fin 16)) : (cues.head?.map cueTicks).isSome = true ↔ cues ≠ [] := by
  cases cues <;> simp

theorem inRange_activity {s : State} (hs : s.inRange) : s.reportActivity.inRange := inRange_calm.activity s hs

theorem inRange_enqueueCue {s : State} (hs : s.inRange) (c : Fin 16) (room : s.lamps.cues.length < cueRoom) :
    (s.enqueueCue c).inRange := by
  have few : (s.lamps.cues ++ [c]).length ≤ cueRoom := by
    rw [List.length_append, List.length_singleton]
    exact room
  unfold State.enqueueCue
  dsimp only
  split
  case isTrue =>
    have started := inRange_cues hs few (startHead_plays _)
    exact inRange_activity (inRange_lampKept.lampEvent started)
  case isFalse playing =>
    obtain ⟨-, ⟨-, -, -, -, -, plays⟩, -⟩ := id hs
    exact inRange_cues hs few (by simp [plays, playing])

theorem inRange_offerCue {s : State} (hs : s.inRange) (c : Fin 16) : (s.offerCue c).inRange := by
  unfold State.offerCue
  split
  case isTrue room => exact inRange_enqueueCue hs c room
  case isFalse => exact hs

theorem inRange_silence {s : State} (hs : s.inRange) : s.silence.inRange :=
  inRange_lampKept.lampEvent (inRange_cues hs (Nat.zero_le _) (by simp))

theorem inRange_nextCue {s : State} (hs : s.inRange) : s.nextCue.inRange := by
  have few : s.lamps.cues.tail.length ≤ cueRoom := by
    obtain ⟨-, ⟨-, -, -, -, few, -⟩, -⟩ := hs
    rw [List.length_tail]
    omega
  have next := inRange_lampKept.lampEvent (s := s)
    (f := fun s => { s with lamps := { s.lamps with cues := s.lamps.cues.tail }.startHead })
    (inRange_cues hs few (startHead_plays _))
  unfold State.nextCue
  dsimp only
  split
  · exact inRange_activity next
  · exact next

theorem inRange_tickCue {s : State} (hs : s.inRange) : s.tickCue.inRange := by
  unfold State.tickCue
  split
  case h_1 => exact hs
  case h_2 n playing =>
    split
    case isTrue => exact inRange_restIfDue (inRange_nextCue hs)
    case isFalse =>
      obtain ⟨-, ⟨-, -, -, -, few, plays⟩, -⟩ := id hs
      exact inRange_cues hs few (by simpa [playing] using plays)

theorem inRange_questBlind : QuestBlind State.inRange where
  lampEvent _ _ hf := inRange_calm.lampEvent hf
  notify := inRange_calm.notify
  wants := inRange_calm.wants
  activity := inRange_calm.activity
  quests _ _ hs := hs
  hints _ _ hs := hs
  credit _ k p hs := inRange_credit hs k p
  flash _ q r hs := inRange_postFlash hs q r
  offer _ c hs := inRange_offerCue hs c

/-! ### New games and resets -/

/-- A new game's play record and lamps are in range (R93, R131). -/
theorem inRange_renewed {s : State} (hs : s.inRange) (v : QuestEngine) :
    State.inRange { s with quests := v, play := s.play.renewed, lamps := s.lamps.renewed } := by
  obtain ⟨⟨some_play, -, -, -, -, per, -, -⟩, ⟨-, blink, low, high, -, -⟩, notices⟩ := hs
  refine ⟨⟨some_play, ?_, by simp [PlayRecord.renewed], by simp [PlayRecord.renewed], Nat.zero_le _, per,
    Nat.zero_le _, by simp [PlayRecord.renewed]⟩, ⟨by simp [LampUnit.renewed], blink, low, high, Nat.zero_le _,
    by simp [LampUnit.renewed]⟩, notices⟩
  unfold PlayRecord.renewed
  split
  · exact ⟨by simp, by simpa [‹s.play.turns = true›] using some_play⟩
  · simp_all

theorem notices_renewed_inRange (u : NoticeUnit) : u.renewed.inRange := ⟨Nat.zero_le _, Nat.zero_le _⟩

theorem inRange_newGame {s : State} (hs : s.inRange) : s.newGame.inRange := by
  have lit := inRange_lampKept.lampEvent (s := { s with quests := s.quests.renewed, play := s.play.renewed })
    (f := fun s => { s with lamps := s.lamps.renewed }) (inRange_renewed hs _)
  obtain ⟨play, lamps, -⟩ := inRange_restIfDue lit
  unfold State.newGame
  dsimp only
  generalize State.restIfDue _ = rested at play lamps ⊢
  exact ⟨play, lamps, notices_renewed_inRange rested.notices⟩

theorem play_reset_inRange : PlayRecord.reset.inRange :=
  ⟨by decide, rfl, by decide, by decide, Nat.zero_le _, Nat.zero_le _, Nat.zero_le _, fun k => by simp [PlayRecord.reset]⟩

theorem inRange_reset (reason : StartReason) (pending : List Instr) : (State.afterReset reason pending).inRange := by
  refine ⟨?_, ?_, ⟨Nat.zero_le _, Nat.zero_le _⟩⟩
  · exact play_reset_inRange
  · simp [State.afterReset, LampUnit.inRange, LampUnit.reset]

/-- Every operation of the game keeps the ranges. -/
theorem inRange_played : Played State.inRange where
  toCalm := inRange_calm
  blind _ _ _ _ hs := hs
  reset := inRange_reset
  sensing _ _ hs := hs
  ready s _ hs :=
    inRange_notify (s := { s with
      rest := { s.rest with part := .ready, startUp := none, activity := fullActivity s.rest.delay }
      notices := { s.notices with opened := true } }) hs _
  settle _ hs := hs
  tick _ hs := hs
  rises _ := by
    rintro ⟨⟨some_play, plays, low, high, moves, per, -, scores⟩, units⟩
    exact ⟨⟨some_play, plays, low, high, moves, per, Nat.min_le_left .., scores⟩, units⟩
  advance _ q st b e _ _ hs := inRange_questBlind.advance hs q st b e
  fail _ q why _ hs := inRange_questBlind.failQuest hs q why
  flashes _ hs := inRange_tickFlashes hs
  unflash _ q hs := inRange_removeFlash hs q
  blink _ hs := inRange_toggleBlink hs
  blinkTick _ hs := inRange_tickBlink hs
  nextCue _ hs := inRange_nextCue hs
  cueTick _ hs := inRange_tickCue hs
  commitPass _ hs := inRange_questBlind.commitPass hs
  expire _ _ hs := hs
  setRest _ _ _ hs := hs
  fetch _ k := by
    rintro ⟨play, lamps, queue, -⟩
    refine ⟨play, lamps, ?_, Nat.zero_le _⟩
    rw [List.length_drop]
    omega
  modes _ _ hs := hs
  turn _ _ _ _ _ some_play plays few := by
    rintro ⟨⟨-, -, -, -, -, -, clock, scores⟩, units⟩
    exact ⟨⟨some_play, plays, le_rfl, by simp, Nat.zero_le _, few, clock, scores⟩, units⟩
  endTurn _ turns hs := inRange_endTurn hs turns true
  runs _ b hs := inRange_clockRunning hs b false
  clock _ _ low := by
    rintro ⟨⟨some_play, plays, few, high, moves, per, -, scores⟩, units⟩
    exact ⟨⟨some_play, plays, few, high, moves, per, low, scores⟩, units⟩
  scores _ _ low := by
    rintro ⟨⟨some_play, plays, few, high, moves, per, clock, -⟩, units⟩
    exact ⟨⟨some_play, plays, few, high, moves, per, clock, low⟩, units⟩
  pattern _ _ _ _ hs := hs
  define _ _ _ _ _ _ _ hs := hs
  erase _ _ _ hs := hs
  start _ _ _ _ hs := inRange_questBlind.postHint (inRange_questBlind.quests _ _ (inRange_questBlind.quests _ _ hs)) _ _
  pause _ _ _ hs :=
    inRange_questBlind.quests _ _ (inRange_questBlind.setHint (inRange_questBlind.quests _ _ hs) _ _)
  resume _ _ _ hs := inRange_questBlind.postHint (inRange_questBlind.quests _ _ (inRange_questBlind.quests _ _ hs)) _ _
  progress _ _ _ _ _ _ _ _ _ hs := hs
  host _ _ _ hs := hs
  cue _ c room hs := inRange_enqueueCue hs c room
  silence _ hs := inRange_silence hs
  limit _ _ low high := by
    rintro ⟨play, ⟨flashes, blink, -, -, rest⟩, notices⟩
    exact ⟨play, ⟨flashes, blink, low, high, rest⟩, notices⟩
  newGame _ hs := inRange_newGame hs

end Sys2Proof.Machine
end

section
/-!
The part state with its timers, the auto-paused flag and the Notice Unit (R155, R167).
-/

namespace Sys2Proof.Machine

open Sys2Proof

/-! ### What rests and wakes write -/

section Units

variable (s : State)

@[simp] theorem guardTo_unit (g : Guard) :
    (s.guardTo g).notices.opened = s.notices.opened ∧ (s.guardTo g).notices.modes = s.notices.modes := by
  unfold State.guardTo
  dsimp only
  split
  · simp
  · split <;> simp

/-- An event at the lamps opens or closes no Notice Unit and sets no mode. -/
@[simp] theorem lampEvent_unit (f : State → State) :
    (s.lampEvent f).notices.opened = (f s).notices.opened ∧ (s.lampEvent f).notices.modes = (f s).notices.modes := by
  unfold State.lampEvent State.evalGuard
  dsimp only
  split <;> simp

/-- What a wake leaves of the Rest Controller (R170). -/
theorem wake_rest (w : WakeCause) (resting : s.rest.part = .resting) :
    (s.wake w).rest =
      { s.rest with part := .ready, activity := fullActivity s.rest.delay, autoPaused := false } := by
  unfold State.wake State.rerunClock
  rw [if_pos resting]
  split
  case isTrue => simp [State.setClockRunning, State.lightUp]
  case isFalse h => simpa [State.lightUp] using h

/-- A part that does not rest does not wake. -/
theorem wake_awake (w : WakeCause) (awake : s.rest.part ≠ .resting) : s.wake w = s := if_neg awake

/-- What a rest leaves of the Rest Controller (R169). -/
theorem enterRest_rest :
    s.enterRest.rest =
      { s.rest with
        part := .resting, activity := .stopped
        autoPaused := s.rest.autoPause && s.play.clockRunning || s.rest.autoPaused } := by
  have pauses : s.goDark.allSweep.restPauses = (s.rest.autoPause && s.play.clockRunning) := by
    simp [State.restPauses, State.goDark]
  unfold State.enterRest State.pauseForRest
  dsimp only
  rw [pauses]
  split
  case isTrue h => simp [State.setClockRunning, State.goDark, h]
  case isFalse h =>
    rw [Bool.not_eq_true] at h
    simp [State.goDark, h]

@[simp] theorem wake_opened (w : WakeCause) : (s.wake w).notices.opened = s.notices.opened := by
  unfold State.wake State.rerunClock
  split
  · split <;> simp [State.setClockRunning, State.lightUp]
  · rfl

@[simp] theorem enterRest_opened : s.enterRest.notices.opened = s.notices.opened := by
  unfold State.enterRest State.pauseForRest
  dsimp only
  split <;> simp [State.setClockRunning, State.goDark]

end Units

/-! ### The law -/

/-- The law reads the Rest Controller and whether the Notice Unit is open. -/
theorem restLawful_congr {s t : State} (rest : t.rest = s.rest) (opened : t.notices.opened = s.notices.opened)
    (hs : s.restLawful) : t.restLawful := by
  unfold State.restLawful
  rwa [rest, opened]

/-- An activity timer written that runs or has run out only in a READY part with a rest delay. -/
theorem restLawful_activity {s : State} (hs : s.restLawful) {a : ActivityTimer}
    (h : a ≠ .stopped → s.rest.part = .ready ∧ s.rest.delay ≠ 0) :
    State.restLawful { s with rest := { s.rest with activity := a } } := by
  obtain ⟨starting, opened, -, paused, delay⟩ := hs
  exact ⟨starting, opened, h, paused, delay⟩

/-- A full activity timer runs only with a rest delay. -/
theorem fullActivity_runs {d : Nat} (h : fullActivity d ≠ .stopped) : d ≠ 0 := fun e => by simp [fullActivity, e] at h

/-- A part out of start-up made READY, its activity timer full. -/
theorem restLawful_ready {s t : State} (hs : s.restLawful)
    (rest : t.rest = { s.rest with part := .ready, startUp := none, activity := fullActivity s.rest.delay, autoPaused := false })
    (opened : t.notices.opened = true) : t.restLawful := by
  obtain ⟨-, -, -, -, delay⟩ := hs
  unfold State.restLawful
  rw [rest, opened]
  exact ⟨by simp, by simp, fun h => ⟨rfl, fullActivity_runs h⟩, by simp, delay⟩

theorem restLawful_wake {s : State} (hs : s.restLawful) (w : WakeCause) : (s.wake w).restLawful := by
  by_cases resting : s.rest.part = .resting
  · obtain ⟨starting, opened, -⟩ := id hs
    have out : s.rest.startUp = none := by simpa [resting] using starting
    refine restLawful_ready hs (by simp [wake_rest s w resting, out]) ?_
    rw [wake_opened, opened, resting]
    simp
  · rw [wake_awake s w resting]
    exact hs

theorem restLawful_restIfDue {s : State} (hs : s.restLawful) : s.restIfDue.restLawful := by
  unfold State.restIfDue
  split
  case isFalse => exact hs
  case isTrue due =>
    obtain ⟨starting, opened, -, -, delay⟩ := hs
    have out : s.rest.startUp = none := by simpa [due.1] using starting
    have is_open : s.notices.opened = true := opened.2 (by simp [due.1])
    unfold State.restLawful
    rw [enterRest_rest, enterRest_opened, is_open, out]
    exact ⟨by simp, by simp, by simp, by simp, delay⟩

theorem restLawful_reportActivity {s : State} (hs : s.restLawful) : s.reportActivity.restLawful := by
  unfold State.reportActivity
  split
  case isTrue runs => exact restLawful_activity hs fun _ => runs
  case isFalse => exact hs

theorem restLawful_calm : Calm State.restLawful where
  lanes _ _ hs := hs
  guard _ _ hs := hs
  notify _ _ hs := restLawful_congr (by simp) (by simp) hs
  cells _ _ hs := hs
  epoch _ _ hs := hs
  plan _ _ hs := hs
  roster _ _ hs := hs
  fault _ _ hs := hs
  watch _ _ hs := hs
  link _ _ hs := hs
  move s hs := by
    refine restLawful_congr (by simp) ?_ hs
    unfold State.takeMove State.endTurn
    dsimp only
    split
    · split <;> simp
    · rfl
  wants _ hs := hs
  activity _ hs := restLawful_reportActivity hs
  pass _ hs := restLawful_congr (by simp) (by simp) hs
  wake _ w hs := restLawful_wake hs w
  rest _ hs := restLawful_restIfDue hs

theorem restLawful_enqueueCue {s : State} (hs : s.restLawful) (c : Fin 16) : (s.enqueueCue c).restLawful := by
  unfold State.enqueueCue
  dsimp only
  split
  · exact restLawful_reportActivity (restLawful_calm.lampEvent hs)
  · exact hs

theorem restLawful_nextCue {s : State} (hs : s.restLawful) : s.nextCue.restLawful := by
  have next : (s.lampEvent fun s => { s with lamps := { s.lamps with cues := s.lamps.cues.tail }.startHead }).restLawful :=
    restLawful_calm.lampEvent hs
  unfold State.nextCue
  dsimp only
  split
  · exact restLawful_reportActivity next
  · exact next

theorem restLawful_tickCue {s : State} (hs : s.restLawful) : s.tickCue.restLawful := by
  unfold State.tickCue
  split
  · exact hs
  · split
    · exact restLawful_restIfDue (restLawful_nextCue hs)
    · exact hs

theorem restLawful_tickBlink {s : State} (hs : s.restLawful) : s.tickBlink.restLawful := by
  unfold State.tickBlink
  split
  · exact restLawful_calm.lampEvent hs
  · exact hs

theorem restLawful_questBlind : QuestBlind State.restLawful where
  lampEvent _ _ hf := restLawful_calm.lampEvent hf
  notify := restLawful_calm.notify
  wants := restLawful_calm.wants
  activity := restLawful_calm.activity
  quests _ _ hs := hs
  hints _ _ hs := hs
  credit _ _ _ hs := hs
  flash _ _ _ hs := restLawful_calm.lampEvent hs
  offer s c hs := by
    unfold State.offerCue
    split
    · exact restLawful_enqueueCue hs c
    · exact hs

/-- The rest delay a request gives is 0 or lies in 10 to 3,600 (R169). -/
theorem restDelay_range (v : Nat) : restDelay v = 0 ∨ 10 ≤ restDelay v ∧ restDelay v ≤ 3600 := by
  unfold restDelay
  split
  · exact .inl rfl
  · exact .inr (clamp_mem (by decide) v)

/-- A rest delay and an auto-pause set, the timer restarted or stopped with them (R169). -/
theorem restLawful_setRest {s : State} (hs : s.restLawful) (v : Nat) (a : Bool) :
    State.restLawful { s with
      rest := { s.rest with
        delay := restDelay v, autoPause := a
        activity := if s.rest.part = .ready then fullActivity (restDelay v) else s.rest.activity } } := by
  obtain ⟨starting, opened, active, paused, -⟩ := hs
  refine ⟨starting, opened, fun h => ?_, paused, restDelay_range v⟩
  dsimp only at h ⊢
  split at h
  case isTrue ready => exact ⟨ready, fullActivity_runs h⟩
  case isFalse other => exact absurd (active h).1 other

theorem restLawful_newGame {s : State} (hs : s.restLawful) : s.newGame.restLawful := by
  have lit : (({ s with quests := s.quests.renewed, play := s.play.renewed } : State).lampEvent
      fun s => { s with lamps := s.lamps.renewed }).restLawful :=
    restLawful_calm.lampEvent (restLawful_congr (s := s) rfl rfl hs)
  have rested := restLawful_restIfDue lit
  unfold State.newGame
  dsimp only
  generalize State.restIfDue _ = u at rested ⊢
  exact restLawful_congr (s := u) rfl rfl rested

/-- A running activity timer is not stopped. -/
theorem not_stopped_of_runs {a : ActivityTimer} (h : a.runs = true) : a ≠ .stopped := by
  rintro rfl
  cases h

/-- Every operation of the game keeps the law. -/
theorem restLawful_played : Played State.restLawful where
  toCalm := restLawful_calm
  blind _ _ _ _ hs := hs
  reset _ _ := by
    simp [State.restLawful, State.afterReset, RestController.reset, NoticeUnit.reset]
  sensing _ _ hs := hs
  ready s starting hs := by
    obtain ⟨-, -, -, paused, -⟩ := id hs
    have not_paused : s.rest.autoPaused = false := by simpa [starting] using paused
    refine restLawful_ready hs ?_ ?_
    · simp [State.becomeReady, not_paused]
    · simp [State.becomeReady]
  settle _ hs := hs
  tick _ hs := hs
  rises _ hs := hs
  advance _ q st b e _ _ hs := restLawful_questBlind.advance hs q st b e
  fail _ q why _ hs := restLawful_questBlind.failQuest hs q why
  flashes s hs := restLawful_calm.lampEvent (restLawful_congr (s := s) rfl rfl hs)
  unflash _ _ hs := restLawful_calm.lampEvent hs
  blink _ hs := restLawful_calm.lampEvent hs
  blinkTick _ hs := restLawful_tickBlink hs
  nextCue _ hs := restLawful_nextCue hs
  cueTick _ hs := restLawful_tickCue hs
  commitPass _ hs := restLawful_questBlind.commitPass hs
  expire s runs hs := by
    obtain ⟨-, -, active, -⟩ := id hs
    exact restLawful_activity hs fun _ => active (not_stopped_of_runs runs)
  setRest _ v a hs := restLawful_setRest hs v a
  fetch _ _ hs := hs
  modes _ _ hs := hs
  turn _ _ _ _ _ _ _ _ hs := hs
  endTurn _ _ hs := restLawful_congr (by simp) (by simp [State.endTurn]) hs
  runs _ _ hs := restLawful_congr (by simp [State.setClockRunning]) (by simp [State.setClockRunning]) hs
  clock _ _ _ hs := hs
  scores _ _ _ hs := hs
  pattern _ _ _ _ hs := hs
  define _ _ _ _ _ _ _ hs := hs
  erase _ _ _ hs := hs
  start _ _ _ _ hs :=
    restLawful_questBlind.postHint (restLawful_questBlind.quests _ _ (restLawful_questBlind.quests _ _ hs)) _ _
  pause _ _ _ hs :=
    restLawful_questBlind.quests _ _ (restLawful_questBlind.setHint (restLawful_questBlind.quests _ _ hs) _ _)
  resume _ _ _ hs :=
    restLawful_questBlind.postHint (restLawful_questBlind.quests _ _ (restLawful_questBlind.quests _ _ hs)) _ _
  progress _ _ _ _ _ _ _ _ _ hs := hs
  host _ _ _ hs := hs
  cue _ c _ hs := restLawful_enqueueCue hs c
  silence _ hs := restLawful_calm.lampEvent hs
  limit _ _ _ _ hs := hs
  newGame _ hs := restLawful_newGame hs

end Sys2Proof.Machine

open Sys2Proof Sys2Proof.Machine

/-- Settles O59: the play record, the lamps and the notices stay in their ranges, and the Rest Controller in agreement, through each operation. -/
theorem stepKeepsTheRanges : Obligations.StepKeepsTheRanges :=
  ⟨fun _ _ => inRange_played.kept.step, fun _ _ => restLawful_played.kept.step⟩

end

section
/-!
Lanes and link (R14 to R33, R159, R162, R164): what the slot arbiter, the scan and the lane transitions keep of both laws.
-/

namespace Sys2Proof.Machine

open Sys2Proof

/-! ### One lane unit -/

/-- A RUNNING lane is lawful when nothing of LINKING or LOST is left in it, its requests are listed once and its fairness count is in range. -/
theorem lawful_running {u : LaneUnit} (running : u.state = .running) :
    u.lawful ↔ u.returnState = none ∧ u.settle = none ∧ u.hold = none ∧ u.confirms.Nodup ∧ u.fairness ≤ 2 := by
  simp [LaneUnit.lawful, running]

/-- What a lane that does not run has given up (R14, R18, R20). -/
structure LaneUnit.idle (u : LaneUnit) : Prop where
  slot : u.slot = none
  confirms : u.confirms = []
  waiting : u.waiting = false
  pace : u.pace = none
  sweepTimer : u.sweepTimer = none
  checkPending : u.checkPending = false
  parkWaiting : u.parkWaiting = false
  latch : u.latch = Table.full 12 .off

/-- A lawful lane that does not run is idle. -/
theorem idle_of_lawful {u : LaneUnit} (h : u.lawful) (still : u.state ≠ .running) : u.idle := by
  obtain ⟨-, -, -, idle, -⟩ := h
  obtain ⟨slot, confirms, waiting, pace, sweepTimer, check, park, latch⟩ := idle still
  exact ⟨slot, confirms, waiting, pace, sweepTimer, check, park, latch⟩

/-- An idle lane that is ABSENT, LOST or PARKED is lawful when only a LOST one has a hold timer. -/
theorem lawful_still {u : LaneUnit} (idle : u.idle) (state : u.state = .absent ∨ u.state = .lost ∨ u.state = .parked)
    (back : u.returnState = none) (settle : u.settle = none) (hold : u.hold.isSome = true → u.state = .lost)
    (fairness : u.fairness ≤ 2) : u.lawful := by
  have still : u.state ≠ .linking := by rcases state with e | e | e <;> simp [e]
  exact ⟨by simp [back, still], by simp [settle, still], fun h => .inl (hold h),
    fun _ => ⟨idle.slot, idle.confirms, idle.waiting, idle.pace, idle.sweepTimer, idle.checkPending, idle.parkWaiting, idle.latch⟩,
    by simp [idle.confirms], fairness⟩

/-- An idle lane that is LINKING is lawful when a hold timer goes on only from LOST. -/
theorem lawful_linking {u : LaneUnit} (idle : u.idle) (state : u.state = .linking) (back : u.returnState.isSome = true)
    (settle : u.settle.isSome = true) (hold : u.hold.isSome = true → u.returnState = some .lost)
    (fairness : u.fairness ≤ 2) : u.lawful :=
  ⟨by simp [back, state], by simp [settle, state], fun h => .inr ⟨state, hold h⟩,
    fun _ => ⟨idle.slot, idle.confirms, idle.waiting, idle.pace, idle.sweepTimer, idle.checkPending, idle.parkWaiting, idle.latch⟩,
    by simp [idle.confirms], fairness⟩

/-- The stale flag does not enter a lane's law. -/
theorem lawful_stale {u : LaneUnit} (h : u.lawful) (b : Bool) : ({ u with stale := b } : LaneUnit).lawful := h

/-- A lawful lane's scan switched to SWEEP. -/
theorem toSweep_lawful {u : LaneUnit} (h : u.lawful) : u.toSweep.lawful := by
  obtain ⟨back, settle, hold, idle, confirms, fairness⟩ := h
  refine ⟨back, settle, hold, fun still => ?_, confirms, fairness⟩
  obtain ⟨slot, none, -, -, -, rest⟩ := idle still
  exact ⟨slot, none, rfl, rfl, if_neg still, rest⟩

/-- A lawful lane's scan switched to NORMAL. -/
theorem toNormal_lawful (s : State) (n : Lane) {u : LaneUnit} (h : u.lawful) : (s.toNormal n u).lawful := by
  obtain ⟨back, settle, hold, idle, confirms, fairness⟩ := h
  unfold State.toNormal
  dsimp only
  split
  case isTrue runs => exact ⟨back, settle, hold, fun still => absurd runs.1 still, confirms, Nat.zero_le _⟩
  case isFalse =>
    refine ⟨back, settle, hold, fun still => ?_, confirms, fairness⟩
    obtain ⟨slot, none, -, -, -, rest⟩ := idle still
    exact ⟨slot, none, rfl, rfl, rfl, rest⟩

/-! ### Lanes and link together -/

/-- Every lane's items agree with its state, and the link's with the lanes' work. -/
def State.linked (s : State) : Prop := (∀ n, (s.lane n).lawful) ∧ s.linkLawful

/-- What a lane's pending check or waiting park asks of the request in hand (R33, R162). -/
def LaneUnit.handed (u : LaneUnit) (n : Lane) (inHand : Option InHand) : Prop :=
  ((u.checkPending = true ∨ u.slot = some .check) → inHand = some (.laneCheck n)) ∧
    (u.parkWaiting = true → inHand = some (.parkLane n))

/-- Lanes that are as they were but for their stale flags keep both laws. -/
theorem linked_stale {s t : State} (link : t.link = s.link) (lanes : ∀ n, ∃ b, t.lane n = { s.lane n with stale := b })
    (hs : s.linked) : t.linked := by
  obtain ⟨lawful, owed, assembling, handed⟩ := hs
  refine ⟨fun n => ?_, by rwa [link], by rwa [link], fun n => ?_⟩
  · obtain ⟨b, e⟩ := lanes n
    rw [e]
    exact lawful_stale (lawful n) b
  · obtain ⟨b, e⟩ := lanes n
    rw [link, e]
    exact handed n

/-- Lanes and link left alone keep both laws. -/
theorem linked_same {s t : State} (link : t.link = s.link) (lanes : ∀ n, t.lane n = s.lane n) (hs : s.linked) : t.linked :=
  linked_stale link (fun n => ⟨(s.lane n).stale, lanes n⟩) hs

/-- One lane rewritten, lawful and with no work that the request in hand is not. -/
theorem linked_setLane {s : State} (hs : s.linked) {n : Lane} {u : LaneUnit} (lawful : u.lawful)
    (handed : u.handed n s.link.inHand) : (s.setLane n u).linked := by
  obtain ⟨lanes, owed, assembling, works⟩ := hs
  refine ⟨fun m => ?_, owed, assembling, fun m => ?_⟩
  · rw [setLane_lane]
    split
    · exact lawful
    · exact lanes m
  · rw [setLane_lane]
    split
    case isTrue e => exact e ▸ handed
    case isFalse => exact works m

/-- One RUNNING lane rewritten within its requests, scan and slot, no CHECK slot begun that is not pending. -/
theorem linked_running {s : State} (hs : s.linked) {n : Lane} {u : LaneUnit} (running : (s.lane n).state = .running)
    (frame : u.state = (s.lane n).state ∧ u.returnState = (s.lane n).returnState ∧ u.settle = (s.lane n).settle ∧
      u.hold = (s.lane n).hold ∧ u.checkPending = (s.lane n).checkPending ∧ u.parkWaiting = (s.lane n).parkWaiting)
    (confirms : (s.lane n).confirms.Nodup → u.confirms.Nodup) (fairness : (s.lane n).fairness ≤ 2 → u.fairness ≤ 2)
    (slot : u.slot = some .check → (s.lane n).slot = some .check ∨ (s.lane n).checkPending = true) :
    (s.setLane n u).linked := by
  obtain ⟨state, back, settle, hold, check, park⟩ := frame
  obtain ⟨back', settle', hold', confirms', fairness'⟩ := (lawful_running running).1 (hs.1 n)
  refine linked_setLane hs ((lawful_running (state.trans running)).2
    ⟨back.trans back', settle.trans settle', hold.trans hold', confirms confirms', fairness fairness'⟩) ?_
  obtain ⟨checks, parks⟩ := hs.2.2.2 n
  refine ⟨fun h => checks ?_, fun h => parks (park ▸ h)⟩
  rcases h with h | h
  · exact .inl (check ▸ h)
  · exact (slot h).symm

/-! ### The arbiter and the scan (R27 to R31) -/

section Arbiter

variable {s : State} (hs : s.linked) (n : Lane)

include hs

theorem linked_grantLower (running : (s.lane n).state = .running) : (s.grantLower n).linked := by
  have sense : ∀ i, (s.setLane n (s.afterSense n i)).linked := fun i => by
    unfold State.afterSense
    dsimp only
    split <;> exact linked_running hs running ⟨rfl, rfl, rfl, rfl, rfl, rfl⟩ id (fun _ => Nat.zero_le _) (by simp)
  have lamp : ∀ d, (s.setLane n { s.lane n with slot := some (.lamp d), stale := false }).linked := fun d =>
    linked_running hs running ⟨rfl, rfl, rfl, rfl, rfl, rfl⟩ id id (by simp)
  unfold State.grantLower
  dsimp only
  split
  · split
    · exact lamp _
    · exact sense _
  · split
    · exact lamp _
    · exact hs

theorem linked_grantConfirm (running : (s.lane n).state = .running) (open_ : (s.lane n).barred = false) :
    (s.grantConfirm n).linked := by
  unfold State.grantConfirm
  dsimp only
  split
  case h_1 i rest e =>
    have tail : ((s.lane n).confirms.dropWhile fun i => !s.confirmable n i).Sublist (s.lane n).confirms :=
      List.dropWhile_sublist _
    refine linked_running hs running ⟨rfl, rfl, rfl, rfl, rfl, rfl⟩ (fun nodup => ?_) (fun low => ?_) (by simp)
    · rw [e] at tail
      exact ((nodup.sublist tail).of_cons)
    · simp only [LaneUnit.barred, Bool.and_eq_false_iff, decide_eq_false_iff_not] at open_
      dsimp only
      split
      case isTrue waits =>
        have : ¬2 ≤ (s.lane n).fairness := open_.resolve_right (by simp [waits])
        omega
      case isFalse => exact Nat.zero_le _
  case h_2 =>
    have emptied : (s.setLane n { s.lane n with confirms := [] }).linked :=
      linked_running hs running ⟨rfl, rfl, rfl, rfl, rfl, rfl⟩ (fun _ => List.nodup_nil) id .inl
    exact linked_grantLower emptied n (by simpa using running)

theorem linked_grant : (s.grant n).linked := by
  unfold State.grant
  dsimp only
  split
  case isFalse => exact hs
  case isTrue free =>
    simp only [LaneUnit.grantable, Bool.and_eq_true, decide_eq_true_eq] at free
    obtain ⟨⟨running, -⟩, -⟩ := free
    split
    case isTrue pending => exact linked_running hs running ⟨rfl, rfl, rfl, rfl, rfl, rfl⟩ id id fun _ => .inr pending
    case isFalse =>
      split
      case isTrue => exact linked_grantLower hs n running
      case isFalse h => exact linked_grantConfirm hs n running (by simpa using h)

theorem linked_finish : s.finish.linked := by
  have grants : ∀ (l : List Lane) {u : State}, u.linked → (l.foldl State.grant u).linked := by
    intro l
    induction l with
    | nil => exact id
    | cons n l ih => exact fun hu => ih (linked_grant hu n)
  have granted : s.grantAll.linked := grants _ hs
  exact linked_same (s := s.grantAll) (by simp [State.finish]) (by simp [State.finish]) granted

theorem linked_beginWaiting (running : (s.lane n).state = .running) : (s.beginWaiting n).linked := by
  unfold State.beginWaiting
  split
  · exact hs
  · exact linked_running hs running ⟨rfl, rfl, rfl, rfl, rfl, rfl⟩ id (fun _ => Nat.zero_le _) .inl

theorem linked_beginSweep (running : (s.lane n).state = .running) : (s.beginSweep n).linked := by
  unfold State.beginSweep
  dsimp only
  split
  · exact linked_running hs running ⟨rfl, rfl, rfl, rfl, rfl, rfl⟩ id id .inl
  · exact linked_running hs running ⟨rfl, rfl, rfl, rfl, rfl, rfl⟩ id (fun _ => Nat.zero_le _) .inl

theorem linked_requestConfirm (c : CellId) : (s.requestConfirm c).linked := by
  unfold State.requestConfirm
  dsimp only
  split
  case isFalse => exact hs
  case isTrue asks =>
    refine linked_running hs asks.1 ⟨rfl, rfl, rfl, rfl, rfl, rfl⟩ (fun nodup => ?_) id .inl
    exact List.nodup_append.2 ⟨nodup, List.nodup_singleton _, fun a ha b hb => by
      rw [List.mem_singleton.1 hb]
      exact fun e => asks.2 (e ▸ ha)⟩

/-- A scan that asks for nothing more keeps its lane lawful. -/
theorem linked_stopDeadScan : (s.stopDeadScan n).linked := by
  obtain ⟨back, settle, hold, idle, confirms, fairness⟩ := hs.1 n
  have work := hs.2.2.2 n
  unfold State.stopDeadScan
  dsimp only
  split
  · refine linked_setLane hs ⟨back, settle, hold, fun still => ?_, confirms, fairness⟩ work
    obtain ⟨slot, none, -, -, rest⟩ := idle still
    exact ⟨slot, none, rfl, rfl, rest⟩
  · split
    · refine linked_setLane hs ⟨back, settle, hold, fun still => ?_, confirms, fairness⟩ work
      obtain ⟨slot, none, -, rest⟩ := idle still
      exact ⟨slot, none, rfl, rest⟩
    · exact hs

end Arbiter

end Sys2Proof.Machine
end

section
/-!
Lanes and link, continued: lamps' events, the Cell Tracker, checks, parks, losses and links (R16 to R22, R33 to R35).
-/

namespace Sys2Proof.Machine

open Sys2Proof

/-! ### Events at the lamps and the Cell Tracker -/

theorem linked_lampEvent {s : State} {f : State → State} (hf : (f s).linked) : (s.lampEvent f).linked :=
  linked_stale (s := f s) (by simp) (lampEvent_lane s f) hf

theorem linked_guardTo {s : State} (hs : s.linked) (g : Guard) : (s.guardTo g).linked :=
  linked_stale (by simp) (guardTo_lane s g) hs

theorem linked_notify {s : State} (hs : s.linked) (b : NoticeBody) : (s.notify b).linked :=
  linked_same (by simp) (by simp) hs

/-- The Cell Tracker asks lanes for CONFIRM slots and stops dead scans, no more. -/
theorem linked_tracker : TrackerKept State.linked where
  cells _ _ hs := hs
  commit _ _ hs := linked_same (by simp) (by simp) hs
  notify _ b hs := linked_notify hs b
  move _ hs := linked_same (by simp) (by simp) hs
  fault _ _ hs := hs
  watch _ _ hs := hs
  confirm _ c hs := linked_requestConfirm hs c
  lamp s c r hs := linked_lampEvent (linked_same (s := s) rfl (fun _ => rfl) hs)
  dead _ n hs := linked_stopDeadScan hs n
  wants _ hs := hs

/-! ### Rest and wake (R31) -/

theorem linked_mapLanes {s : State} (hs : s.linked) {f : Lane → LaneUnit → LaneUnit}
    (lawful : ∀ n u, u.lawful → (f n u).lawful)
    (work : ∀ n u, (f n u).checkPending = u.checkPending ∧ (f n u).slot = u.slot ∧ (f n u).parkWaiting = u.parkWaiting) :
    (s.mapLanes f).linked := by
  obtain ⟨lanes, owed, assembling, handed⟩ := hs
  refine ⟨fun n => ?_, owed, assembling, fun n => ?_⟩
  · rw [mapLanes_lane]
    exact lawful n _ (lanes n)
  · obtain ⟨check, slot, park⟩ := work n (s.lane n)
    rw [mapLanes_lane, check, slot, park]
    exact handed n

theorem toNormal_work (s : State) (n : Lane) (u : LaneUnit) :
    (s.toNormal n u).checkPending = u.checkPending ∧ (s.toNormal n u).slot = u.slot ∧
      (s.toNormal n u).parkWaiting = u.parkWaiting := by
  unfold State.toNormal
  dsimp only
  split <;> simp

theorem linked_wake {s : State} (hs : s.linked) (w : WakeCause) : (s.wake w).linked := by
  have normal : s.allNormal.linked := linked_mapLanes hs (fun n _ h => toNormal_lawful s n h) (toNormal_work s)
  have lit : s.allNormal.lightUp.linked := linked_lampEvent (linked_same (s := s.allNormal) rfl (fun _ => rfl) normal)
  unfold State.wake
  split
  · exact linked_same (s := s.allNormal.lightUp) (by simp) (by simp) lit
  · exact hs

theorem linked_restIfDue {s : State} (hs : s.linked) : s.restIfDue.linked := by
  have dark : s.goDark.linked := linked_lampEvent (linked_same (s := s) rfl (fun _ => rfl) hs)
  have swept : s.goDark.allSweep.linked :=
    linked_mapLanes dark (fun _ _ h => toSweep_lawful h) fun _ _ => ⟨rfl, rfl, rfl⟩
  unfold State.restIfDue State.enterRest
  split
  · exact linked_same (s := s.goDark.allSweep) (by simp) (by simp) swept
  · exact hs

/-! ### Hold timers (R18, R19) -/

/-- A hold timer that starts in a LOST lane leaves it LOST with the timer, or ABSENT where it runs out as it starts. -/
theorem startHold_lanes {s : State} {n : Lane} (lost : (s.lane n).state = .lost) :
    ∃ st h, (st = LaneState.lost ∨ st = .absent) ∧ (h.isSome = true → st = .lost) ∧
      ∀ m, (s.startHold n).lane m = if m = n then { s.lane n with state := st, hold := h } else s.lane m := by
  unfold State.startHold
  split
  · refine ⟨.absent, none, .inr rfl, by simp, fun m => ?_⟩
    rw [expireHold_lost lost, setLane_lane]
    split
    · rfl
    case isFalse ne => simp [setLane_lane, ne]
  · refine ⟨.lost, some s.sensing.hold, .inl rfl, fun _ => rfl, fun m => ?_⟩
    rw [setLane_lane]
    split
    · rw [← lost]
    · rfl

/-- A lawful LOST lane stays lawful as its hold timer starts. -/
theorem linked_startHold {s : State} (hs : s.linked) {n : Lane} (lost : (s.lane n).state = .lost) :
    (s.startHold n).linked := by
  obtain ⟨st, h, state, timer, lanes⟩ := startHold_lanes lost
  have idle := idle_of_lawful (hs.1 n) (by simp [lost])
  obtain ⟨back, settle, -, -, -, fairness⟩ := hs.1 n
  have lawful : ({ s.lane n with state := st, hold := h } : LaneUnit).lawful :=
    lawful_still ⟨idle.slot, idle.confirms, idle.waiting, idle.pace, idle.sweepTimer, idle.checkPending, idle.parkWaiting, idle.latch⟩
      (state.elim (fun e => .inr (.inl e)) .inl) (by simpa [lost] using back) (by simpa [lost] using settle) timer fairness
  have written : (s.setLane n { s.lane n with state := st, hold := h }).linked := linked_setLane hs lawful (hs.2.2.2 n)
  exact linked_same (s := s.setLane n _) (by simp) (fun m => by rw [lanes, setLane_lane]) written

/-- A hold timer that runs out in a LINKING lane (R19). -/
theorem expireHold_linking {s : State} {n : Lane} (h : (s.lane n).state = .linking) :
    s.expireHold n =
      ((s.setLane n { s.lane n with hold := none }).clearCells n).setLane n
        { s.lane n with hold := none, returnState := some .absent } := by
  unfold State.expireHold
  simp [h]

/-- A hold timer that runs out (R19). -/
theorem linked_expireHold {s : State} (hs : s.linked) {n : Lane} (runs : (s.lane n).hold.isSome = true) :
    (s.expireHold n).linked := by
  obtain ⟨back, settle, hold, idles, confirms, fairness⟩ := hs.1 n
  have stopped : (s.setLane n { s.lane n with hold := none }).linked :=
    linked_setLane hs ⟨back, settle, by simp, idles, confirms, fairness⟩ (hs.2.2.2 n)
  have cleared := linked_tracker.clearCells stopped n
  rcases hold runs with lost | ⟨linking, -⟩
  · have idle := idle_of_lawful (hs.1 n) (by simp [lost])
    have absent : ({ s.lane n with hold := none, state := .absent } : LaneUnit).lawful :=
      lawful_still ⟨idle.slot, idle.confirms, idle.waiting, idle.pace, idle.sweepTimer, idle.checkPending,
        idle.parkWaiting, idle.latch⟩ (.inl rfl) (by simpa [lost] using back) (by simpa [lost] using settle) (by simp) fairness
    rw [expireHold_lost lost]
    exact linked_setLane cleared absent (by simpa [LaneUnit.handed] using hs.2.2.2 n)
  · have idle := idle_of_lawful (hs.1 n) (by simp [linking])
    have goes_on : ({ s.lane n with hold := none, returnState := some .absent } : LaneUnit).lawful :=
      lawful_linking ⟨idle.slot, idle.confirms, idle.waiting, idle.pace, idle.sweepTimer, idle.checkPending,
        idle.parkWaiting, idle.latch⟩ linking rfl (by simpa [linking] using settle) (by simp) fairness
    rw [expireHold_linking linking]
    exact linked_setLane cleared goes_on (by simpa [LaneUnit.handed] using hs.2.2.2 n)

/-! ### Work that ends: checks and parks (R20, R33 to R35) -/

/-- A lane's work answered: its request out of hand, a reply queued, the other lanes steady but for stale flags. -/
theorem linked_answered {s t : State} (hs : s.linked) {n : Lane}
    (hand : s.link.inHand = some (.laneCheck n) ∨ s.link.inHand = some (.parkLane n))
    (others : ∀ m, m ≠ n → ∃ b, t.lane m = { s.lane m with stale := b }) (own : (t.lane n).lawful)
    (free : (t.lane n).checkPending = false ∧ (t.lane n).slot ≠ some .check ∧ (t.lane n).parkWaiting = false)
    (link : ∃ r, t.link = { s.link with inHand := none, replies := s.link.replies ++ [r] }) : t.linked := by
  obtain ⟨lanes, owed, assembling, handed⟩ := hs
  obtain ⟨r, link⟩ := link
  have in_hand : s.link.inHand.isSome = true := by rcases hand with e | e <;> simp [e]
  refine ⟨fun m => ?_, ?_, by rwa [link], fun m => ?_⟩
  · by_cases e : m = n
    · exact e ▸ own
    · obtain ⟨b, eq⟩ := others m e
      rw [eq]
      exact lawful_stale (lanes m) b
  · simp only [LinkUnit.owed, in_hand, if_true] at owed
    simpa [link, LinkUnit.owed] using owed
  · by_cases e : m = n
    · obtain ⟨check, slot, park⟩ := free
      subst e
      simp [check, slot, park]
    · obtain ⟨b, eq⟩ := others m e
      obtain ⟨checks, parks⟩ := handed m
      rw [eq]
      refine ⟨fun h => ?_, fun h => ?_⟩
      · have other := checks h
        rcases hand with h' | h' <;> rw [h'] at other <;> simp at other
        exact absurd other.symm e
      · have other := parks h
        rcases hand with h' | h' <;> rw [h'] at other <;> simp at other
        exact absurd other.symm e

theorem endCheck_lane (s : State) (n m : Lane) (v : Bool) (r : RawResult) :
    (s.endCheck n v r).lane m = if m = n then { s.lane n with checkPending := false } else s.lane m := by
  rw [← setLane_lane]
  unfold State.endCheck
  dsimp only
  split
  · rfl
  · simp only [postFault_frame]
    rfl

theorem endCheck_link (s : State) (n : Lane) (v : Bool) (r : RawResult) :
    (s.endCheck n v r).link = { s.link with
      inHand := none
      replies := s.link.replies ++ [{ kind := replyKind 0x1A, status := .success, data := checkData v r }] } := by
  unfold State.endCheck
  dsimp only
  split
  · rfl
  · simp only [postFault_frame]
    rfl

/-- A CHECK slot that ends (R34). -/
theorem linked_endCheckSlot {s : State} (hs : s.linked) {n : Lane} (flight : (s.lane n).slot = some .check) (r : RawResult) :
    (s.endCheckSlot n r).linked := by
  have running : (s.lane n).state = .running := by
    by_contra still
    have idle := idle_of_lawful (hs.1 n) still
    rw [idle.slot] at flight
    cases flight
  have hand := (hs.2.2.2 n).1 (.inr flight)
  have no_park : (s.lane n).parkWaiting = false := by
    by_contra waits
    have := (hs.2.2.2 n).2 (by simpa using waits)
    rw [hand] at this
    cases this
  have own : (s.endCheckSlot n r).lane n = { s.lane n with slot := none, checkPending := false } := by
    unfold State.endCheckSlot
    rw [endCheck_lane, if_pos rfl, setLane_lane, if_pos rfl]
  refine linked_answered hs (.inl hand) (fun m hm => ⟨(s.lane m).stale, ?_⟩) ?_ ?_ ⟨_, endCheck_link ..⟩
  · unfold State.endCheckSlot
    rw [endCheck_lane, if_neg hm, setLane_lane, if_neg hm]
  · rw [own]
    have lawful := (lawful_running running).1 (hs.1 n)
    exact (lawful_running (u := { s.lane n with slot := none, checkPending := false }) running).2 lawful
  · rw [own]
    exact ⟨rfl, by simp, no_park⟩

end Sys2Proof.Machine
end

section
/-!
Lanes and link, continued: parks, losses, links, and reads (R16 to R22).
-/

namespace Sys2Proof.Machine

open Sys2Proof

variable {s : State} {n : Lane}

/-! ### Parks (R20) -/

/-- A lane that has left RUNNING without work is lawful. -/
theorem stopped_lawful {u : LaneUnit} (h : u.lawful) (running : u.state = .running) (check : u.checkPending = false)
    (park : u.parkWaiting = false) {st : LaneState} (state : st = .lost ∨ st = .parked) : (u.stopped st).lawful := by
  obtain ⟨back, settle, hold, -, -⟩ := (lawful_running running).1 h
  exact lawful_still (u := u.stopped st) ⟨rfl, rfl, rfl, rfl, rfl, check, park, rfl⟩ (.inr state) back settle
    (by simp [LaneUnit.stopped, hold]) (Nat.zero_le _)

/-- What a park writes of the lanes: its own, PARKED with its latch dark, and stale flags. -/
theorem park_lanes (s : State) (n : Lane) (other : (s.lane n).state ≠ .parked) :
    ∃ u : LaneUnit, (u = (s.lane n).stopped .parked ∧ (s.lane n).state = .running ∨
        u = { s.lane n with
          state := .parked, settle := none, hold := none, returnState := none, latch := Table.full 12 .off } ∧
          (s.lane n).state ≠ .running) ∧
      ∀ m, ∃ b, (s.park n).lane m = { (if m = n then u else s.lane m) with stale := b } := by
  unfold State.park
  dsimp only
  split
  case h_1 running =>
    refine ⟨_, .inl ⟨rfl, running⟩, fun m => ?_⟩
    obtain ⟨b, e⟩ := lampEvent_lane s (fun u => u.setLane n ((s.lane n).stopped .parked)) m
    refine ⟨b, ?_⟩
    rw [← setLane_lane, ← e]
    simp
  case h_2 parked => exact absurd parked other
  case h_3 running _ =>
    refine ⟨_, .inr ⟨rfl, running⟩, fun m => ⟨_, setLane_lane ..⟩⟩

/-- A park of a lane without work in hand. -/
theorem linked_park (hs : s.linked) (check : (s.lane n).checkPending = false) (park : (s.lane n).parkWaiting = false) :
    (s.park n).linked := by
  by_cases parked : (s.lane n).state = .parked
  · unfold State.park
    simpa only [parked] using hs
  obtain ⟨u, shape, lanes⟩ := park_lanes s n parked
  have lawful : u.lawful ∧ u.slot = none ∧ u.checkPending = false ∧ u.parkWaiting = false := by
    rcases shape with ⟨rfl, running⟩ | ⟨rfl, still⟩
    · exact ⟨stopped_lawful (hs.1 n) running check park (.inr rfl), rfl, check, park⟩
    · have idle := idle_of_lawful (hs.1 n) still
      exact ⟨lawful_still ⟨idle.slot, idle.confirms, idle.waiting, idle.pace, idle.sweepTimer, check, park, rfl⟩
        (.inr (.inr rfl)) rfl rfl (by simp) (hs.1 n).2.2.2.2.2, idle.slot, check, park⟩
  obtain ⟨lawful, slot, check', park'⟩ := lawful
  have written : (s.setLane n u).linked := linked_setLane hs lawful (by simp [LaneUnit.handed, slot, check', park'])
  exact linked_stale (s := s.setLane n u) (by simp) (fun m => by simpa only [setLane_lane] using lanes m) written

/-- What completing a park leaves of a lane (R20). -/
theorem completePark_lanes (s : State) (n : Lane) (other : (s.lane n).state ≠ .parked) :
    ∃ u : LaneUnit, (u = ({ s.lane n with parkWaiting := false } : LaneUnit).stopped .parked ∧ (s.lane n).state = .running ∨
        u = { s.lane n with
          parkWaiting := false, state := .parked, settle := none, hold := none, returnState := none
          latch := Table.full 12 .off } ∧ (s.lane n).state ≠ .running) ∧
      ∀ m, ∃ b, (s.completePark n).lane m = { (if m = n then u else s.lane m) with stale := b } := by
  obtain ⟨u, shape, lanes⟩ := park_lanes (s.setLane n { s.lane n with parkWaiting := false }) n (by simpa using other)
  rw [setLane_lane, if_pos rfl] at shape
  refine ⟨u, shape, fun m => ?_⟩
  obtain ⟨b, e⟩ := lanes m
  refine ⟨b, e.trans ?_⟩
  rw [setLane_lane]
  split <;> rfl

theorem completePark_link (s : State) (n : Lane) :
    ∃ r, (s.completePark n).link = { s.link with inHand := none, replies := s.link.replies ++ [r] } := by
  have link : ((s.setLane n { s.lane n with parkWaiting := false }).park n).link = s.link := by simp
  have answered : ∀ r, (({ (s.setLane n { s.lane n with parkWaiting := false }).park n with
      link := { ((s.setLane n { s.lane n with parkWaiting := false }).park n).link with inHand := none } } : State).pushReply
        r).link = { s.link with inHand := none, replies := s.link.replies ++ [r] } := fun r => by
    simp only [State.pushReply, link]
  exact ⟨_, answered _⟩

/-- A waiting park that completes (R20). -/
theorem linked_completePark (hs : s.linked) (due : (s.lane n).parkDue = true) : (s.completePark n).linked := by
  simp only [LaneUnit.parkDue, Bool.and_eq_true, decide_eq_true_eq] at due
  obtain ⟨⟨running, waits⟩, -⟩ := due
  have hand := (hs.2.2.2 n).2 waits
  have check : (s.lane n).checkPending = false := by
    by_contra pending
    have := (hs.2.2.2 n).1 (.inl (by simpa using pending))
    rw [hand] at this
    cases this
  obtain ⟨u, shape, lanes⟩ := completePark_lanes s n (by simp [running])
  obtain ⟨rfl, -⟩ := shape.resolve_right fun h => h.2 running
  have lawful := (lawful_running running).1 (hs.1 n)
  have done : ({ s.lane n with parkWaiting := false } : LaneUnit).lawful :=
    (lawful_running (u := { s.lane n with parkWaiting := false }) running).2 lawful
  have parked := stopped_lawful (st := .parked) done running check rfl (.inr rfl)
  obtain ⟨b, own⟩ := lanes n
  rw [if_pos rfl] at own
  refine linked_answered hs (.inr hand) (fun m hm => ?_) ?_ ?_ (completePark_link s n)
  · simpa only [if_neg hm] using lanes m
  · rw [own]
    exact lawful_stale parked b
  · rw [own]
    exact ⟨check, by simp [LaneUnit.stopped], rfl⟩

/-! ### Losses (R17, R18, R35) -/

/-- What a lane is made of as it leaves RUNNING. -/
theorem stopped_lanes (s : State) (n : Lane) (st : LaneState) (m : Lane) :
    ∃ b, (s.lampEvent fun s => s.setLane n ((s.lane n).stopped st)).lane m =
      { (if m = n then (s.lane n).stopped st else s.lane m) with stale := b } := by
  obtain ⟨b, e⟩ := lampEvent_lane s (fun s => s.setLane n ((s.lane n).stopped st)) m
  exact ⟨b, by rw [e, setLane_lane]⟩

/-- Cells HELD and the loss told, before the hold timer starts: the lanes and the link are left alone. -/
theorem linked_told (hs : s.linked) (b : NoticeBody) : ((s.loseCells n).notify b).linked :=
  linked_same (s := s) (by simp) (by simp) hs

/-- The hold timer of a lane lost with a park waiting starts, and the park completes: the lane is PARKED. -/
theorem parked_lost {u : State} (lost : (u.lane n).state = .lost) :
    ∃ v : LaneUnit, v = { u.lane n with
        parkWaiting := false, state := .parked, settle := none, hold := none, returnState := none
        latch := Table.full 12 .off } ∧
      ∀ m, ∃ b, ((u.startHold n).completePark n).lane m = { (if m = n then v else u.lane m) with stale := b } := by
  obtain ⟨st, h, state, -, lanes⟩ := startHold_lanes lost
  have own := lanes n
  rw [if_pos rfl] at own
  have still : ((u.startHold n).lane n).state ≠ .parked ∧ ((u.startHold n).lane n).state ≠ .running := by
    rw [own]
    rcases state with rfl | rfl <;> simp
  obtain ⟨w, shape, parked⟩ := completePark_lanes (u.startHold n) n still.1
  obtain ⟨rfl, -⟩ := shape.resolve_left fun h => still.2 h.2
  refine ⟨_, rfl, fun m => ?_⟩
  obtain ⟨b, e⟩ := parked m
  refine ⟨b, e.trans ?_⟩
  rw [own, lanes]
  split <;> rfl

/-- A RUNNING lane lost (R18): its check ends with a FAIL, or its waiting park completes. -/
theorem linked_loseLane (hs : s.linked) (running : (s.lane n).state = .running) : (s.loseLane n).linked := by
  obtain ⟨b, own⟩ := stopped_lanes s n .lost n
  rw [if_pos rfl] at own
  have other : ∀ m, m ≠ n → ∃ b, (s.lampEvent fun s => s.setLane n ((s.lane n).stopped .lost)).lane m =
      { s.lane m with stale := b } := fun m hm => by
    simpa only [if_neg hm] using stopped_lanes s n .lost m
  have link : (s.lampEvent fun s => s.setLane n ((s.lane n).stopped .lost)).link = s.link := by simp
  obtain ⟨checks, parks⟩ := hs.2.2.2 n
  have lawful := (lawful_running running).1 (hs.1 n)
  unfold State.loseLane
  dsimp only
  generalize (s.lampEvent fun s => s.setLane n ((s.lane n).stopped .lost)) = u at own other link
  by_cases check : (s.lane n).checkPending = true
  case pos =>
    have hand := checks (.inl check)
    have no_park : (s.lane n).parkWaiting = false := by
      by_contra waits
      rw [hand] at parks
      cases parks (by simpa using waits)
    rw [if_pos check, if_neg (by simp [no_park])]
    have ended : ∀ r, (u.endCheck n false r).linked := fun r => by
      have own' : (u.endCheck n false r).lane n =
          { ({ s.lane n with checkPending := false } : LaneUnit).stopped .lost with stale := b } := by
        rw [endCheck_lane, if_pos rfl, own]
        rfl
      have done : ({ s.lane n with checkPending := false } : LaneUnit).lawful :=
        (lawful_running (u := { s.lane n with checkPending := false }) running).2 lawful
      refine linked_answered hs (.inl hand) (fun m hm => ?_) ?_ ?_ ⟨_, by rw [endCheck_link, link]⟩
      · rw [endCheck_lane, if_neg hm]
        exact other m hm
      · rw [own']
        exact lawful_stale (stopped_lawful (st := .lost) done running rfl no_park (.inl rfl)) b
      · rw [own']
        exact ⟨rfl, by simp [LaneUnit.stopped], no_park⟩
    refine linked_startHold (linked_told (ended _) _) ?_
    simp [endCheck_lane, own, LaneUnit.stopped]
  case neg =>
    rw [if_neg check]
    have told : ∀ w m, ((u.loseCells n).notify w).lane m = u.lane m := by simp
    have lost : ∀ w, (((u.loseCells n).notify w).lane n).state = .lost := fun w => by
      rw [told, own]
      rfl
    by_cases park : (s.lane n).parkWaiting = true
    case neg =>
      rw [if_neg park]
      have gone := stopped_lawful (st := .lost) (hs.1 n) running (by simpa using check) (by simpa using park) (.inl rfl)
      have written : (s.setLane n ((s.lane n).stopped .lost)).linked :=
        linked_setLane hs gone (by simp [LaneUnit.handed, LaneUnit.stopped, check, park])
      have left : u.linked := linked_stale (s := s.setLane n ((s.lane n).stopped .lost)) (by simpa using link) (fun m => by
        rw [setLane_lane]
        split
        case isTrue e => exact ⟨b, e ▸ own⟩
        case isFalse hm => exact other m hm) written
      exact linked_startHold (linked_told left _) (lost _)
    case pos =>
      rw [if_pos park]
      have hand := parks park
      obtain ⟨v, rfl, lanes⟩ := parked_lost (lost (.laneGone n (u.becomeHeldCount n)))
      have idle : ({ s.lane n with parkWaiting := false } : LaneUnit).lawful :=
        (lawful_running (u := { s.lane n with parkWaiting := false }) running).2 lawful
      obtain ⟨b', own'⟩ := lanes n
      obtain ⟨r, link'⟩ := completePark_link (((u.loseCells n).notify (.laneGone n (u.becomeHeldCount n))).startHold n) n
      rw [if_pos rfl, told, own] at own'
      refine linked_answered hs (.inr hand) (fun m hm => ?_) ?_ ?_ ⟨r, by rw [link']; simp [link]⟩
      · obtain ⟨c, e⟩ := lanes m
        obtain ⟨d, e'⟩ := other m hm
        rw [if_neg hm, told, e'] at e
        exact ⟨c, e⟩
      · rw [own']
        have parked := stopped_lawful (st := .parked) idle running (by simpa using check) rfl (.inr rfl)
        exact lawful_still ⟨rfl, rfl, rfl, rfl, rfl, by simpa [LaneUnit.stopped] using check, rfl, rfl⟩ (.inr (.inr rfl)) rfl rfl (by simp)
          (Nat.zero_le _)
      · rw [own']
        exact ⟨by simpa [LaneUnit.stopped] using check, by simp [LaneUnit.stopped], rfl⟩

/-- A LINKING lane goes back to its return state (R17). -/
theorem linked_unlinkLane (hs : s.linked) (linking : (s.lane n).state = .linking) : (s.unlinkLane n).linked := by
  have idle := idle_of_lawful (hs.1 n) (by simp [linking])
  obtain ⟨back, settle, hold, -, -, fairness⟩ := hs.1 n
  have work : ∀ st h, ({ s.lane n with
      state := st, returnState := none, settle := none, hold := h, latch := Table.full 12 .off } : LaneUnit).handed n
        s.link.inHand := fun st h => by
    simp [LaneUnit.handed, idle.checkPending, idle.slot, idle.parkWaiting]
  have still : ∀ st h, (st = LaneState.absent ∨ st = .lost ∨ st = .parked) → (h.isSome = true → st = .lost) →
      ({ s.lane n with state := st, returnState := none, settle := none, hold := h, latch := Table.full 12 .off } : LaneUnit).lawful :=
    fun st h state timer => lawful_still ⟨idle.slot, idle.confirms, idle.waiting, idle.pace, idle.sweepTimer,
      idle.checkPending, idle.parkWaiting, rfl⟩ state rfl rfl timer fairness
  unfold State.unlinkLane
  dsimp only
  split
  case h_1 =>
    have lost := linked_setLane hs (still .lost (s.lane n).hold (.inr (.inl rfl)) fun _ => rfl) (work _ _)
    split
    · exact linked_startHold lost (by simp)
    · exact lost
  case h_2 other =>
    refine linked_setLane hs (still .absent (s.lane n).hold (.inl rfl) fun h => ?_) (work _ _)
    rcases hold h with lost | ⟨-, lost⟩
    · rw [linking] at lost
      cases lost
    · exact absurd lost other

/-- A LINKING lane enters RUNNING (R17). -/
theorem linked_linkLane (hs : s.linked) (linking : (s.lane n).state = .linking) : (s.linkLane n).linked := by
  have idle := idle_of_lawful (hs.1 n) (by simp [linking])
  obtain ⟨-, -, -, -, confirms, -⟩ := hs.1 n
  have lawful : (s.startedLane n).lawful :=
    (lawful_running (u := s.startedLane n) rfl).2 ⟨rfl, rfl, rfl, confirms, Nat.zero_le _⟩
  have started : (s.lampEvent fun s => s.setLane n (s.startedLane n)).linked :=
    linked_lampEvent (linked_setLane hs lawful
      (by simp [LaneUnit.handed, State.startedLane, idle.checkPending, idle.slot, idle.parkWaiting]))
  unfold State.linkLane
  dsimp only
  split
  · exact linked_same (s := s.lampEvent fun s => s.setLane n (s.startedLane n)) (by simp) (by simp) started
  · exact started

/-! ### Connector events and reads -/

/-- The connector level enters neither law. -/
theorem linked_setConnector (hs : s.linked) (b : Bool) : (s.setConnector n b).linked := linked_setLane hs (hs.1 n) (hs.2.2.2 n)

/-- A lane put into LINKING (R16, R21). -/
theorem linked_beginLink (hs : s.linked) {back : ReturnState} {h : Option Nat}
    (state : (s.lane n).state = .absent ∨ (s.lane n).state = .lost ∨ (s.lane n).state = .parked)
    (timer : h.isSome = true → back = .lost) :
    (s.setLane n { s.lane n with state := .linking, returnState := some back, settle := some 200, hold := h }).linked := by
  have idle := idle_of_lawful (hs.1 n) (by rcases state with e | e | e <;> simp [e])
  refine linked_setLane hs (lawful_linking ⟨idle.slot, idle.confirms, idle.waiting, idle.pace, idle.sweepTimer,
    idle.checkPending, idle.parkWaiting, idle.latch⟩ rfl rfl rfl (fun h => congrArg some (timer h)) (hs.1 n).2.2.2.2.2) ?_
  simp [LaneUnit.handed, idle.checkPending, idle.slot, idle.parkWaiting]

theorem linked_seeConnector (hs : s.linked) : (s.seeConnector n).linked := by
  obtain ⟨-, -, hold, -⟩ := hs.1 n
  unfold State.seeConnector State.beginLink
  split
  case h_1 absent =>
    refine linked_wake (linked_beginLink (h := (s.lane n).hold) hs (.inl absent) fun h => ?_) _
    rcases hold h with e | ⟨e, -⟩ <;> rw [absent] at e <;> cases e
  case h_2 lost => exact linked_wake (linked_beginLink (h := (s.lane n).hold) hs (.inr (.inl lost)) fun _ => rfl) _
  all_goals exact hs

theorem linked_dropConnector (hs : s.linked) : (s.dropConnector n).linked := by
  unfold State.dropConnector
  split
  case h_1 running => exact linked_wake (linked_loseLane hs running) _
  case h_2 linking => exact linked_wake (linked_unlinkLane hs linking) _
  all_goals exact hs

/-- A slot other than a CHECK slot leaves the lane (R26, R32). -/
theorem linked_endSlot (hs : s.linked) (running : (s.lane n).state = .running) {u : LaneUnit}
    (slot : u = { s.lane n with slot := none } ∨ ∃ copy, u = { s.lane n with slot := none, latch := copy }) :
    (s.setLane n u).linked := by
  rcases slot with rfl | ⟨copy, rfl⟩ <;> exact linked_running hs running ⟨rfl, rfl, rfl, rfl, rfl, rfl⟩ id id (by simp)

theorem linked_endRead (hs : s.linked) {c : CellId} (running : (s.lane c.lane).state = .running) (k : SlotKind)
    (r : RawResult) : (s.endRead c k r).linked := by
  have ended : (s.setLane c.lane { s.lane c.lane with slot := none }).linked := linked_endSlot hs running (.inl rfl)
  have granted := linked_grant (linked_tracker.takeOutcome ended c k r) c.lane
  unfold State.endRead
  dsimp only
  split
  · exact linked_wake granted _
  · exact granted

end Sys2Proof.Machine
end

section
/-!
Lanes and link, concluded: the game, the requests, and every step (R14 to R22, R33, R159, R162, R164).
-/

namespace Sys2Proof.Machine

open Sys2Proof

variable {s : State}

/-! ### The game -/

/-- What neither the lanes nor the link sees. -/
theorem linked_lanes {t : State} (link : t.link = s.link) (lanes : t.lanes = s.lanes) (hs : s.linked) : t.linked :=
  linked_same link (fun n => by rw [State.lane, lanes]; rfl) hs

theorem linked_reportActivity (hs : s.linked) : s.reportActivity.linked := linked_same (by simp) (by simp) hs

theorem linked_enqueueCue (hs : s.linked) (c : Fin 16) : (s.enqueueCue c).linked := by
  have queued : State.linked { s with lamps := { s.lamps with cues := s.lamps.cues ++ [c] } } := hs
  unfold State.enqueueCue
  dsimp only
  split
  · exact linked_reportActivity (linked_lampEvent (linked_lanes (s := s) rfl rfl hs))
  · exact queued

theorem linked_nextCue (hs : s.linked) : s.nextCue.linked := by
  have next : (s.lampEvent fun s => { s with lamps := { s.lamps with cues := s.lamps.cues.tail }.startHead }).linked :=
    linked_lampEvent (linked_lanes (s := s) rfl rfl hs)
  unfold State.nextCue
  dsimp only
  split
  · exact linked_reportActivity next
  · exact next

/-- The lamps' setting changed in any way. -/
theorem linked_lampsSet (hs : s.linked) (v : State → LampUnit) :
    (s.lampEvent fun s => { s with lamps := v s }).linked :=
  linked_lampEvent (linked_lanes (s := s) rfl rfl hs)

theorem linked_questBlind : QuestBlind State.linked where
  lampEvent _ _ hf := linked_lampEvent hf
  notify _ b hs := linked_notify hs b
  wants _ hs := hs
  activity _ hs := linked_reportActivity hs
  quests _ _ hs := hs
  hints _ _ hs := hs
  credit _ _ _ hs := hs
  flash _ _ _ hs := linked_lampsSet hs _
  offer s c hs := by
    unfold State.offerCue
    split
    · exact linked_enqueueCue hs c
    · exact hs

theorem linked_tickClock (hs : s.linked) : s.tickClock.linked := by
  have duty : ∀ {u : State} (q : QuestId), u.linked → (u.dutiesOf q).linked := fun q hu => by
    unfold State.dutiesOf
    split
    · exact linked_questBlind.advance hu _ _ _ _
    · split
      · exact linked_questBlind.failQuest hu _ _
      · exact hu
  have duties : ∀ (l : List QuestId) {u : State}, u.linked → (l.foldl State.dutiesOf u).linked := by
    intro l
    induction l with
    | nil => exact id
    | cons q l ih => exact fun hu => ih (duty q hu)
  unfold State.tickClock
  split
  · exact duties _ (linked_lanes (s := s) rfl rfl hs)
  · exact hs

theorem linked_tickLamps (hs : s.linked) : s.tickLamps.linked := by
  have flashed : s.tickFlashes.linked := linked_lampsSet hs _
  have blinked : s.tickFlashes.tickBlink.linked := by
    unfold State.tickBlink
    split
    · exact linked_lampsSet flashed _
    · exact flashed
  unfold State.tickLamps State.tickCue
  split
  · exact blinked
  · split
    · exact linked_restIfDue (linked_nextCue blinked)
    · exact blinked

theorem linked_stopCues (hs : s.linked) : s.stopCues.linked := by
  unfold State.stopCues
  split
  · exact hs
  · exact linked_restIfDue (linked_lampsSet hs _)

theorem linked_newGame (hs : s.linked) : s.newGame.linked := by
  have lit : (State.lampEvent { s with quests := s.quests.renewed, play := s.play.renewed }
      fun s => { s with lamps := s.lamps.renewed }).linked :=
    linked_lampEvent (linked_lanes (s := s) rfl rfl hs)
  have rested := linked_restIfDue lit
  unfold State.newGame
  dsimp only
  generalize State.restIfDue _ = u at rested ⊢
  exact linked_same (s := u) rfl (fun _ => rfl) rested

/-! ### Events -/

/-- A read in flight is a RUNNING lane's, on a cell of that lane. -/
theorem readInFlight_running {n : Lane} {c : CellId} {k : SlotKind} (h : s.readInFlight n = some (c, k)) :
    c.lane = n ∧ (s.lane n).state = .running := by
  unfold State.readInFlight at h
  split at h
  case isFalse => cases h
  case isTrue running =>
    split at h <;> cases h
    · exact ⟨rfl, running⟩
    · exact ⟨rfl, running⟩

/-- A LAMP slot in flight is a RUNNING lane's. -/
theorem lampInFlight_running {n : Lane} {copy : Table 12 Drive} (h : s.lampInFlight n = some copy) :
    (s.lane n).state = .running := by
  unfold State.lampInFlight at h
  split at h
  case isTrue running => exact running
  case isFalse => cases h

/-- The events keep both laws. -/
theorem EventLeaves.linked {t : State} (h : EventLeaves s t) (hs : s.linked) : t.linked := by
  cases h with
  | startsUp => exact linked_same (by simp) (fun n => by simp [State.lane]) hs
  | settles =>
    refine linked_finish ?_
    have still : State.linked { s with lamps := { s.lamps with settle := none } } := linked_lanes rfl rfl hs
    unfold State.endSettle
    exact linked_guardTo still _
  | ticksClockFirst => exact linked_finish (linked_tickLamps (linked_tickClock (linked_lanes (s := s) rfl rfl hs)))
  | ticksLampsFirst => exact linked_finish (linked_tickClock (linked_tickLamps (linked_lanes (s := s) rfl rfl hs)))
  | completesHold q st => exact linked_finish (linked_questBlind.advance hs q st _ _)
  | expiresDeadline q => exact linked_finish (linked_questBlind.failQuest hs q _)
  | removesFlash q => exact linked_finish (linked_lampsSet hs _)
  | blinks => exact linked_finish (linked_lampsSet hs _)
  | endsCue => exact linked_finish (linked_restIfDue (linked_nextCue hs))
  | seesConnector n => exact linked_finish (linked_seeConnector (linked_setConnector hs true))
  | losesConnector n => exact linked_finish (linked_dropConnector (linked_setConnector hs false))
  | linksLane n linking => exact linked_finish (linked_linkLane hs linking)
  | expiresHold n held => exact linked_finish (linked_expireHold hs held)
  | completesPark n due => exact linked_finish (linked_completePark hs due)
  | endsPace n running =>
    have paced : (s.setLane n { s.lane n with pace := none }).linked :=
      linked_running hs running ⟨rfl, rfl, rfl, rfl, rfl, rfl⟩ id id .inl
    exact linked_finish (linked_beginWaiting paced n (by simpa using running))
  | sweeps n running => exact linked_finish (linked_beginSweep hs n running)
  | reads n c k marks flight =>
    obtain ⟨rfl, running⟩ := readInFlight_running flight
    exact linked_finish (linked_endRead hs running k _)
  | loadsLamps n copy flight =>
    exact linked_finish (linked_endSlot hs (lampInFlight_running flight) (.inr ⟨copy, rfl⟩))
  | endsCheck n r flight => exact linked_finish (linked_endCheckSlot hs flight r)
  | commitsPass => exact linked_finish (linked_questBlind.commitPass hs)
  | expiresActivity => exact linked_finish (linked_restIfDue (linked_lanes (s := s) rfl rfl hs))
  | rests => exact linked_finish (linked_restIfDue hs)

/-! ### Requests -/

/-- A request that is answered leaves the link as it was, or ignores what follows (R162, R166). -/
theorem RequestLeaves.link {t : State} (h : RequestLeaves s false t) :
    t.link = s.link ∨ t.link = { s.link with ignoring := true } := by
  cases h
  case restarts => exact .inr rfl
  all_goals exact .inl (by simp)

/-- With no request in hand a lane has no work pending. -/
theorem no_work (hs : s.linked) (hand : s.link.inHand = none) (n : Lane) :
    (s.lane n).checkPending = false ∧ (s.lane n).slot ≠ some .check ∧ (s.lane n).parkWaiting = false := by
  obtain ⟨checks, parks⟩ := hs.2.2.2 n
  rw [hand] at checks parks
  refine ⟨?_, ?_, ?_⟩
  · by_contra h
    cases checks (.inl (by simpa using h))
  · intro h
    cases checks (.inr h)
  · by_contra h
    cases parks (by simpa using h)

/-- A request put in hand with the lane whose work it is. -/
theorem linked_hand (hs : s.linked) (hand : s.link.inHand = none) (room : s.link.owed < replyRoom) {n : Lane} {u : LaneUnit}
    {x : InHand} (lawful : u.lawful) (work : u.handed n (some x)) :
    State.linked { s.setLane n u with link := { s.link with inHand := some x } } := by
  obtain ⟨lanes, -, assembling, -⟩ := id hs
  refine ⟨fun m => ?_, ?_, assembling, fun m => ?_⟩
  · show ((s.setLane n u).lane m).lawful
    rw [setLane_lane]
    split
    · exact lawful
    · exact lanes m
  · simp only [LinkUnit.owed, hand, replyRoom] at room ⊢
    simp at room ⊢
    omega
  · show LaneUnit.handed ((s.setLane n u).lane m) m (some x)
    rw [setLane_lane]
    split
    case isTrue e => exact e ▸ work
    case isFalse =>
      obtain ⟨check, slot, park⟩ := no_work hs hand m
      simp [LaneUnit.handed, check, slot, park]

/-- A placement written changes no lane but its stale mark (R5, R32). -/
theorem linked_replace (hs : s.linked) (n : Lane) (p : Option Placement) : (s.replace n p).linked := by
  have faced : (({ s with plan := Table.put s.plan n p } : State).refaceLane n).linked := linked_lanes (s := s) rfl rfl hs
  exact linked_lampEvent (s := s) (f := fun s => ({ s with plan := Table.put s.plan n p } : State).refaceLane n) faced

/-- The requests, taken with none in hand, keep both laws. -/
theorem RequestLeaves.linked {t : State} {b : Bool} (h : RequestLeaves s b t) (hs : s.linked) (hand : s.link.inHand = none)
    (room : s.link.owed < replyRoom) : t.linked := by
  have recorded : ∀ {u : State}, u.link = s.link → u.lanes = s.lanes → u.linked := fun hl hn => linked_lanes hl hn hs
  have written : ∀ q x, (s.setQuest q x).linked := fun _ _ => linked_lanes rfl rfl hs
  have wanted : ∀ q x, (s.setQuest q x).wantPass.linked := fun _ _ => linked_lanes rfl rfl hs
  cases h with
  | same => exact hs
  | restarts => exact hs
  | newGame => exact linked_finish (linked_newGame hs)
  | setsRest | fetches | setsModes | watches | clearsFault | senses | setsTurn | setsClock | setsScores | setsPattern |
    definesQuest | erasesQuest => exact recorded rfl rfl
  | endsTurn | runsClock => exact recorded (by simp) (by simp)
  | places n p => exact linked_finish (linked_replace hs n _)
  | unplaces n => exact linked_finish (linked_replace hs n _)
  | parkWaits n running =>
    obtain ⟨check, slot, park⟩ := no_work hs hand n
    have lawful := (lawful_running running).1 (hs.1 n)
    exact linked_hand hs hand room ((lawful_running (u := { s.lane n with parkWaiting := true }) running).2 lawful)
      (by simp [LaneUnit.handed, check, slot])
  | parks n =>
    obtain ⟨check, -, park⟩ := no_work hs hand n
    exact linked_finish (linked_park hs check park)
  | links n parked => exact linked_beginLink hs (.inr (.inr parked)) (by simp)
  | unparks n parked =>
    have idle := idle_of_lawful (hs.1 n) (by simp [parked])
    obtain ⟨back, settle, -, -, -, fairness⟩ := hs.1 n
    have lost : (s.setLane n { s.lane n with state := .lost, returnState := none, hold := none }).linked :=
      linked_setLane hs (lawful_still ⟨idle.slot, idle.confirms, idle.waiting, idle.pace, idle.sweepTimer,
        idle.checkPending, idle.parkWaiting, idle.latch⟩ (.inr (.inl rfl)) rfl (by simpa [parked] using settle) (by simp)
        fairness) (hs.2.2.2 n)
    exact linked_finish (linked_startHold lost (by simp))
  | checks n running =>
    obtain ⟨check, slot, park⟩ := no_work hs hand n
    have lawful := (lawful_running running).1 (hs.1 n)
    exact linked_finish (linked_hand hs hand room
      ((lawful_running (u := { s.lane n with checkPending := true }) running).2 lawful) (by simp [LaneUnit.handed, park]))
  | retires c => exact linked_finish (linked_tracker.retire hs c false)
  | reinstates c =>
    have fresh : ((s.lampEvent fun s => s.setCell c CellRec.reset).wantPass).linked :=
      linked_tracker.wants _ (linked_tracker.lamp s c (fun _ => CellRec.reset) hs)
    refine linked_finish ?_
    unfold State.reinstate
    dsimp only
    split
    case isTrue dead =>
      refine linked_beginWaiting fresh _ ?_
      obtain ⟨b, e⟩ := lampEvent_lane s (fun s => s.setCell c CellRec.reset) c.lane
      rw [wantPass_lane, e]
      exact dead.2.1
    case isFalse => exact fresh
  | enrolls | withdraws | setsPolicy => exact linked_finish (recorded (by simp) (by simp))
  | startsQuest q | resumesQuest q => exact linked_finish (linked_reportActivity (linked_questBlind.postHint (wanted q _) _ _))
  | pausesQuest q =>
    have unhinted := linked_questBlind.setHint (written q ((s.quest q).goes .paused ((s.quest q).pauseProgress s.play.clock)))
    exact linked_finish (linked_reportActivity (linked_questBlind.quests _ _ (unhinted q none)))
  | abandonsQuest q => exact linked_finish (linked_questBlind.failQuest hs q _)
  | setsProgress q => exact linked_reportActivity (written q _)
  | setsLamps cells v =>
    exact linked_finish (linked_lampEvent (f := fun s => s.setHost cells v) (linked_lanes (s := s) rfl rfl hs))
  | playsCue c => exact linked_finish (linked_enqueueCue hs c)
  | stopsCues => exact linked_finish (linked_stopCues hs)
  | setsLimit l =>
    have limited : State.linked { s with lamps := { s.lamps with limit := l } } := linked_lanes rfl rfl hs
    exact linked_finish (linked_guardTo limited _)

/-! ### Every step -/

/-- A reply queued where there is room for it. -/
theorem linked_pushReply (hs : s.linked) (r : Reply) (room : s.link.owed < replyRoom) : (s.pushReply r).linked := by
  obtain ⟨lanes, -, assembling, handed⟩ := hs
  refine ⟨lanes, ?_, assembling, handed⟩
  have more : (s.pushReply r).link.owed = s.link.owed + 1 := by
    simp only [LinkUnit.owed, State.pushReply, List.length_append, List.length_singleton]
    exact Nat.add_right_comm _ _ _
  exact more ▸ room

/-- A request taken keeps both laws: one that stays in hand has no reply yet. -/
theorem linked_take (hs : s.linked) (hand : s.link.inHand = none) (room : s.link.owed < replyRoom) (k : Byte) (i : Instr) :
    (s.take k (takeRequest i)).linked := by
  obtain ⟨b, leaves, unanswered⟩ := takeRequest_leaves s i
  have left := leaves.linked hs hand room
  unfold State.take
  split
  case h_2 e =>
    rw [e] at left
    exact left
  case h_1 t st data e =>
    rw [e] at left leaves unanswered
    obtain rfl : b = false := by
      cases b
      · rfl
      · cases unanswered rfl
    refine linked_pushReply left _ ?_
    rcases leaves.link with same | same <;> dsimp only at same <;> rwa [same]

theorem linked_reset (reason : StartReason) (pending : List Instr) : (State.afterReset reason pending).linked := by
  have lane : ∀ n, (State.afterReset reason pending).lane n = LaneUnit.reset := fun n => by
    simp [State.afterReset, State.lane]
  refine ⟨fun n => ?_, Nat.zero_le _, ⟨by simp [State.afterReset, LinkUnit.reset], trivial⟩, fun n => ?_⟩
  · rw [lane]
    exact lawful_still ⟨rfl, rfl, rfl, rfl, rfl, rfl, rfl, rfl⟩ (.inl rfl) rfl rfl (by simp [LaneUnit.reset]) (Nat.zero_le _)
  · rw [lane]
    simp [LaneUnit.reset]

/-- Lanes and link are kept by every step. -/
theorem linked_kept : Kept State.linked where
  reset := linked_reset
  queue _ _ hs := hs
  chip _ _ hs := hs
  sent s hs := by
    obtain ⟨lanes, owed, assembling, handed⟩ := hs
    refine ⟨lanes, ?_, assembling, handed⟩
    simp only [LinkUnit.owed, List.length_tail] at owed ⊢
    omega
  assembler s _ _ hs keeps := by
    obtain ⟨lanes, owed, assembling, handed⟩ := hs
    exact ⟨lanes, owed, keeps assembling, handed⟩
  heard s hs := by
    unfold State.frameReceived
    split
    · exact linked_finish (linked_wake hs _)
    · exact linked_reportActivity hs
  replied _ r hs room := linked_pushReply hs r room
  requested _ k i hs hand room := linked_take hs hand room k i
  event _ _ hs h := h.linked hs

end Sys2Proof.Machine

open Sys2Proof Sys2Proof.Machine

/-- Settles O60: each lane operation keeps its lane in agreement with its state, and puts a request in hand or answers it together with the lane's work. -/
theorem stepKeepsLanesAndLinkLawful : Obligations.StepKeepsLanesAndLinkLawful := fun _ _ => linked_kept.step

end

section
/-!
The queue and reset: a step runs the front command (assumptions 1 and 2), RESET_END gives every block its reset values (R168), and the laws hold there.
-/

namespace Sys2Proof.Machine

open Sys2Proof

/-- A lane right after reset. -/
theorem afterReset_lane (reason : StartReason) (pending : List Instr) (n : Lane) :
    (State.afterReset reason pending).lane n = LaneUnit.reset := by
  simp [State.afterReset, State.lane]

/-- A quest right after reset. -/
theorem afterReset_quest (reason : StartReason) (pending : List Instr) (q : QuestId) :
    (State.afterReset reason pending).quest q = Quest.blank := by
  simp [State.afterReset, State.quest]

/-- RESET_END on a part held in reset (R168). -/
theorem exec_resetEnd {s : State} {cause : StartReason} (held : s.chip = .held cause) :
    exec .resetEnd s = .next (State.afterReset cause s.pending) := by
  show Host.Outcome.next _ = _
  rw [held]

end Sys2Proof.Machine

open Sys2Proof Sys2Proof.Machine

/-- Settles O1: the two cases of the queue. -/
theorem stepRunsTheFrontCommand : Obligations.StepRunsTheFrontCommand := by
  intro c rest s
  constructor <;> intro queue <;> rw [step, queue]

/-- Settles O2: the reset values, read off block by block. -/
theorem resetEndRestoresEveryBlock : Obligations.ResetEndRestoresEveryBlock := by
  intro cause s held
  refine ⟨_, exec_resetEnd held, rfl, rfl, rfl, ?_, afterReset_lane cause _, fun c => afterReset_cell .., rfl, ?_, rfl, rfl, ?_,
    ?_, fun q => by rw [afterReset_quest]; rfl, rfl, rfl, ?_, ?_, rfl, rfl⟩
  · simp [State.afterReset]
  · exact ⟨rfl, rfl, rfl, fun n => by simp [State.afterReset, Sensing.reset]⟩
  · refine ⟨rfl, rfl, fun e => ?_⟩
    exact BitVec.getLsbD_allOnes.trans (decide_eq_true e.isLt)
  · simp [State.afterReset]
  · exact ⟨rfl, rfl, rfl, rfl, rfl, rfl, rfl, rfl, rfl, fun k => by simp [State.afterReset, PlayRecord.reset]⟩
  · refine ⟨fun c => ?_, fun q => ?_, fun q => ?_, rfl, rfl, rfl, rfl, rfl, rfl, rfl⟩
    all_goals simp [State.afterReset, LampUnit.reset, State.hostSetting]

/-- Settles O55: each law holds after any reset, as the step lemmas start from. -/
theorem lawsHoldAtReset : Obligations.LawsHoldAtReset := by
  obtain ⟨lanes, link⟩ := linked_reset .power []
  obtain ⟨play, lamps, notices⟩ := inRange_reset .power []
  exact ⟨exec_resetEnd rfl, planLawful_kept.reset .power [], cellsLawful_kept.reset .power [],
    serialsUnique_kept.reset .power [], rosterLawful_kept.reset .power [], questsLawful_reset .power [],
    passLawful_kept.reset .power [], play, lamps, notices, lanes, link, restLawful_played.kept.reset .power []⟩

end

section
/-!
Events not taken (R168, assumptions 4, 5, 8, 25, 37), and what the part's lines show (R157, R164, R168).
-/

namespace Sys2Proof.Machine

open Sys2Proof

variable {s : State}

/-- A command that is an event of a part out of reset. -/
theorem exec_live {i : Instr} (f : State → State) (hi : exec i s = .next (s.live f)) (running : s.chip = .running) :
    exec i s = .next (f s) := by
  rw [hi, live_running f running]

/-- An event that finds its condition false changes nothing. -/
theorem exec_undue {i : Instr} (f : State → State) (hi : exec i s = .next (s.live f)) (running : s.chip = .running)
    (undue : f s = s) : exec i s = .next s := by
  rw [exec_live f hi running, undue]

/-- A part held in reset, or without supply, takes no event but those of the supply and the reset. -/
theorem exec_held {i : Instr} (held : s.chip ≠ .running) (power : i ≠ .powerUp) (supply : i ≠ .supplyLoss)
    (reset : i ≠ .resetEnd) : exec i s = .next s := by
  have still : ∀ f : State → State, Host.Outcome.next (s.live f) = (.next s : Host.Outcome State Fault Refusal) := fun f => by
    rw [live_held f held]
  cases i
  case powerUp => exact absurd rfl power
  case supplyLoss => exact absurd rfl supply
  case resetEnd => exact absurd rfl reset
  all_goals exact still _

/-- Once RESTART has been taken a request is ignored (R166, assumption 25). -/
theorem exec_ignoring {i : Instr} {body : List Byte} (hb : encodeBody i = some body) (running : s.chip = .running)
    (ignoring : s.link.ignoring = true) : exec i s = .next s :=
  exec_undue _ (exec_request hb s) running (by simp [State.request, ignoring])

/-- RESTART_RESET is a whole reset once the queued replies have gone (R166). -/
theorem exec_restartReset (running : s.chip = .running) (ignoring : s.link.ignoring = true) (sent : s.link.replies = []) :
    exec .restartReset s = .next (State.afterReset .restart s.pending) := by
  rw [exec_live (i := .restartReset) _ rfl running, if_pos ⟨ignoring, sent⟩]

/-! ### Events that are not due -/

/-- A quest that is not RUNNING has no hold that is due. -/
theorem holdDue_idle {q : QuestId} (h : (s.quest q).state ≠ .running) : s.holdDue q = none := by
  cases due : s.holdDue q with
  | none => rfl
  | some st => exact absurd (holdDue_current due).1 h

/-- No read is in flight on a lane that is not RUNNING, nor a LAMP slot. -/
theorem inFlight_idle {n : Lane} (h : (s.lane n).state ≠ .running) : s.readInFlight n = none ∧ s.lampInFlight n = none := by
  simp [State.readInFlight, State.lampInFlight, h]

/-! ### The lines -/

/-- While the part is not running, TXD is high, no lane is powered, no segment lamp lit and SND silent (R168). -/
theorem unlit_held (h : s.chip ≠ .running) (n : Lane) :
    s.txdIdle = true ∧ s.txFrame = [] ∧ s.lanePowered n = false ∧ s.segmentLamps n = Table.full 12 .off ∧ s.sound = none :=
  ⟨txdIdle_held s h, by simp [State.txFrame, h], lanePowered_held s n h,
    segmentLamps_unpowered s n (lanePowered_held s n h), by simp [State.sound, h]⟩

/-- Right after reset the lines are as they were in reset. -/
theorem unlit_afterReset (reason : StartReason) (pending : List Instr) (n : Lane) :
    (State.afterReset reason pending).txdIdle = true ∧ (State.afterReset reason pending).txFrame = [] ∧
      (State.afterReset reason pending).lanePowered n = false ∧
      (State.afterReset reason pending).segmentLamps n = Table.full 12 .off ∧
      (State.afterReset reason pending).sound = none := by
  have dark : (State.afterReset reason pending).lanePowered n = false := by
    simp [State.lanePowered, afterReset_lane, LaneUnit.reset]
  exact ⟨rfl, rfl, dark, segmentLamps_unpowered _ n dark, rfl⟩

/-- While a reply waits TXD carries the frame of the first (R164). -/
theorem sending {r : Reply} {rest : List Reply} (running : s.chip = .running) (waits : s.link.replies = r :: rest) :
    s.txdIdle = false ∧ s.txFrame = frameBytes 0x5A (r.kind :: r.status.code :: r.data) := by
  refine ⟨by simp [State.txdIdle, running, waits], ?_⟩
  rw [txFrame_sending s r rest running waits]
  rfl

end Sys2Proof.Machine

open Sys2Proof Sys2Proof.Machine

/-- Settles O3, in its four parts: held in reset, after RESTART, not due, and the lines. -/
theorem eventsNotTaken : Obligations.EventsNotTaken := by
  refine ⟨fun i s => ⟨rfl, rfl, fun running => ?_, fun held => ?_, fun held power supply reset => ?_, fun none => ?_⟩,
    fun i b s => ⟨fun listening => ?_, fun running ignoring => ⟨?_, fun request => ?_, fun sent => ?_, fun waits => ?_⟩⟩,
    fun n q marks s running => ?_, fun cause n k r rest s => ⟨fun held => unlit_held held n, fun running => ?_, fun held => ?_⟩⟩
  · exact exec_live (i := .resetnAssert) _ rfl running
  · simp [State.attn, held]
  · exact exec_held held power supply reset
  · show Host.Outcome.next _ = _
    rw [none]
  · exact exec_answered takeRestart rfl listening (by simp [takeRestart, success])
  · exact exec_undue (i := .receiveByte b) _ rfl running (by simp [State.receive, ignoring])
  · obtain ⟨body, hb⟩ := Option.isSome_iff_exists.1 request
    exact exec_ignoring hb running ignoring
  · refine ⟨_, exec_restartReset running ignoring sent, exec_resetEnd rfl, rfl, rfl, rfl,
      fun n => ⟨by simp [State.afterReset], by rw [afterReset_lane]; rfl⟩,
      fun c => ⟨by rw [afterReset_cell]; rfl, by simp [State.afterReset, LampUnit.reset, State.hostSetting]⟩, rfl, rfl, rfl,
      fun p => by simp [State.afterReset], fun q => by rw [afterReset_quest]; rfl, rfl, rfl,
      fun k => by simp [State.afterReset, PlayRecord.reset], rfl, rfl, rfl, rfl, rfl⟩
  · exact exec_undue (i := .restartReset) _ rfl running (by simp [waits])
  · refine ⟨fun h => ?_, fun h => ?_, fun h => ?_, fun h => ⟨?_, ?_, ?_, ?_⟩, fun h => ?_, fun h => ?_, fun h => ?_, fun h => ⟨?_, ?_⟩,
      fun h => ?_, fun h => ?_, fun h => ?_, fun h => ?_, fun h => ?_, fun h => ?_⟩
    · exact exec_undue (i := .gapTimerExpiry) _ rfl running (by simp [h])
    · exact exec_undue (i := .linkSettleEnd n) _ rfl running (by simp [h])
    · exact exec_undue (i := .holdTimerExpiry n) _ rfl running (by simp [h])
    · exact exec_undue (i := .scanPaceExpiry n) _ rfl running (by simp [h])
    · exact exec_undue (i := .sweepTimer n) _ rfl running (by simp [h])
    · exact exec_undue (i := .lampSlotEnd n) _ rfl running (by simp [inFlight_idle h])
    · exact exec_undue (i := .parkComplete n) _ rfl running (by simp [LaneUnit.parkDue, h])
    · exact exec_undue (i := .readSlotEnd n marks) _ rfl running (by simp [h])
    · exact exec_undue (i := .checkSlotEnd n marks) _ rfl running (by simp [h])
    · exact exec_undue (i := .passCommit) _ rfl running (by simp [h])
    · exact exec_undue (i := .holdComplete q) _ rfl running (by simp [holdDue_idle h])
    · have undue : s.deadlineDue q ≠ true := fun due => h (deadlineDue_running due)
      exact exec_undue (i := .deadlineExpiry q) _ rfl running (by simp [undue])
    · exact exec_undue (i := .flashExpiry q) _ rfl running (by simp [State.flashDue, h])
    · exact exec_undue (i := .blinkPhaseChange) _ rfl running (by simp [h])
    · exact exec_undue (i := .cueEnd) _ rfl running (by simp [h])
    · exact exec_undue (i := .startUpEnd) _ rfl running (by simp [h])
    · exact exec_undue (i := .guardSettleEnd) _ rfl running (by simp [h])
    · exact exec_undue (i := .activityTimerExpiry) _ rfl running (by simp [ActivityTimer.runs, h])
  · refine ⟨⟨_, exec_live (i := .resetnAssert) _ rfl running, unlit_held (by simp) n⟩, ⟨_, rfl, unlit_held (by simp) n⟩,
      ⟨_, rfl, unlit_held (by simp) n⟩, fun sent => ?_, fun waits => ?_, ?_, rfl, fun silent => ?_, fun plays => ?_⟩
    · simp [State.txFrame, State.txdIdle, sent]
    · obtain ⟨busy, frame⟩ := sending running waits
      exact ⟨busy, frame, rfl⟩
    · simp [State.lanePowered, running]
    · simp [State.sound, silent]
    · simp [State.sound, running, plays]
  · exact ⟨_, exec_resetEnd held, unlit_afterReset cause s.pending n⟩

end

section
/-!
The Link Interface: the assembler's table (R159), and a complete frame judged by the tests in order (R160, R161).
-/

namespace Sys2Proof.Machine

open Sys2Proof

variable {s : State}

/-- A byte at the assembler of a part that runs and is not about to restart (R159). -/
theorem exec_receiveByte (running : s.chip = .running) (hears : s.link.ignoring = false) (b : RxByte) :
    exec (.receiveByte b) s = .next (s.assemble b) := by
  rw [exec_live (i := .receiveByte b) _ rfl running]
  simp [State.receive, hears]

/-- A byte that the assembler takes and leaves as it stands. -/
theorem exec_receiveByte_of (running : s.chip = .running) (hears : s.link.ignoring = false) {b : RxByte} {t : State}
    (h : s.assemble b = t) : exec (.receiveByte b) s = .next t := by
  rw [exec_receiveByte running hears, h]

/-- A start byte in HUNTING or LENGTH begins a frame. -/
theorem assemble_start (h : s.link.asm = .hunting ∨ s.link.asm = .length) : s.assemble (.good 0xA5) = s.beginFrame := by
  rcases h with h | h <;> simp [State.assemble, h, requestStart]

/-- A byte with a framing error discards the frame that is being gathered. -/
theorem assemble_corrupt (h : s.link.asm ≠ .hunting) : s.assemble .corrupt = s.hunt := by
  unfold State.assemble
  cases hs : s.link.asm <;> simp [hs] at h ⊢

/-! ### The assembler is the line's own -/

/-- No request touches the assembler or its timer. -/
theorem RequestLeaves.assembler {t : State} {b : Bool} (h : RequestLeaves s b t) :
    t.link.asm = s.link.asm ∧ t.link.gap = s.link.gap := by
  cases b
  case false => rcases h.link with e | e <;> rw [e] <;> exact ⟨rfl, rfl⟩
  case true => cases h <;> simp

/-- A request taken leaves the assembler and its timer. -/
theorem take_assembler (s : State) (k : Byte) (i : Instr) :
    (s.take k (takeRequest i)).link.asm = s.link.asm ∧ (s.take k (takeRequest i)).link.gap = s.link.gap := by
  obtain ⟨b, leaves, -⟩ := takeRequest_leaves s i
  unfold State.take
  split
  case h_1 e =>
    rw [e] at leaves
    exact leaves.assembler
  case h_2 e =>
    rw [e] at leaves
    exact leaves.assembler

/-- A complete frame leaves the assembler HUNTING, whatever it is judged to be. -/
theorem completeFrame_hunts (s : State) (len : Nat) (got : List Byte) (v : Byte) :
    (s.completeFrame len got v).link.asm = .hunting ∧ (s.completeFrame len got v).link.gap = none := by
  unfold State.completeFrame State.judge
  (repeat' split)
  all_goals try exact ⟨rfl, rfl⟩
  unfold blockOf
  split
  · exact take_assembler s.hunt _ _
  · exact ⟨rfl, rfl⟩
  · exact ⟨rfl, rfl⟩

/-! ### The tests in order (R160) -/

section Judge

variable {m : Bool} {k : Byte} {block : State → Taken}

/-- Test 1: no room for a reply, nothing formed. -/
theorem judge_full (full : replyRoom ≤ s.link.owed) : s.judge m k block = s := by simp [State.judge, full]

/-- Test 2: a frame whose check fails is answered BAD_FRAME. -/
theorem judge_mismatch (room : s.link.owed < replyRoom) : s.judge false k block = s.answer 0x80 .badFrame := by
  simp [State.judge, room]

/-- Test 3: a part that is STARTING answers HELLO alone. -/
theorem judge_starting (room : s.link.owed < replyRoom) (starting : s.rest.part = .starting) (other : k ≠ helloKind) :
    s.judge true k block = s.answer (replyKind k) .starting := by
  simp [State.judge, room, starting, other]

/-- Test 4: with a request in hand another is answered BUSY. -/
theorem judge_busy (room : s.link.owed < replyRoom) (up : s.rest.part = .starting → k = helloKind)
    (hand : s.link.inHand.isSome = true) : s.judge true k block = s.answer (replyKind k) .busy := by
  have passes : ¬(s.rest.part = .starting ∧ k ≠ helloKind) := fun h => h.2 (up h.1)
  unfold State.judge
  rw [if_neg (Nat.not_le.2 room), if_neg (by simp), if_neg passes, if_pos hand]

/-- Test 5: any other goes to the owning block. -/
theorem judge_takes (room : s.link.owed < replyRoom) (up : s.rest.part = .starting → k = helloKind)
    (hand : s.link.inHand = none) : s.judge true k block = s.take k block := by
  have passes : ¬(s.rest.part = .starting ∧ k ≠ helloKind) := fun h => h.2 (up h.1)
  unfold State.judge
  rw [if_neg (Nat.not_le.2 room), if_neg (by simp), if_neg passes, if_neg (by simp [hand])]

end Judge

/-- The kind byte of a body. -/
theorem byteAt_zero (got : List Byte) : byteAt got 0 = got.headD 0 := by cases got <;> rfl

/-- A part that is not READY takes no report of activity (R169). -/
theorem reportActivity_unready (h : s.rest.part ≠ .ready) : s.reportActivity = s := by
  simp [State.reportActivity, h]

/-- A full activity timer takes no report of activity. -/
theorem reportActivity_full (h : s.rest.activity = fullActivity s.rest.delay) : s.reportActivity = s := by
  unfold State.reportActivity
  split
  case isTrue live => rw [show ActivityTimer.running s.rest.delay = s.rest.activity by rw [h, fullActivity, if_neg live.2]]
  case isFalse => rfl

/-- A RESTING part that hears a frame is READY with its activity timer full (R170). -/
theorem frameReceived_resting (h : s.rest.part = .resting) :
    s.frameReceived.rest = { s.rest with part := .ready, activity := fullActivity s.rest.delay, autoPaused := false } := by
  rw [State.frameReceived, if_pos h, ← wake_rest (s := s) (WakeCause.frame) h]
  simp

/-- A frame heard twice is a frame heard once. -/
theorem frameReceived_idem (s : State) : s.frameReceived.frameReceived = s.frameReceived := by
  by_cases h : s.rest.part = .resting
  case pos =>
    have woken := frameReceived_resting h
    rw [frameReceived_awake (s := s.frameReceived) (by simp [woken])]
    exact reportActivity_full (by rw [woken])
  case neg =>
    have awake := frameReceived_awake h
    rw [awake, frameReceived_awake (by simpa using h)]
    by_cases live : s.rest.part = .ready ∧ s.rest.delay ≠ 0 <;> simp [State.reportActivity, live]

/-- The frame of kind 0x01 is HELLO's. -/
theorem kind_hello {i : Instr} {body : List Byte} (hb : encodeBody i = some body) (k : body.headD 0 = helloKind) : i = .hello := by
  cases i <;> simp only [encodeBody, Option.some.injEq, reduceCtorEq] at hb <;> subst hb <;>
    simp [helloKind] at k ⊢

/-- A request that arrives between frames is judged after its start byte was reported. -/
theorem exec_judged {i : Instr} {body : List Byte} (hb : encodeBody i = some body) (running : s.chip = .running)
    (hears : s.link.ignoring = false) (hunting : s.link.asm = .hunting) :
    exec i s = .next (s.frameReceived.judge true (body.headD 0) (takeRequest i)) := by
  rw [exec_live _ (exec_request hb s) running]
  simp [State.request, hears, hunting, kindOf, hb, byteAt_zero]

end Sys2Proof.Machine

open Sys2Proof Sys2Proof.Machine

/-- Settles O4: the rows of the assembler's table. -/
theorem assemblerFollowsItsTable : Obligations.AssemblerFollowsItsTable := by
  intro len got v s running put
  refine ⟨?_, fun gap => ?_, fun hears => ?_⟩
  · rw [exec_live (i := .replySent) _ rfl running, List.drop_one]
  · rw [exec_live (i := .gapTimerExpiry) _ rfl running, if_pos gap]
    rfl
  have taken : ∀ {b : RxByte} {t : State}, s.assemble b = t → exec (.receiveByte b) s = .next t :=
    exec_receiveByte_of running hears
  refine ⟨fun hunting other => taken ?_, fun hunting => taken ?_, fun busy => taken (assemble_corrupt busy),
    fun idle => ⟨fun awake => taken ?_, fun resting => ⟨_, taken (assemble_start idle), ?_, ?_⟩⟩,
    fun length low high => taken ?_, fun length other bad => taken ?_, fun body more => taken ?_, fun body last => taken ?_,
    fun check => ⟨_, taken ?_, completeFrame_hunts s len got v⟩⟩
  · simp only [State.assemble, hunting, requestStart, other, if_false]
  · simp [State.assemble, hunting]
  · rw [assemble_start idle]
    exact frameReceived_awake awake
  · rw [State.beginFrame, frameReceived_resting (s := s.setAsm .length (some gapTime)) resting]
  · unfold State.beginFrame
    simp [State.setAsm, gapTime]
  · have other : v ≠ 0xA5 := by
      rintro rfl
      exact absurd high (by decide)
    simp only [State.assemble, length, requestStart, other, low, high, and_self, if_true, if_false]
    rfl
  · have none : ¬(1 ≤ v.toNat ∧ v.toNat ≤ 64) := by
      rcases bad with rfl | long
      · simp
      · omega
    simp only [State.assemble, length, requestStart, other, none, if_false]
    rfl
  · have short : ¬len ≤ got.length + 1 := by omega
    simp only [State.assemble, body, short, if_false]
    rfl
  · have full : len ≤ got.length + 1 := by omega
    simp only [State.assemble, body, full, if_true]
    rfl
  · simp only [State.assemble, check]

/-- Settles O5: the tests of R160 one by one, on a frame's last byte and on a request command. -/
theorem framesJudgedInOrder : Obligations.FramesJudgedInOrder := by
  refine ⟨fun len got v s running hears check => ?_, fun i body s hb running hears hunting => ?_⟩
  · intro u waiting kind sum answers
    have judged : exec (.receiveByte (.good v)) s = .next (u.judge (decide (sum % 256 = 0)) kind (blockOf got)) := by
      refine exec_receiveByte_of running hears ?_
      simp only [State.assemble, check, State.completeFrame, byteAt_zero]
      rfl
    have matching (h : sum % 256 = 0) : exec (.receiveByte (.good v)) s = .next (u.judge true kind (blockOf got)) := by
      rw [judged, decide_eq_true h]
    refine ⟨fun full => ?_, fun room bad => ?_, fun room good starting other => ?_, fun room good up hand => ?_,
      fun room good up hand => ⟨fun unknown => ?_, fun bad => ?_, fun i known => ?_⟩⟩
    · exact judged.trans (congrArg _ (judge_full (s := u) full))
    · rw [judged, decide_eq_false bad]
      exact congrArg _ (judge_mismatch (s := u) room)
    · exact (matching good).trans (congrArg _ (judge_starting (s := u) room starting other))
    · exact (matching good).trans (congrArg _ (judge_busy (s := u) room up hand))
    · exact (matching good).trans (congrArg _ ((judge_takes (s := u) room up hand).trans (by rw [blockOf, unknown]; rfl)))
    · exact (matching good).trans (congrArg _ ((judge_takes (s := u) room up hand).trans (by rw [blockOf, bad]; rfl)))
    · exact (matching good).trans (congrArg _ ((judge_takes (s := u) room up hand).trans (by rw [blockOf, known])))
  · intro waiting
    have judged := exec_judged hb running hears hunting
    have link : s.frameReceived.link = s.link := by simp
    have owed : s.frameReceived.link.owed = waiting := by rw [link]; rfl
    refine ⟨fun full awake => ?_, fun room starting other => ?_, fun room ready hand => ?_, fun resting => ⟨?_, ?_⟩⟩
    · rw [judged, judge_full (owed ▸ full), frameReceived_awake awake]
    · rw [judged, frameReceived_awake (by simp [starting]), reportActivity_unready (by simp [starting]),
        judge_starting room starting (mt (kind_hello hb) other)]
      rfl
    · have awake := frameReceived_awake (s := s) (by simp [ready])
      rw [judged, judge_busy (owed ▸ room) (by simp [awake, ready]) (by rw [link, hand]), awake]
      rfl
    · rw [frameReceived_resting resting]
    · have woken : s.frameReceived.chip = .running := by simp [running]
      rw [judged, exec_judged hb woken (by rw [link, hears]) (by rw [link, hunting]), frameReceived_idem]

end

section
/-!
Requests as bytes: encoder and decoder are inverse (R161, R172), a request's frame taken byte by byte is its command (R158 to R160), and HELLO (R165).
-/

namespace Sys2Proof.Machine

open Sys2Proof

/-! ### Words of two, three and four bytes -/

theorem le16_bytes16 (w : BitVec 16) : le16 (w.extractLsb' 0 8) (w.extractLsb' 8 8) = w := by
  unfold le16
  ext j
  grind

theorem le24_bytes24 (w : BitVec 24) : le24 (w.extractLsb' 0 8) (w.extractLsb' 8 8) (w.extractLsb' 16 8) = w := by
  unfold le24
  ext j
  grind

theorem le32_bytes32 (w : BitVec 32) :
    le32 (w.extractLsb' 0 8) (w.extractLsb' 8 8) (w.extractLsb' 16 8) (w.extractLsb' 24 8) = w := by
  unfold le32
  ext j
  grind

theorem bytes16_le16 (x y : Byte) : bytes16 (le16 x y) = [x, y] := by
  simp only [bytes16, le16, List.cons.injEq, and_true]
  constructor
  all_goals
    ext j
    grind

theorem bytes24_le24 (x y z : Byte) : bytes24 (le24 x y z) = [x, y, z] := by
  simp only [bytes24, le24, List.cons.injEq, and_true]
  refine ⟨?_, ?_, ?_⟩
  all_goals
    ext j
    grind

theorem bytes32_le32 (x y z w : Byte) : bytes32 (le32 x y z w) = [x, y, z, w] := by
  simp only [bytes32, le32, List.cons.injEq, and_true]
  refine ⟨?_, ?_, ?_, ?_⟩
  all_goals
    ext j
    grind

/-! ### A body and its request -/

/-- Every body has the length listed for its kind, and a frame can carry it. -/
theorem encodedLength (i : Instr) : Laws.EncodedLength.Statement i := by
  cases i
  case definePattern => exact fun b h => Laws.EncodedLength.definePattern _ _ _ _ _ _ _ b h
  case defineQuest => exact fun b h => Laws.EncodedLength.defineQuest _ _ _ _ b h
  all_goals
    rintro b h
    cases h
  all_goals exact ⟨rfl, Nat.le_of_ble_eq_true rfl, Nat.le_of_ble_eq_true rfl⟩

/-- A stage record read from the bytes of one. -/
def reread (t : StageBytes) : StageBytes :=
  { t with d := le16 (t.d.extractLsb' 0 8) (t.d.extractLsb' 8 8)
           limit := le16 (t.limit.extractLsb' 0 8) (t.limit.extractLsb' 8 8) }

theorem reread_eq (t : StageBytes) : reread t = t := by rw [reread, le16_bytes16, le16_bytes16]

/-- The body of a request reads as that request (R172). -/
theorem requestOf_encode {i : Instr} {b : List Byte} (h : encodeBody i = some b) :
    requestOf (byteAt b 0).toNat b = some i := by
  cases i
  case definePattern p n r a ax ay ps =>
    cases h
    match ps with
    | ⟨⟨[p0, p1, p2, p3, p4, p5]⟩, _⟩ => rfl
  case defineQuest q o n ts =>
    cases h
    match ts with
    | ⟨⟨[t0, t1, t2, t3]⟩, _⟩ =>
      have read : some (Instr.defineQuest q o n #v[reread t0, reread t1, reread t2, reread t3]) =
          some (.defineQuest q o n #v[t0, t1, t2, t3]) := by simp only [reread_eq]
      exact read
  all_goals cases h
  case setRest d a => exact congrArg (fun d => some (Instr.setRest d a)) (le16_bytes16 d)
  case enroll x o b => exact congrArg (fun x => some (Instr.enroll x o b)) (le24_bytes24 x)
  case withdraw x => exact congrArg (fun x => some (Instr.withdraw x)) (le24_bytes24 x)
  case getTile x => exact congrArg (fun x => some (Instr.getTile x)) (le24_bytes24 x)
  case setRosterPolicy p e => exact congrArg (fun e => some (Instr.setRosterPolicy p e)) (le32_bytes32 e)
  case setClock v => exact congrArg (fun v => some (Instr.setClock v)) (le24_bytes24 v)
  case setProgress q t e => exact congrArg (fun e => some (Instr.setProgress q t e)) (le16_bytes16 e)
  case setScores a b c d t =>
    have read : some (Instr.setScores (le16 (a.extractLsb' 0 8) (a.extractLsb' 8 8))
        (le16 (b.extractLsb' 0 8) (b.extractLsb' 8 8)) (le16 (c.extractLsb' 0 8) (c.extractLsb' 8 8))
        (le16 (d.extractLsb' 0 8) (d.extractLsb' 8 8)) (le16 (t.extractLsb' 0 8) (t.extractLsb' 8 8))) =
        some (.setScores a b c d t) := by simp only [le16_bytes16]
    exact read
  all_goals rfl

/-- The bytes of a body from the `i`th on. -/
def spell (b : List Byte) : Nat → Nat → List Byte
  | _, 0 => []
  | i, n + 1 => byteAt b i :: spell b (i + 1) n

theorem spell_eq_drop (b : List Byte) : ∀ n i, i + n = b.length → spell b i n = b.drop i
  | 0, i, h => by rw [spell, List.drop_of_length_le (by omega)]
  | n + 1, i, h => by
    have within : i < b.length := by omega
    rw [spell, spell_eq_drop b n (i + 1) (by omega), List.drop_eq_getElem_cons within, byteAt,
      List.getD_eq_getElem _ _ within]

/-- A body of the length listed for its kind is that kind and its other bytes. -/
theorem spelled {b : List Byte} {k : Nat} (kind : (byteAt b 0).toNat = k) (len : requestLen k = some b.length) (some_byte : 1 ≤ b.length) :
    some (BitVec.ofNat 8 k :: spell b 1 ((requestLen k).getD 1 - 1)) = some b := by
  have first : BitVec.ofNat 8 k = byteAt b 0 := by rw [← kind, BitVec.ofNat_toNat, BitVec.setWidth_eq]
  have whole := spell_eq_drop b b.length 0 (by omega)
  rw [len, first]
  obtain ⟨n, hn⟩ : ∃ n, b.length = n + 1 := ⟨b.length - 1, by omega⟩
  rw [hn, spell] at whole
  simpa [hn] using whole

/-- The bytes of a stage record read from a body are those of the body. -/
theorem stageBytes_stageAt (b : List Byte) (i : Nat) : stageBytes (stageAt b i) = spell b i 15 := by
  simp only [stageBytes, stageAt, bytes16_le16]
  rfl

/-- A body that reads as a request is that request's (R172). -/
theorem encode_requestOf {i : Instr} {b : List Byte} {k : Nat} (h : requestOf k b = some i)
    (kind : (byteAt b 0).toNat = k) (len : requestLen k = some b.length) (some_byte : 1 ≤ b.length) :
    encodeBody i = some b := by
  have whole := spelled kind len some_byte
  unfold requestOf at h
  split at h
  all_goals cases h
  all_goals simp only [encodeBody, bytes16_le16, bytes24_le24, bytes32_le32]
  case h_39 =>
    have stages : [stageAt b 4, stageAt b 19, stageAt b 34, stageAt b 49].flatMap stageBytes =
        spell b 4 15 ++ (spell b 19 15 ++ (spell b 34 15 ++ (spell b 49 15 ++ []))) := by
      simp only [List.flatMap_cons, List.flatMap_nil, stageBytes_stageAt]
    exact (congrArg (fun l => some ([88, byteAt b 1, byteAt b 2, byteAt b 3] ++ l)) stages).trans whole
  all_goals exact whole

/-! ### A frame taken byte by byte -/

variable {s : State}

/-- Bytes that change nothing, taken one by one, change nothing. -/
theorem feed_still (still : ∀ b, exec (.receiveByte (.good b)) s = .next s) : ∀ l, feed l s = .next s
  | [] => rfl
  | b :: l => by rw [feed, still]; exact feed_still still l

/-- One byte taken, then the others. -/
theorem feed_cons {t : State} {b : Byte} (l : List Byte) (h : exec (.receiveByte (.good b)) s = .next t) :
    feed (b :: l) s = feed l t := by
  rw [feed, h]

/-- The bytes of a body are gathered one by one, and then the check byte is awaited (R159). -/
theorem feed_body {u : State} (running : u.chip = .running) (hears : u.link.ignoring = false) (tail : List Byte) :
    ∀ (rest got : List Byte) (v : Byte) (gap : Option Nat) (len : Nat), got.length + (rest.length + 1) = len →
      feed (v :: rest ++ tail) (u.setAsm (.body len got) gap) =
        feed tail (u.setAsm (.check len (got ++ v :: rest)) (some gapTime))
  | [], got, v, gap, len, h => by
    refine feed_cons tail (exec_receiveByte_of (s := u.setAsm (.body len got) gap) running hears ?_)
    have full : len ≤ got.length + 1 := by simpa using h.ge
    simp only [State.assemble, State.setAsm, full, if_true]
  | w :: rest, got, v, gap, len, h => by
    have more : ¬len ≤ got.length + 1 := by simp only [List.length_cons] at h; omega
    have gathered : exec (.receiveByte (.good v)) (u.setAsm (.body len got) gap) =
        .next (u.setAsm (.body len (got ++ [v])) (some gapTime)) := by
      refine exec_receiveByte_of (s := u.setAsm (.body len got) gap) running hears ?_
      simp only [State.assemble, State.setAsm, more, if_false]
    have others := feed_body running hears tail rest (got ++ [v]) w (some gapTime) len (by simp at h ⊢; omega)
    rw [List.append_assoc] at others
    exact (feed_cons _ gathered).trans others

/-- The frame of a body that a frame can carry, heard between frames by a part that runs, is judged whole (R159, R160). -/
theorem feed_frame {body : List Byte} (running : s.chip = .running) (hears : s.link.ignoring = false)
    (hunting : s.link.asm = .hunting) (quiet : s.link.gap = none) (low : 1 ≤ body.length) (high : body.length ≤ 64) :
    feed (frameBytes 0xA5 body) s = .next (s.frameReceived.judge true (body.headD 0) (blockOf body)) := by
  have link : s.frameReceived.link = s.link := by simp
  have running' : s.frameReceived.chip = .running := by simp [running]
  have hears' : s.frameReceived.link.ignoring = false := by rw [link, hears]
  have begun : exec (.receiveByte (.good 0xA5)) s = .next (s.frameReceived.setAsm .length (some gapTime)) := by
    refine exec_receiveByte_of running hears ?_
    rw [assemble_start (.inl hunting), State.beginFrame, frameReceived_setAsm]
  have size : (BitVec.ofNat 8 body.length).toNat = body.length := by simp; omega
  have sized : exec (.receiveByte (.good (BitVec.ofNat 8 body.length))) (s.frameReceived.setAsm .length (some gapTime)) =
      .next (s.frameReceived.setAsm (.body body.length []) (some gapTime)) := by
    refine exec_receiveByte_of (s := s.frameReceived.setAsm .length (some gapTime)) running' hears' ?_
    have other : BitVec.ofNat 8 body.length ≠ requestStart := fun e => by
      have := congrArg BitVec.toNat e
      rw [size] at this
      simp [requestStart] at this
      omega
    simp only [State.assemble, State.setAsm, other, size, low, high, and_self, if_true, if_false]
  have judged : exec (.receiveByte (.good (checkByte body))) (s.frameReceived.setAsm (.check body.length body) (some gapTime)) =
      .next (s.frameReceived.judge true (body.headD 0) (blockOf body)) := by
    refine exec_receiveByte_of (s := s.frameReceived.setAsm (.check body.length body) (some gapTime)) running' hears' ?_
    have back : (s.frameReceived.setAsm (.check body.length body) (some gapTime)).hunt = s.frameReceived := by
      have asm : s.frameReceived.link.asm = .hunting := by rw [link, hunting]
      have gap : s.frameReceived.link.gap = none := by rw [link, quiet]
      show s.frameReceived.setAsm .hunting none = _
      rw [← asm, ← gap]
      rfl
    show State.completeFrame _ _ _ _ = _
    rw [State.completeFrame, back, frameMatches_checkByte, byteAt_zero]
  obtain ⟨v, rest, rfl⟩ := List.exists_cons_of_length_pos low
  rw [frameBytes, List.append_assoc]
  refine (feed_cons _ begun).trans ((feed_cons _ sized).trans ?_)
  refine (feed_body running' hears' _ rest [] v _ _ (by simp)).trans ?_
  exact (feed_cons [] judged)

/-- HELLO heard is answered whatever the part state, by its block (R160 test 3, R165). -/
theorem exec_hello (h : s.hearing) :
    exec .hello s =
      .next
        (s.frameReceived.replied 0x01
          [0x96, 0x08, 0x12, s.rest.startReason.code, if s.rest.part = .starting then 0 else 1]) := by
  obtain ⟨running, hears, hunting, hand, room⟩ := h
  have link : s.frameReceived.link = s.link := by simp
  have part : s.frameReceived.rest.part = .starting ↔ s.rest.part = .starting := by
    by_cases resting : s.rest.part = .resting
    · simp [frameReceived_resting resting, resting]
    · simp [frameReceived_awake resting]
  have reason : s.frameReceived.rest.startReason = s.rest.startReason := by
    by_cases resting : s.rest.part = .resting
    · rw [frameReceived_resting resting]
    · simp [frameReceived_awake resting]
  have owed : s.frameReceived.link.owed < replyRoom := by simpa [link, LinkUnit.owed, hand] using room
  rw [exec_judged (i := .hello) rfl running hears hunting]
  refine congrArg _ ((judge_takes (k := helloKind) owed (fun _ => rfl) (by rw [link, hand])).trans ?_)
  refine take_answer (block := takeHello) ?_
  rw [takeHello, reason, if_congr part rfl rfl]
  rfl

end Sys2Proof.Machine

open Sys2Proof Sys2Proof.Machine

/-- Settles O7: each body reads as its request, and what is read is spelled back byte by byte. -/
theorem bodiesDecodeAndEncode : Obligations.BodiesDecodeAndEncode := by
  intro i body
  constructor
  · intro h
    obtain ⟨len, -, -⟩ := encodedLength i body h
    simp only [decodeBody, len, requestOf_encode h, if_true]
  · intro h
    unfold decodeBody at h
    split at h
    case h_1 => cases h
    case h_2 n len =>
      split at h
      case isFalse => cases h
      case isTrue size =>
        split at h
        case h_2 => cases h
        case h_1 j request =>
          cases h
          have some_byte : 1 ≤ body.length := by
            cases body with
            | nil => cases request
            | cons => simp
          exact encode_requestOf request rfl (size ▸ len) some_byte

/-- Settles O6: the frame's bytes are gathered and judged, with the body read as the request. -/
theorem frameBytesRunTheRequest : Obligations.FrameBytesRunTheRequest := by
  intro i body s hb hunting quiet
  by_cases running : s.chip = .running
  case neg =>
    have still : ∀ j, j ≠ .powerUp → j ≠ .supplyLoss → j ≠ .resetEnd → exec j s = .next s :=
      fun j => exec_held running
    rw [feed_still fun b => still _ nofun nofun nofun]
    refine (still i ?_ ?_ ?_).symm <;> rintro rfl <;> cases hb
  case pos =>
    cases hears : s.link.ignoring
    case true =>
      rw [exec_ignoring hb running hears]
      exact feed_still (fun b => exec_undue (i := .receiveByte (.good b)) _ rfl running (by simp [State.receive, hears])) _
    case false =>
      obtain ⟨-, low, high⟩ := encodedLength i body hb
      have reads : blockOf body = takeRequest i := by rw [blockOf, (bodiesDecodeAndEncode i body).1 hb]
      rw [feed_frame running hears hunting quiet low high, exec_judged hb running hears hunting, reads]

/-- Settles O8: HELLO passes the tests in each part state, and its length test. -/
theorem helloAnsweredInEveryPartState : Obligations.HelloAnsweredInEveryPartState := by
  intro got v s data
  refine ⟨fun hearing => ?_, fun running hears check kind long good room hand => ?_⟩
  · have taken := exec_hello hearing
    refine ⟨fun starting => ?_, fun ready => ?_, fun resting => ⟨_, ?_, ?_, rfl⟩⟩
    · rw [taken, frameReceived_awake (by simp [starting]), reportActivity_unready (by simp [starting]), if_pos starting]
      rfl
    · rw [taken, frameReceived_awake (by simp [ready]), if_neg (by simp [ready])]
      rfl
    · rw [taken, if_neg (by simp [resting])]
      rfl
    · rw [frameReceived_resting resting]
  · have bad : decodeBody got = .error .badLength := by
      have one : byteAt got 0 = 1 := by rw [byteAt_zero, kind]
      have other : got.length ≠ 1 := by omega
      simp [decodeBody, one, requestLen, other]
    have judged := (framesJudgedInOrder.1 got.length got v s running hears check).2.2.2.2
    rw [kind, hand] at judged
    exact (judged room good (fun _ => rfl) rfl).2.1 bad

end

section
/-!
Requests that read the state, or set one record whole: the plain queries, SET_TURN, sensing, the watch, the first-fault record and ERASE_PATTERN.
-/

namespace Sys2Proof.Machine

open Sys2Proof

variable {s : State}

/-- A report of activity changes the Rest Controller alone, and not the part state. -/
theorem reportActivity_heard (s : State) : ∃ r, s.reportActivity = { s with rest := r } ∧ r.part = s.rest.part := by
  unfold State.reportActivity
  split
  · exact ⟨_, rfl, rfl⟩
  · exact ⟨s.rest, rfl, rfl⟩

/-- A request refused as a bad value changes nothing. -/
theorem exec_badValue {i : Instr} {block : State → Taken} (hi : exec i s = .next (s.live fun s => s.request i block))
    (h : s.listening) (bad : block s.reportActivity = badValue s.reportActivity) :
    exec i s = .next (s.reportActivity.repliedWith (kindOf i) .badValue []) :=
  exec_answered block hi h bad

/-- A number sent as one byte is read back. -/
theorem byte_toNat {n : Nat} (h : n < 256) : (byte n).toNat = n := by simp [byte, Nat.mod_eq_of_lt h]

/-- A byte reads as a number below a bound exactly when it is that number. -/
theorem below_eq_some {n : Nat} {b : Byte} {i : Fin n} : below n b = some i ↔ b.toNat = i.val := by
  unfold below
  split
  case isTrue => rw [Option.some.injEq, Fin.ext_iff]
  case isFalse high => exact ⟨nofun, fun e => absurd (e ▸ i.isLt) high⟩

/-! ### Plain queries -/

/-- The classes that wait, as a byte. -/
theorem classMask_eq (u : NoticeUnit) :
    u.classMask =
      byte ((if u.queue.any fun n => decide (n.body.class = .fault) then 1 else 0) +
        (if u.queue.any fun n => decide (n.body.class = .quest) then 2 else 0) +
        (if u.queue.any fun n => decide (n.body.class = .play) then 4 else 0) +
        (if u.queue.any fun n => decide (n.body.class = .board) then 8 else 0)) := by
  simp [NoticeUnit.classMask, NoticeClass.code, Nat.add_assoc]

/-- A lane's entry in the plan, with the far corner of its footprint (R7). -/
theorem planEntry_some (p : Placement) :
    planEntry (some p) =
      [1, byte p.ox.val, byte p.oy.val, byte p.h.val, byte p.ox.val, byte p.oy.val,
        byte (p.ox.val + (if p.h.val % 2 = 0 then 2 else 3)), byte (p.oy.val + (if p.h.val % 2 = 0 then 3 else 2))] := by
  by_cases even : p.h.val % 2 = 0 <;> simp [planEntry, Placement.bounds, footprintWidth, footprintHeight, even]

/-! ### Sensing, watch and cells by number -/

/-- A value held within bounds, case by case. -/
theorem clamp_eq {lo hi : Nat} (h : lo ≤ hi) (v : Nat) : clamp lo hi v = if v < lo then lo else if hi < v then hi else v := by
  unfold clamp
  grind

/-- The bytes of a cell name it. -/
theorem cellOf_bytes (c : CellId) : cellOf (byte c.lane.val) (byte c.slot.val) = some c := by
  rw [cellOf, below_byte_of_le (by decide), below_byte_of_le (by decide)]

/-- No cell has a lane above 7 or a slot above 11. -/
theorem cellOf_none {a b : Byte} (h : 7 < a.toNat ∨ 11 < b.toNat) : cellOf a b = none := by
  unfold cellOf
  split
  case h_1 n i hn hi =>
    have lane := below_eq_some.1 hn
    have slot := below_eq_some.1 hi
    omega
  case h_2 => rfl

/-- The watch after a selection (R63). -/
theorem select_eq (w : Option CellId) :
    s.select w = { s with watch := if s.watch.cell = w then s.watch else { cell := w, trace := [], overrun := false } } := by
  unfold State.select
  split <;> rfl

/-- The cell watched after a selection. -/
theorem select_watched (w : Option CellId) : (s.select w).watch.cell = w := by
  rw [select_eq]
  dsimp only
  split
  case isTrue h => exact h
  case isFalse => rfl

/-! ### Patterns in use (R78) -/

/-- A quest in play names the pattern in a FORM or a HOLD stage. -/
def State.holdsInUse (s : State) (p : Fin 32) (k : QuestId) : Prop :=
  ((s.quest k).state = .running ∨ (s.quest k).state = .paused) ∧
    ∃ st ∈ (s.quest k).stages, (∃ m, st.test = .form p m) ∨ ∃ m d, st.test = .hold p m d

theorem holdsInUse_iff {p : Fin 32} {k : QuestId} : ((s.quest k).inPlay && (s.quest k).names p) = true ↔ s.holdsInUse p k := by
  rw [Bool.and_eq_true, names_iff, State.holdsInUse, Quest.inPlay, decide_eq_true_eq]

/-- The user of a pattern is the lowest quest in play that names it. -/
theorem usedBy_eq_some {p : Fin 32} {q : QuestId} :
    s.usedBy p = some q ↔ s.holdsInUse p q ∧ ∀ k, k < q → ¬s.holdsInUse p k := by
  rw [State.usedBy, ← Fin.find?_eq_find?_finRange, Fin.find?_eq_some_iff, holdsInUse_iff]
  simp only [← Bool.not_eq_true, holdsInUse_iff]

theorem usedBy_eq_none {p : Fin 32} : s.usedBy p = none ↔ ∀ k, ¬s.holdsInUse p k := by
  rw [State.usedBy, ← Fin.find?_eq_find?_finRange, Fin.find?_eq_none_iff]
  simp only [← Bool.not_eq_true, holdsInUse_iff]

/-- Who uses a pattern is not the Rest Controller's concern. -/
theorem usedBy_heard (s : State) (p : Fin 32) : s.reportActivity.usedBy p = s.usedBy p := by
  simp [State.usedBy]

/-- A pattern in use stays as it is (R78, R79). -/
theorem changePattern_used {p : Fin 32} {q : QuestId} (used : s.usedBy p = some q) (d : Option Pattern) :
    s.changePattern p d = refused s .inUse [byte q.val] := by
  rw [State.changePattern, used]

/-- A pattern that no quest in play names is replaced (R78, R79). -/
theorem changePattern_free {p : Fin 32} (free : s.usedBy p = none) (d : Option Pattern) :
    s.changePattern p d = success (s.setPattern p d) [flag (Table.read s.patterns p).isSome] := by
  rw [State.changePattern, free]

/-! ### The turn record (R94) -/

/-- What SET_TURN refuses. -/
theorem turnSetting_none {mode np current perTurn : Byte}
    (bad : 1 < mode.toNat ∨ np = 0 ∨ 4 < np.toNat ∨ 9 < perTurn.toNat ∨ (mode = 1 ∧ (current = 0 ∨ np.toNat < current.toNat))) :
    turnSetting mode np current perTurn = none := by
  unfold turnSetting
  split
  case h_2 => rfl
  case h_1 m k hm hk =>
    have mode_val := below_eq_some.1 hm
    have np_val := below_eq_some.1 hk
    split
    case isTrue => rfl
    case isFalse ok =>
      have turns : mode = 1 ∧ (current = 0 ∨ np.toNat < current.toNat) := by
        rcases bad with high | rfl | high | high | turns
        · omega
        · exact absurd (.inl (Fin.ext np_val.symm)) ok
        · omega
        · exact absurd (.inr high) ok
        · exact turns
      obtain ⟨rfl, wrong⟩ := turns
      rw [if_neg (show m ≠ 0 from fun e => by simp [e] at mode_val)]
      split
      case h_2 => rfl
      case h_1 c hc =>
        have current_val := below_eq_some.1 hc
        refine if_pos ?_
        rcases wrong with rfl | high
        · exact .inl (Fin.ext current_val.symm)
        · exact .inr (by rw [Fin.lt_def]; omega)

/-- A setting for FREE mode. -/
theorem turnSetting_free {k : Player} (some_player : k ≠ 0) (current : Byte) (m : Fin 10) :
    turnSetting 0 (byte k.val) current (byte m.val) = some (false, k, 0) := by
  have few : ¬9 < (byte m.val).toNat := by rw [byte_toNat (by omega)]; omega
  rw [turnSetting, show below 2 0 = some 0 from rfl, below_byte_of_le (by decide)]
  simp [some_player, few]

/-- A setting for TURNS mode. -/
theorem turnSetting_turns {k c : Player} (some_player : k ≠ 0) (some_current : c ≠ 0) (plays : c ≤ k) (m : Fin 10) :
    turnSetting 1 (byte k.val) (byte c.val) (byte m.val) = some (true, k, c) := by
  have few : ¬9 < (byte m.val).toNat := by rw [byte_toNat (by omega)]; omega
  rw [turnSetting, show below 2 1 = some 1 from rfl, below_byte_of_le (by decide), below_byte_of_le (by decide)]
  simp [some_player, some_current, few, plays]

/-- A turn setting in range is stored whole (R94). -/
theorem exec_setTurn {mode np current : Byte} {m : Fin 10} {turns : Bool} {k c : Player} (h : s.listening)
    (setting : turnSetting mode np current (byte m.val) = some (turns, k, c)) :
    let put : PlayRecord :=
      { s.play with turns := turns, np := k, current := c, turnNumber := 1, moves := 0, movesPerTurn := m.val }
    exec (.setTurn mode np current (byte m.val)) s =
      .next ({ s.reportActivity with play := put }.replied 0x41 (s.play.turnBytes ++ put.turnBytes)) := by
  have size : (byte m.val).toNat = m.val := byte_toNat (by omega)
  refine exec_answered (takeSetTurn mode np current (byte m.val)) rfl h ?_
  simp only [takeSetTurn, setting, size, reportActivity_play]
  rfl

end Sys2Proof.Machine

open Sys2Proof Sys2Proof.Machine

/-- Settles O11: each query's block, on the state after the frame's activity was reported. -/
theorem plainQueriesAnswerAndChangeNothing : Obligations.PlainQueriesAnswerAndChangeNothing := by
  intro s listening shown entry
  obtain ⟨r, heard, part⟩ := reportActivity_heard s
  have ready : r.part = .ready := part.trans listening.2
  have entries : ∀ n, planEntry (Table.read s.plan n) = entry n := fun n => by
    show _ = match Table.read s.plan n with | none => _ | some p => _
    cases Table.read s.plan n with
    | none => rfl
    | some p => exact planEntry_some p
  refine ⟨exec_answered takeStatus rfl listening ?_, exec_answered takeGetPlan rfl listening ?_,
    exec_answered takeGetBoard rfl listening ?_, exec_answered takeGetFirstFault rfl listening ?_,
    exec_answered takeGetTurn rfl listening ?_, exec_answered takeGetScores rfl listening ?_⟩
  all_goals rw [heard]
  · rw [takeStatus, classMask_eq]
    simp only [ready]
    rfl
  · rw [takeGetPlan]
    simp only [entries]
    rfl
  all_goals rfl

/-- Settles O37: the user of a pattern is looked for, and the record is emptied where there is none. -/
theorem erasePatternEmptiesTheRecord : Obligations.ErasePatternEmptiesTheRecord := by
  intro a p q s listening holds
  refine ⟨fun high => ?_, fun held first => ?_, fun free => ?_⟩
  · exact exec_badValue rfl listening (by rw [takeErasePattern, below_eq_none (by omega)])
  · have used : s.reportActivity.usedBy p = some q := by rw [usedBy_heard]; exact usedBy_eq_some.2 ⟨held, first⟩
    refine exec_answered (takeErasePattern _) rfl listening ?_
    rw [takeErasePattern, below_byte_of_le (by decide)]
    exact changePattern_used used none
  · have unused : s.reportActivity.usedBy p = none := by rw [usedBy_heard]; exact usedBy_eq_none.2 free
    refine exec_answered (takeErasePattern _) rfl listening ?_
    rw [takeErasePattern, below_byte_of_le (by decide)]
    refine (changePattern_free unused none).trans ?_
    simp only [State.setPattern, reportActivity_frame]
    rfl

/-- Settles O13: the setting out of range, for FREE mode and for TURNS mode. -/
theorem setTurnSetsTheTurnRecord : Obligations.SetTurnSetsTheTurnRecord := by
  intro mode np current perTurn k c m s listening put shown
  refine ⟨fun bad => ?_, fun some_player => ?_, fun some_player some_current plays => ?_⟩
  · exact exec_badValue rfl listening (by rw [takeSetTurn, turnSetting_none bad])
  · exact exec_setTurn listening (turnSetting_free some_player current m)
  · exact exec_setTurn listening (turnSetting_turns some_player some_current plays m)

/-- Settles O34: the clamps, the two selections, the entries taken and the record cleared. -/
theorem sensingWatchAndFirstFault : Obligations.SensingWatchAndFirstFault := by
  refine ⟨fun arriveN liftN hold floor target s listening => ⟨fun high => ?_, fun low => ?_⟩,
    fun a b c s listening => ?_⟩
  · exact exec_badValue rfl listening (by rw [takeSetSensing, if_pos high])
  · refine ⟨{ s.reportActivity with
        sensing :=
          { arriveN := clamp 1 8 arriveN.toNat, liftN := clamp 1 15 liftN.toNat, hold := hold.toNat
            floors := Table.each s.sensing.floors fun n old =>
              if target.toNat = 8 ∨ target.toNat = n.val then clamp 8 96 floor.toNat else old } },
      exec_answered (takeSetSensing arriveN liftN hold floor target) rfl listening ?_, rfl, ?_⟩
    · rw [takeSetSensing, if_neg (by omega)]
      simp only [success, Sensing.bytes, reportActivity_frame, byte, BitVec.ofNat_toNat, BitVec.setWidth_eq]
    · refine ⟨clamp_eq (by decide) _, clamp_eq (by decide) _, rfl, fun n => ?_⟩
      simp only [Table.read_each, clamp_eq (show 8 ≤ 96 by decide)]
  · intro fresh
    obtain ⟨r, heard, -⟩ := reportActivity_heard s
    refine ⟨fun high other => ?_, fun low high => ?_, exec_answered (takeWatchCell 0xFF b) rfl listening ?_,
      exec_answered (takeWatchCell _ _) rfl listening ?_, exec_answered takeGetWatch rfl listening ?_,
      exec_answered takeClearFirstFault rfl listening ?_⟩
    · exact exec_badValue rfl listening (by rw [takeWatchCell, if_neg other, cellOf_none (.inl high)])
    · have other : a ≠ 0xFF := by
        rintro rfl
        exact absurd low (by decide)
      exact exec_badValue rfl listening (by rw [takeWatchCell, if_neg other, cellOf_none (.inr high)])
    all_goals rw [heard]
    · rw [takeWatchCell, if_pos rfl, State.watchedBytes, select_watched, select_eq]
      rfl
    · have other : byte c.lane.val ≠ 0xFF := fun e => by
        have size := congrArg BitVec.toNat e
        rw [byte_toNat (by omega)] at size
        simp at size
        omega
      rw [takeWatchCell, if_neg other, cellOf_bytes]
      dsimp only
      rw [State.watchedBytes, select_watched, select_eq]
      rfl
    · rw [takeGetWatch]
      simp only [success, List.length_take, List.length_drop]
      rfl
    · rfl

end

section
/-!
The queries with operands: GET_CELL, GET_TILE, GET_PATTERN, COUNT_PATTERN, GET_QUEST and GET_LAMPS answer and change nothing (R59, R71, R80, R89, R117, R142).
-/

namespace Sys2Proof.Machine

open Sys2Proof

variable {s : State}

/-- A request whose block answers and changes nothing, seen on the state with any Rest Controller of a READY part. -/
theorem exec_query {i : Instr} (block : State → Taken) {st : Status} {data : List Byte}
    (hi : exec i s = .next (s.live fun s => s.request i block)) (h : s.listening)
    (hb : ∀ r : RestController, r.part = s.rest.part → block { s with rest := r } = answered { s with rest := r } st data) :
    exec i s = .next (s.reportActivity.repliedWith (kindOf i) st data) := by
  obtain ⟨r, heard, part⟩ := reportActivity_heard s
  refine exec_answered block hi h ?_
  rw [heard]
  exact hb r part

/-! ### Cells and tiles -/

/-- The bytes of a tile with no flags (section 12.7). -/
theorem word_plain (t : TileRead) (facing : Nat) :
    t.word facing 0 =
      four (t.serial.toNat + t.kind.val * 2 ^ 20 + (match t.side with | .a => 0 | .b => 1) * 2 ^ 26 + facing * 2 ^ 27) := by
  cases h : t.side <;> simp [TileRead.word, tileWord, h, Side.bit]

/-- A cell's position byte. -/
theorem posByte_eq (c : CellId) :
    (s.cellAt c).posByte = match s.position c with | some g => byte (g.x.val + 16 * g.y.val) | none => 0 := by
  unfold CellAt.posByte State.cellAt
  cases s.position c <;> rfl

/-- GET_CELL's data are 29 bytes (section 12.7). -/
theorem cellData_length (s : State) (c : CellId) : (s.cellData c).length = 29 := by
  have words : ∀ n, (four n).length = 4 := fun _ => rfl
  have clocks : ∀ n, (three n).length = 3 := fun _ => rfl
  unfold State.cellData incumbentBytes candidateBytes TileRead.word tileWord
  dsimp only
  cases (s.cell c).incumbent <;> cases (s.cell c).candidate <;> simp [words, clocks]

/-- The first cell of a list whose incumbent has a serial, with the incumbent. -/
theorem findSome_holder (x : Serial) (l : List CellId) :
    (l.findSome? fun c =>
      match (s.cell c).incumbent with
      | some t => if t.tile.serial = x then some (c, t) else none
      | none => none) =
    (l.find? fun c => (s.cell c).holds x).bind fun c => (s.cell c).incumbent.map fun t => (c, t) := by
  induction l with
  | nil => rfl
  | cons c l ih =>
    rw [List.findSome?_cons, List.find?_cons, ih]
    cases seated : (s.cell c).incumbent with
    | none => simp [CellRec.holds, seated]
    | some t => by_cases same : t.tile.serial = x <;> simp [CellRec.holds, seated, same]

/-- What GET_TILE says of the cell that holds a serial, and of its incumbent (R71). -/
theorem holderBytes_eq (s : State) (x : Serial) :
    s.holderBytes x =
      match allCells.findSome? fun c =>
        match (s.cell c).incumbent with
        | some t => if t.tile.serial = x then some (c, t) else none
        | none => none with
      | some (c, t) => [1, (s.cellAt c).cellByte, (s.cell c).state.code, flag t.counting, byte t.owner.val]
      | none => [0, 0, 0, 0, 0] := by
  rw [findSome_holder]
  unfold State.holderBytes State.holder
  cases allCells.find? fun c => (s.cell c).holds x with
  | none => rfl
  | some c =>
    dsimp only
    rw [Option.bind_some]
    cases (s.cell c).incumbent <;> rfl

/-- The live cell of a position is its covering cell, where that is not RETIRED (R10). -/
theorem liveCell_eq (s : State) (b : Pos) :
    s.liveCell b = (s.covering b).bind fun c => if (s.cell c).state = .retired then none else some c := by
  unfold State.liveCell
  cases s.covering b <;> rfl

/-- The serials that identify a tile (R66). -/
theorem serialOf_eq (x : BitVec 24) :
    serialOf x = if 1 ≤ x.toNat ∧ x.toNat ≤ 1048574 then some (BitVec.ofNat 20 x.toNat) else none := rfl

/-- A number that identifies no tile. -/
theorem serialOf_none {x : BitVec 24} (bad : x = 0 ∨ 1048575 ≤ x.toNat) : serialOf x = none := by
  refine if_neg ?_
  rcases bad with rfl | high
  · simp
  · omega

/-! ### Patterns -/

/-- The pattern a stage names, if it is `p`. -/
theorem names_eq (r : Quest) (p : Fin 32) :
    (r.stages.any fun st =>
      match st.test with
      | .form d _ => decide (d = p)
      | .hold d _ _ => decide (d = p)
      | _ => false) = r.names p := by
  unfold Quest.names
  congr 1
  funext st
  cases h : st.test <;> simp [StageTest.pattern?]

/-- An optional byte is a presence byte and the byte. -/
theorem optByte_map {α : Type} (v : Option α) (f : α → Byte) :
    optByte (v.map f) = match v with | some a => [1, f a] | none => [0, 0] := by cases v <;> rfl

/-- What COUNT_PATTERN refuses as a bad value. -/
theorem filterOf_none {form player : Byte} (bad : 2 < form.toNat ∨ (form ≠ 0 ∧ 4 < player.toNat)) : filterOf form player = none := by
  unfold filterOf
  split
  case h_1 zero =>
    have form_zero : form = 0 := BitVec.eq_of_toNat_eq zero
    rcases bad with high | ⟨other, -⟩
    · omega
    · exact absurd form_zero other
  case h_2 =>
    rw [below_eq_none (by omega)]
    rfl
  case h_3 =>
    rw [below_eq_none (by omega)]
    rfl
  case h_4 => rfl

/-- COUNT_PATTERN on an EMPTY record (R90). -/
theorem exec_countPattern_empty {form player : Byte} {p : Fin 32} {f : OwnerFilter} (h : s.listening)
    (filter : filterOf form player = some f) (empty : Table.read s.patterns p = none) :
    exec (.countPattern (byte p.val) form player) s = .next (s.reportActivity.repliedWith 0x53 .refused [6, byte p.val]) := by
  refine exec_query (takeCountPattern (byte p.val) form player) rfl h fun r part => ?_
  rw [takeCountPattern, below_byte_of_le (by decide), filter]
  dsimp only
  rw [empty]
  rfl

/-- COUNT_PATTERN on a DEFINED record: the anchors on the live view (R89). -/
theorem exec_countPattern_defined {form player : Byte} {p : Fin 32} {f : OwnerFilter} {d : Pattern} (h : s.listening)
    (filter : filterOf form player = some f) (defined : Table.read s.patterns p = some d) :
    exec (.countPattern (byte p.val) form player) s =
      .next
        (s.reportActivity.repliedWith 0x53 .success
          ([byte (d.anchors s.view f).length, byte (min 4 (d.anchors s.view f).length)] ++
            ((d.anchors s.view f).take 4).flatMap anchorBytes ++ bytes16 s.epoch)) := by
  refine exec_query (takeCountPattern (byte p.val) form player) rfl h fun r part => ?_
  rw [takeCountPattern, below_byte_of_le (by decide), filter]
  dsimp only
  rw [defined]
  rfl

/-! ### Lamps -/

section Heard

variable {r : RestController} (part : r.part = s.rest.part)
include part

/-- The Rest Controller counts at the lamps by the part state alone (R135). -/
theorem effective_heard (c : CellId) : State.effective { s with rest := r } c = s.effective c := by
  unfold State.effective
  dsimp only
  rw [part]
  rfl

theorem drive_heard (c : CellId) : State.drive { s with rest := r } c = s.drive c := by
  unfold State.drive
  rw [effective_heard part]

theorem loadSum_heard (top : Nat) : State.loadSum { s with rest := r } top = s.loadSum top := by
  unfold State.loadSum
  simp only [effective_heard part]
  rfl

end Heard

/-- The quest layer's bytes in GET_LAMPS (R142): a flash counts as setting 3, a hint as 4. -/
theorem layerBytes (c : CellId) :
    (match s.questLayer c with
      | some (bright, q) => [1, if bright then LampSetting.bright.code else LampSetting.blinkDim.code, byte q.val]
      | none => ([0, 0, 0] : List Byte)) =
    match (if (s.cell c).state = .retired then none else s.position c) with
    | none => [0, 0, 0]
    | some g =>
      match s.lamps.flashAt g with
      | some q => [1, 3, byte q.val]
      | none => match s.lamps.hintAt g with
        | some q => [1, 4, byte q.val]
        | none => [0, 0, 0] := by
  unfold State.questLayer
  by_cases dead : (s.cell c).state = .retired
  · simp [dead]
  · cases hp : s.position c with
    | none => simp [dead]
    | some g =>
      cases hf : s.lamps.flashAt g with
      | some q => simp [dead, hf, LampSetting.code]
      | none => cases hh : s.lamps.hintAt g <;> simp [dead, hf, hh, LampSetting.code]

end Sys2Proof.Machine

open Sys2Proof Sys2Proof.Machine

/-- Settles O12: each query's block, with its operand checked. -/
theorem operandQueriesAnswerAndChangeNothing : Obligations.OperandQueriesAnswerAndChangeNothing := by
  refine ⟨fun a b c x n i p k q s listening => ?_, fun a form player p o s listening => ?_⟩
  · intro answers cellByte word shown serial seat twins names user r left held layer
    have data : ∀ d, s.cellData d = shown d := fun d => by
      unfold State.cellData
      dsimp only
      rw [posByte_eq]
      unfold incumbentBytes candidateBytes
      simp only [word_plain]
      rfl
    refine ⟨⟨?_, ?_⟩, fun d covers live => ?_, fun dead => ?_, fun bad => ?_, fun bad => ?_, fun low high => ?_, fun high => ?_, ?_,
      fun high => ?_, fun empty => ?_, fun known => ?_, fun high => ?_, ?_⟩
    · refine exec_query (takeGetCell 0 (byte n.val) (byte i.val)) rfl listening fun r part => ?_
      rw [← data, takeGetCell, if_pos rfl, cellOf_bytes ⟨n, i⟩]
      rfl
    · rw [← data, cellData_length]
    · refine exec_query (takeGetCell 1 (byte p.x.val) (byte p.y.val)) rfl listening fun r part => ?_
      have here : State.liveCell { s with rest := r } p = some d := by
        exact (liveCell_eq s p).trans (by simp only [covers, live, if_false, Option.bind_some])
      rw [← data, takeGetCell, if_neg (by decide), if_pos rfl, below_byte_of_le (by decide), below_byte_of_le (by decide)]
      dsimp only
      rw [here]
      rfl
    · refine exec_query (takeGetCell 1 (byte p.x.val) (byte p.y.val)) rfl listening fun r part => ?_
      have nowhere : State.liveCell { s with rest := r } p = none := by
        refine (liveCell_eq s p).trans ?_
        cases covers : s.covering p with
        | none => rfl
        | some c => simp only [dead c covers, if_true, Option.bind_some]
      rw [takeGetCell, if_neg (by decide), if_pos rfl, below_byte_of_le (by decide), below_byte_of_le (by decide)]
      dsimp only
      rw [nowhere]
    · refine exec_badValue (block := takeGetCell a b c) rfl listening ?_
      unfold takeGetCell
      rcases bad with high | ⟨rfl, high⟩ | ⟨rfl, high⟩
      · have other : a ≠ 0 ∧ a ≠ 1 := by constructor <;> rintro rfl <;> simp at high
        rw [if_neg other.1, if_neg other.2]
      · rw [if_pos rfl, cellOf_none high]
      · rw [if_neg (by decide), if_pos rfl]
        rcases high with high | high
        · rw [below_eq_none (by omega)]
        · cases below 16 b <;> rw [below_eq_none (n := 16) (by omega)]
    · exact exec_badValue (block := takeGetTile x) rfl listening (by rw [takeGetTile, serialOf_none bad])
    · refine exec_query (takeGetTile x) rfl listening fun r part => ?_
      have seated := holderBytes_eq s serial
      rw [takeGetTile, serialOf_eq, if_pos ⟨low, high⟩]
      dsimp only
      rw [show State.holderBytes { s with rest := r } (BitVec.ofNat 20 x.toNat) = _ from seated]
      simp only [success, answered, List.append_assoc]
      rfl
    · exact exec_badValue (block := takeGetPattern a) rfl listening (by rw [takeGetPattern, below_eq_none (by omega)])
    · refine exec_query (takeGetPattern (byte k.val)) rfl listening fun r part => ?_
      have named : ∀ q, names q = (s.quest q).names k := fun q => names_eq (s.quest q) k
      have used : user = s.usedBy k := by
        show (List.finRange 24).find? _ = (List.finRange 24).find? _
        simp only [named]
        rfl
      rw [takeGetPattern, below_byte_of_le (by decide)]
      dsimp only
      rw [optByte_map]
      rw [show State.namedBy { s with rest := r } k = s.namedBy k from rfl,
        show State.usedBy { s with rest := r } k = s.usedBy k from rfl, State.namedBy]
      simp only [named, used, success, answered, List.append_assoc]
      cases s.usedBy k <;> rfl
    · exact exec_badValue (block := takeGetQuest a) rfl listening (by rw [takeGetQuest, below_eq_none (by omega)])
    · refine exec_query (takeGetQuest (byte q.val)) rfl listening fun r part => ?_
      rw [takeGetQuest, below_byte_of_le (by decide)]
      dsimp only
      rw [show (State.quest { s with rest := r } q).state = .empty from empty, if_pos rfl]
      rfl
    · refine exec_query (takeGetQuest (byte q.val)) rfl listening fun r part => ?_
      rw [takeGetQuest, below_byte_of_le (by decide)]
      dsimp only
      rw [if_neg (show (State.quest { s with rest := r } q).state ≠ .empty from known),
        show State.ticksHeld { s with rest := r } q = held from rfl,
        show State.ticksLeft { s with rest := r } q = left from rfl, State.inSet]
      cases s.quests.pass <;> rfl
    · exact exec_badValue (block := takeGetLamps a) rfl listening (by rw [takeGetLamps, below_eq_none (by omega)])
    · refine exec_query (takeGetLamps (byte n.val)) rfl listening fun r part => ?_
      have entries : State.lampEntry { s with rest := r } = fun c =>
          (s.hostSetting c).code :: (layer c ++ [(s.effective c).code, (s.drive c).code]) := by
        funext c
        rw [State.lampEntry, effective_heard part, drive_heard part]
        exact congrArg (fun l => (s.hostSetting c).code :: (l ++ [(s.effective c).code, (s.drive c).code])) (layerBytes c)
      rw [takeGetLamps, below_byte_of_le (by decide)]
      dsimp only
      simp only [entries, State.ln, State.ld, loadSum_heard part]
      cases s.lamps.sounder <;> cases s.lamps.cues <;> rfl
  · intro answers listed
    have any : filterOf 0 player = some .any := rfl
    have owner : filterOf 1 (byte o.val) = some (.owner o) := by
      show (below 5 (byte o.val)).map OwnerFilter.owner = _
      rw [below_byte_of_le (by decide)]; rfl
    have placed : filterOf 2 (byte o.val) = some (.placed o) := by
      show (below 5 (byte o.val)).map OwnerFilter.placed = _
      rw [below_byte_of_le (by decide)]; rfl
    refine ⟨fun bad => ?_, fun empty => ⟨?_, ?_, ?_⟩, fun d defined => ⟨?_, ?_, ?_⟩⟩
    · refine exec_badValue rfl listening ?_
      rw [takeCountPattern]
      rcases bad with high | other
      · rw [below_eq_none (by omega)]
      · cases below 32 a <;> rw [filterOf_none other]
    · exact exec_countPattern_empty listening any empty
    · exact exec_countPattern_empty listening owner empty
    · exact exec_countPattern_empty listening placed empty
    · exact exec_countPattern_defined listening any defined
    · exact exec_countPattern_defined listening owner defined
    · exact exec_countPattern_defined listening placed defined

end

section
/-!
Turns (R95 to R97), and notices filed, dropped and written out (R148 to R151, section 12.8).
-/

namespace Sys2Proof.Machine

open Sys2Proof

variable {s : State}

/-! ### Turns -/

/-- The player after the current one, given by number (R96). -/
theorem nextPlayer_eq {current np next : Player} (h : next.val = current.val % np.val + 1) : nextPlayer current np = next := by
  rw [nextPlayer, ← h]
  exact Fin.ofNat_val_eq_self next

/-- The number after a turn's, given as it goes on or wraps (R96). -/
theorem nextTurn_eq {t next : Nat} (h : t < 65535 ∧ next = t + 1 ∨ t = 65535 ∧ next = 1) : nextTurn t = next := by
  unfold nextTurn
  split <;> omega

/-- A turn ended: its notice, then the next player's first (R96). -/
theorem endTurn_eq {next : Player} {turn : Nat} (player : next.val = s.play.current.val % s.play.np.val + 1)
    (number : s.play.turnNumber < 65535 ∧ turn = s.play.turnNumber + 1 ∨ s.play.turnNumber = 65535 ∧ turn = 1) (byHost : Bool) :
    s.endTurn byHost =
      { s.notify (.turnEnd s.play.current s.play.turnNumber s.play.moves byHost next) with
        play := { s.play with current := next, turnNumber := turn, moves := 0 } } := by
  rw [State.endTurn, nextPlayer_eq player, nextTurn_eq number]
  simp

/-- A move of a cell that has no position, or outside TURNS mode, does not count (R95). -/
theorem reportMove_uncounted {c : CellId} (h : s.position c = none ∨ s.play.turns = false) : s.reportMove c = s := by
  unfold State.reportMove State.takeMove
  rcases h with h | h <;> simp [h]

/-- A move of a placed cell in TURNS mode counts (R95). -/
theorem reportMove_counted {c : CellId} (placed : (s.position c).isSome = true) (turns : s.play.turns = true) :
    let moves := min 255 (s.play.moves + 1)
    let counted : State := { s with play := { s.play with moves := moves } }
    s.reportMove c =
      if s.play.movesPerTurn ≠ 0 ∧ s.play.movesPerTurn ≤ moves then counted.endTurn false else counted := by
  unfold State.reportMove State.takeMove
  rw [if_pos placed, if_pos turns]

/-! ### A full queue -/

/-- Dropping the youngest of a rank takes out the last notice that has it (R151). -/
theorem dropYoungest_split {r : Nat} {victim : Notice} {later : List Notice} (rank : victim.body.class.rank = r)
    (last : ∀ m ∈ later, m.body.class.rank ≠ r) :
    ∀ before, dropYoungest r (before ++ victim :: later) = before ++ later
  | [] => by
    have none : (later.any fun m => decide (m.body.class.rank = r)) = false := by simpa using last
    rw [List.nil_append, dropYoungest, if_neg (by simp [none]), if_pos rank, List.nil_append]
  | n :: before => by
    have some_later : ((before ++ victim :: later).any fun m => decide (m.body.class.rank = r)) = true := by
      simp [rank]
    rw [List.cons_append, dropYoungest, if_pos some_later, dropYoungest_split rank last before]
    rfl

/-- The lowest rank of a queue is that of a notice that none ranks below. -/
theorem lowestRank_eq {q : List Notice} {victim : Notice} (present : victim ∈ q)
    (lowest : ∀ m ∈ q, victim.body.class.rank ≤ m.body.class.rank) : lowestRank q = victim.body.class.rank := by
  have low := lowestRank_le q present
  rcases (foldl_min_rank q NoticeClass.fault.rank).1 with top | ⟨m, hm, least⟩
  · have all : victim.body.class.rank ≤ 3 := rank_le _
    have : lowestRank q = 3 := top
    omega
  · have : m.body.class.rank = lowestRank q := least
    have := lowest m hm
    omega

/-- A queue in which nothing ranks below a notice has no lower rank to give up. -/
theorem le_lowestRank {q : List Notice} {r : Nat} (high : r ≤ 3) (all : ∀ m ∈ q, r ≤ m.body.class.rank) : r ≤ lowestRank q := by
  rcases (foldl_min_rank q NoticeClass.fault.rank).1 with top | ⟨m, hm, least⟩
  · have : lowestRank q = 3 := top
    omega
  · have : m.body.class.rank = lowestRank q := least
    have := all m hm
    omega

/-- A notice of a class that is on, made while the unit is open, is numbered, stamped and offered (R149, R150). -/
theorem notify_offers {b : NoticeBody} (opened : s.notices.opened = true) (on : s.notices.modes.of b.class ≠ .off) :
    s.notify b =
      { s with
        notices :=
          { s.notices with next := s.notices.next + 1 }.offer
            { seq := s.notices.next, body := b, epoch := s.epoch, clock := s.play.clock } } := by
  rw [State.notify, if_neg (by simp [opened, on])]

/-! ### Numbers as bytes, least significant first -/

/-- The first `width` bytes of a number (section 12.4). -/
def spellNat (width v : Nat) : List Byte := (List.range width).map fun j => BitVec.ofNat 8 (v / 256 ^ j)

/-- The higher part of a number does not show in its low bytes. -/
theorem spellNat_mod (width v : Nat) : spellNat width (v % 256 ^ width) = spellNat width v := by
  refine List.map_congr_left fun j hj => BitVec.eq_of_toNat_eq ?_
  have within := List.mem_range.1 hj
  have split : 256 ^ width = 256 ^ j * (256 * 256 ^ (width - j - 1)) := by
    rw [← Nat.pow_succ', ← Nat.pow_add]
    congr 1
    omega
  simp only [BitVec.toNat_ofNat]
  rw [split, Nat.mod_mul_right_div_self, Nat.mod_mul_right_mod]

/-- A byte is one byte of a number. -/
theorem byte_cons (n : Nat) (l : List Byte) : byte n :: l = spellNat 1 n ++ l := by simp [spellNat, byte]

/-- The bytes of a word, by offset. -/
theorem extract_byte {w : Nat} (v : BitVec w) (j : Nat) : v.extractLsb' (8 * j) 8 = BitVec.ofNat 8 (v.toNat / 256 ^ j) := by
  apply BitVec.eq_of_toNat_eq
  simp [Nat.shiftRight_eq_div_pow, Nat.pow_mul]

theorem bytes16_spell (w : BitVec 16) : bytes16 w = spellNat 2 w.toNat := by
  rw [bytes16, extract_byte w 0, extract_byte w 1]
  rfl

theorem two_spell (n : Nat) : two n = spellNat 2 n := by
  rw [two, bytes16_spell, BitVec.toNat_ofNat]
  exact spellNat_mod 2 n

theorem three_spell (n : Nat) : three n = spellNat 3 n := by
  rw [three, bytes24, extract_byte _ 0, extract_byte _ 1, extract_byte _ 2, BitVec.toNat_ofNat]
  exact spellNat_mod 3 n

theorem four_spell (n : Nat) : four n = spellNat 4 n := by
  rw [four, bytes32, extract_byte _ 0, extract_byte _ 1, extract_byte _ 2, extract_byte _ 3, BitVec.toNat_ofNat]
  exact spellNat_mod 4 n

/-! ### The fields of a notice as numbers (section 12.8) -/

/-- A flag as a number. -/
def bitNat (b : Bool) : Nat := if b then 1 else 0

theorem flag_byte (b : Bool) : flag b = byte (bitNat b) := by cases b <;> rfl

/-- A set of lanes is the sum of its lanes' bits. -/
theorem laneMask_byte (t : Table 8 Bool) :
    laneMask t = byte ((List.finRange 8).map fun m => bitNat (Table.read t m) * 2 ^ m.val).sum := by
  unfold laneMask
  congr 2
  refine List.map_congr_left fun m _ => ?_
  cases Table.read t m <;> simp [bitNat]

/-- A cell byte as a number. -/
def CellAt.cellNat (a : CellAt) : Nat := a.cell.slot.val + 16 * a.cell.lane.val + 128 * bitNat a.pos.isSome

theorem cellByte_byte (a : CellAt) : a.cellByte = byte a.cellNat := by
  unfold CellAt.cellByte CellAt.cellNat
  cases a.pos.isSome <;> simp [bitNat]

/-- A position byte as a number. -/
def CellAt.posNat (a : CellAt) : Nat := match a.pos with | some b => b.x.val + 16 * b.y.val | none => 0

theorem posByte_byte (a : CellAt) : a.posByte = byte a.posNat := by
  unfold CellAt.posByte CellAt.posNat
  cases a.pos <;> rfl

/-- The numbers of STAGE_DONE and QUEST_DONE with their widths. -/
def doneNumbers (q : QuestId) (stage points : Nat) (counter : Player) (tick : Bool) (epoch : BitVec 16) : List (Nat × Nat) :=
  [(1, q.val + 32 * stage + 128 * bitNat tick), (2, points + 4096 * counter.val), (2, epoch.toNat)]

/-- A tile word as a number. -/
def tileNat (t : TileRead) (facing : Fin 4) (flags : Nat) : Nat :=
  t.serial.toNat + 2 ^ 20 * t.kind.val + 2 ^ 26 * (match t.side with | .a => 0 | .b => 1) + 2 ^ 27 * facing.val +
    2 ^ 29 * flags

theorem word_spell (t : TileRead) (facing : Fin 4) (flags : Nat) : t.word facing.val flags = spellNat 4 (tileNat t facing flags) := by
  rw [TileRead.word, tileWord, four_spell]
  congr 1
  unfold tileNat Side.bit
  cases t.side <;> simp only <;> omega

theorem plainWord_spell (x : Serial) (flags : Nat) : tileWord x 0 .a 0 flags = spellNat 4 (x.toNat + 2 ^ 29 * flags) := by
  rw [tileWord, four_spell]
  congr 1
  simp only [Side.bit]
  omega

/-- The fields of each kind of notice as numbers, each with its width in bytes. -/
def NoticeBody.numbers : NoticeBody → List (Nat × Nat)
  | .started why seen runs =>
    [(1, match why with | .power => 0 | .pin => 1 | .restart => 2),
      (1, ((List.finRange 8).map fun m => bitNat (Table.read seen m) * 2 ^ m.val).sum),
      (1, ((List.finRange 8).map fun m => bitNat (Table.read runs m) * 2 ^ m.val).sum)]
  | .suspect a score entries => [(1, a.cellNat), (1, score), (1, entries)]
  | .recovered a score seated => [(1, a.cellNat), (1, score), (1, if seated then 0 else 1)]
  | .retired a auto entries => [(1, a.cellNat), (1, bitNat auto), (1, entries)]
  | .laneGone m k => [(1, m.val), (1, k)]
  | .laneBack m k => [(1, m.val), (1, k)]
  | .laneLost m k => [(1, m.val), (1, k)]
  | .stageDone q stage points counter tick epoch => doneNumbers q stage points counter tick epoch
  | .questDone q stage points counter tick epoch => doneNumbers q stage points counter tick epoch
  | .questFailed q stage why earned => [(1, q.val), (1, stage), (1, match why with | .time => 0 | .abandoned => 1), (2, earned)]
  | .holdBroken q stage held epoch => [(1, q.val), (1, stage), (2, held), (2, epoch.toNat)]
  | .turnEnd p turn moves host next => [(1, p.val), (2, turn), (1, moves), (1, bitNat host), (1, next.val)]
  | .clock runs byRest => [(1, bitNat runs), (1, bitNat byRest)]
  | .guard before now ln ld limit =>
    [(1, match before with | .settling => 0 | .clear => 1 | .dimmed => 2 | .holding => 3),
      (1, match now with | .settling => 0 | .clear => 1 | .dimmed => 2 | .holding => 3), (1, ln), (1, ld), (1, limit)]
  | .rest delay auto paused => [(2, delay), (1, bitNat auto), (1, bitNat paused)]
  | .wake .frame runs => [(1, 0), (1, 0), (1, 0), (1, bitNat runs)]
  | .wake (.tracker c) runs => [(1, 1), (1, c.lane.val), (1, c.slot.val), (1, bitNat runs)]
  | .wake (.connector m) runs => [(1, 2), (1, m.val), (1, 0), (1, bitNat runs)]
  | .arrival a t facing promoted => [(1, a.cellNat), (1, a.posNat), (4, tileNat t facing (bitNat promoted))]
  | .lift a x why =>
    [(1, a.cellNat), (1, a.posNat), (4, x.toNat + 2 ^ 29 * match why with | .read => 0 | .displaced => 1 | .retired => 2)]
  | .swap a t facing => [(1, a.cellNat), (1, a.posNat), (4, tileNat t facing 0)]
  | .rotate a t facing => [(1, a.cellNat), (1, a.posNat), (4, tileNat t facing 0)]
  | .twin a x h => [(1, a.cellNat), (1, a.posNat), (4, x.toNat + 2 ^ 20 * h.slot.val + 2 ^ 24 * h.lane.val)]
  | .twinEnd a x why =>
    [(1, a.cellNat), (1, 0), (4, x.toNat + 2 ^ 29 * match why with | .read => 0 | .suspect => 1 | .retired => 2)]

theorem donePayload_spell (q : QuestId) (stage points : Nat) (counter : Player) (tick : Bool) (epoch : BitVec 16) :
    donePayload q stage points counter tick epoch =
      (doneNumbers q stage points counter tick epoch).flatMap fun f => spellNat f.1 f.2 := by
  have ticked : (if tick then 128 else 0) = 128 * bitNat tick := by cases tick <;> rfl
  simp only [donePayload, doneNumbers, ticked, byte_cons, two_spell, bytes16_spell, List.flatMap_cons, List.flatMap_nil,
    List.append_nil, List.append_assoc]

/-- Each kind's payload is its numbers in their widths. -/
theorem fields_spelled (b : NoticeBody) : b.fields = b.numbers.flatMap fun f => spellNat f.1 f.2 := by
  have start (r : StartReason) : r.code = byte (match r with | .power => 0 | .pin => 1 | .restart => 2) := by cases r <;> rfl
  have fail (r : FailReason) : r.code = byte (match r with | .time => 0 | .abandoned => 1) := by cases r <;> rfl
  have guard (g : Guard) : g.code = byte (match g with | .settling => 0 | .clear => 1 | .dimmed => 2 | .holding => 3) := by
    cases g <;> rfl
  have zero : (0 : Byte) = byte 0 := rfl
  have one : (1 : Byte) = byte 1 := rfl
  have two' : (2 : Byte) = byte 2 := rfl
  cases b
  case wake cause run => cases cause <;> simp only [NoticeBody.fields, NoticeBody.numbers, zero, one, two', flag_byte, byte_cons, List.flatMap_cons, List.flatMap_nil, List.append_nil]
  case stageDone => exact donePayload_spell ..
  case questDone => exact donePayload_spell ..
  all_goals
    simp only [NoticeBody.fields, NoticeBody.numbers, start, fail, guard, zero, flag_byte, cellByte_byte, posByte_byte, laneMask_byte,
      byte_cons, two_spell, bytes16_spell, word_spell, plainWord_spell, four_spell, List.flatMap_cons, List.flatMap_nil,
      List.append_nil, List.append_assoc]
  case recovered a score seated => cases seated <;> rfl
  case arrival => rfl
  case lift a x why => cases why <;> rfl
  case twinEnd a x why => cases why <;> rfl
  case twin a x h =>
    have split : (h.slot.val + 16 * h.lane.val) * 2 ^ 20 = 2 ^ 20 * h.slot.val + 2 ^ 24 * h.lane.val := by omega
    rw [split, Nat.add_assoc]

end Sys2Proof.Machine

open Sys2Proof Sys2Proof.Machine

/-- Settles O14: the end of a turn by request, and the three cases of a move. -/
theorem turnsEndByRequestOrByMoves : Obligations.TurnsEndByRequestOrByMoves := by
  refine ⟨fun next turn s listening => ⟨fun free => ?_, fun turns player number => ?_⟩, fun c next s => ?_⟩
  · refine exec_answered takeEndTurn rfl listening ?_
    rw [takeEndTurn, reportActivity_play, if_neg (by simp [free])]
    rfl
  · refine exec_answered takeEndTurn rfl listening ?_
    rw [takeEndTurn, reportActivity_play, if_pos turns]
    dsimp only
    rw [endTurn_eq (s := s.reportActivity) (by rw [reportActivity_play]; exact player)
      (by rw [reportActivity_play]; exact number), reportActivity_play, nextPlayer_eq player]
    rfl
  · intro moves counted
    refine ⟨reportMove_uncounted, fun placed turns => ⟨fun few => ?_, fun limited full player number => ?_⟩⟩
    · rw [reportMove_counted placed turns, if_neg (by omega)]
    · rw [reportMove_counted placed turns, if_pos ⟨limited, full⟩]
      exact endTurn_eq (s := counted) player (.inl ⟨number, rfl⟩) false

/-- Settles O9: a notice discarded, filed, or given a place by the youngest of the lowest rank, and the bytes of a record. -/
theorem noticesFiledAndOverflow : Obligations.NoticesFiledAndOverflow := by
  refine ⟨fun b s => ⟨fun off => if_pos off, fun opened on room => ?_⟩, fun b s opened on full => ?_, fun n => ?_⟩
  · rw [notify_offers opened on, NoticeUnit.offer]
    dsimp only
    rw [if_pos (show _ < noticeRoom from room)]
  · intro n after
    have nofit : ¬s.notices.queue.length < noticeRoom := by rw [full]; decide
    have offered := notify_offers opened on
    rw [NoticeUnit.offer] at offered
    dsimp only at offered
    rw [if_neg nofit] at offered
    refine ⟨fun before victim later queue lower lowest last => ?_, fun high => ?_⟩
    · have rank : lowestRank s.notices.queue = victim.body.class.rank := lowestRank_eq (by simp [queue]) lowest
      rw [offered, if_pos (by rw [rank]; exact lower), rank, queue, dropYoungest_split rfl last]
    · rw [offered, if_neg (Nat.not_lt.2 (le_lowestRank (rank_le _) high))]
  · intro bytes bit mask cell position tile guard done record payload
    have whole : record = (n.body.class.code, n.body.kindCode, n.body.numbers) := by
      dsimp only [record]
      cases n.body
      case wake cause runs => cases cause <;> rfl
      all_goals rfl
    have fields : n.body.fields = payload := by
      dsimp only [payload]
      rw [whole]
      exact fields_spelled n.body
    rw [whole, Notice.bytes, fields, bytes16_spell, bytes16_spell, three_spell, byte_cons, fill, List.append_nil, ← List.append_assoc,
      Nat.mul_comm]
    rfl

end

section
/-!
The plan's geometry: a cell's position by its heading, and the covering cell of a position (R8, R9).
-/

namespace Sys2Proof.Machine

open Sys2Proof

/-- A number on the grid is its own coordinate. -/
theorem gridCoord_val {n : Nat} (h : n < 16) : (gridCoord n).val = n := Nat.mod_eq_of_lt h

/-- A placement on the grid ends within it. -/
theorem onGrid_iff {p : Placement} :
    p.onGrid = true ↔ p.ox.val + footprintWidth p.h ≤ 16 ∧ p.oy.val + footprintHeight p.h ≤ 16 := by
  simp only [Placement.onGrid, Bool.and_eq_true, decide_eq_true_eq]
  unfold footprintWidth footprintHeight
  split <;> omega

/-- A footprint covers the positions from its origin on, within its width and height. -/
theorem covers_iff {p : Placement} {b : Pos} :
    p.covers b = true ↔
      p.ox.val ≤ b.x.val ∧ b.x.val < p.ox.val + footprintWidth p.h ∧ p.oy.val ≤ b.y.val ∧
        b.y.val < p.oy.val + footprintHeight p.h := by
  simp only [Placement.covers, Bool.and_eq_true, decide_eq_true_eq, and_assoc]

/-- Every slot's row and column. -/
theorem slot_split (i : Slot) : i.val % 3 < 3 ∧ i.val / 3 < 4 ∧ i.val = i.val / 3 * 3 + i.val % 3 := by omega

/-- The position of a slot by the heading (the table of R8). -/
theorem position_val {p : Placement} (grid : p.onGrid = true) (i : Slot) :
    let g := p.position i
    let col := i.val % 3
    let row := i.val / 3
    (p.h = 0 → g.x.val = p.ox.val + col ∧ g.y.val = p.oy.val + row) ∧
      (p.h = 1 → g.x.val = p.ox.val + 3 - row ∧ g.y.val = p.oy.val + col) ∧
      (p.h = 2 → g.x.val = p.ox.val + 2 - col ∧ g.y.val = p.oy.val + 3 - row) ∧
      (p.h = 3 → g.x.val = p.ox.val + row ∧ g.y.val = p.oy.val + 2 - col) := by
  obtain ⟨col, row, -⟩ := slot_split i
  obtain ⟨wide, high⟩ := onGrid_iff.1 grid
  obtain ⟨ox, oy, h⟩ := p
  refine ⟨?_, ?_, ?_, ?_⟩
  all_goals
    rintro rfl
    simp [footprintWidth, footprintHeight] at wide high
    exact ⟨gridCoord_val (by simp only [slotColumn, slotRow]; omega), gridCoord_val (by simp only [slotColumn, slotRow]; omega)⟩

/-- The footprint covers the position of each of its slots, and the slot there is that slot (R9). -/
theorem slotAt_position {p : Placement} (grid : p.onGrid = true) (i : Slot) :
    p.covers (p.position i) = true ∧ p.slotAt (p.position i) = i := by
  obtain ⟨col, row, whole⟩ := slot_split i
  obtain ⟨h0, h1, h2, h3⟩ := position_val grid i
  rw [covers_iff]
  generalize p.position i = g at h0 h1 h2 h3 ⊢
  obtain ⟨ox, oy, h⟩ := p
  match h with
  | 0 =>
    obtain ⟨x, y⟩ := h0 rfl
    dsimp only at x y
    refine ⟨by simp [footprintWidth, footprintHeight]; omega, Fin.ext ?_⟩
    simp [Placement.slotAt]; omega
  | 1 =>
    obtain ⟨x, y⟩ := h1 rfl
    dsimp only at x y
    refine ⟨by simp [footprintWidth, footprintHeight]; omega, Fin.ext ?_⟩
    simp [Placement.slotAt]; omega
  | 2 =>
    obtain ⟨x, y⟩ := h2 rfl
    dsimp only at x y
    refine ⟨by simp [footprintWidth, footprintHeight]; omega, Fin.ext ?_⟩
    simp [Placement.slotAt]; omega
  | 3 =>
    obtain ⟨x, y⟩ := h3 rfl
    dsimp only at x y
    refine ⟨by simp [footprintWidth, footprintHeight]; omega, Fin.ext ?_⟩
    simp [Placement.slotAt]; omega

/-- A covered position is the position of the slot under it. -/
theorem position_slotAt {p : Placement} (grid : p.onGrid = true) {b : Pos} (covered : p.covers b = true) :
    p.position (p.slotAt b) = b := by
  obtain ⟨h0, h1, h2, h3⟩ := position_val grid (p.slotAt b)
  obtain ⟨left, right, top, bottom⟩ := covers_iff.1 covered
  have same : ∀ {g : Pos}, g.x.val = b.x.val → g.y.val = b.y.val → g = b := fun hx hy => by
    obtain ⟨x, y⟩ := b
    obtain ⟨gx, gy⟩ := ‹Pos›
    exact congrArg₂ Pos.mk (Fin.ext hx) (Fin.ext hy)
  generalize p.position (p.slotAt b) = g at h0 h1 h2 h3 ⊢
  obtain ⟨ox, oy, h⟩ := p
  match h with
  | 0 =>
    obtain ⟨x, y⟩ := h0 rfl
    simp [footprintWidth, footprintHeight, Placement.slotAt] at left right top bottom x y
    exact same (by omega) (by omega)
  | 1 =>
    obtain ⟨x, y⟩ := h1 rfl
    simp [footprintWidth, footprintHeight, Placement.slotAt] at left right top bottom x y
    exact same (by omega) (by omega)
  | 2 =>
    obtain ⟨x, y⟩ := h2 rfl
    simp [footprintWidth, footprintHeight, Placement.slotAt] at left right top bottom x y
    exact same (by omega) (by omega)
  | 3 =>
    obtain ⟨x, y⟩ := h3 rfl
    simp [footprintWidth, footprintHeight, Placement.slotAt] at left right top bottom x y
    exact same (by omega) (by omega)

/-- On a lawful plan the covering cell of a position is the slot under it of the lane whose footprint covers it (R4, R9). -/
theorem covering_iff {s : State} (lawful : s.planLawful) {b : Pos} {d : CellId} :
    s.covering b = some d ↔ ∃ p, Table.read s.plan d.lane = some p ∧ p.covers b = true ∧ d.slot = p.slotAt b := by
  have found : ∀ {e}, s.covering b = some e → ∃ p, Table.read s.plan e.lane = some p ∧ p.covers b = true ∧ e.slot = p.slotAt b := by
    intro e h
    obtain ⟨n, -, hn⟩ := List.exists_of_findSome?_eq_some h
    split at hn
    case h_2 => cases hn
    case h_1 p placed =>
      split at hn
      case isFalse => cases hn
      case isTrue covered =>
        cases hn
        exact ⟨p, placed, covered, rfl⟩
  refine ⟨found, fun ⟨p, placed, covered, slot⟩ => ?_⟩
  cases h : s.covering b with
  | none =>
    have absent := List.findSome?_eq_none_iff.1 h d.lane (List.mem_finRange _)
    simp [placed, covered] at absent
  | some e =>
    obtain ⟨q, placed', covered', slot'⟩ := found h
    obtain ⟨n, i⟩ := d
    obtain ⟨m, j⟩ := e
    obtain rfl : m = n := lawful.2 _ _ _ _ _ placed' placed covered' covered
    obtain rfl : q = p := Option.some.inj (placed'.symm.trans placed)
    exact congrArg (fun i => some (CellId.mk m i)) (slot'.trans slot.symm)

end Sys2Proof.Machine

open Sys2Proof Sys2Proof.Machine

/-- Settles O17: the table of R8, and covering and position inverse to each other. -/
theorem positionsAndCoveringCellsAgree : Obligations.PositionsAndCoveringCellsAgree := by
  intro c b s lawful
  refine ⟨fun unplaced => ?_, fun p placed => ?_, fun d covering => ?_⟩
  · simp [State.position, positionIn, unplaced]
  · have grid := lawful.1 _ _ placed
    obtain ⟨covered, slot⟩ := slotAt_position grid c.slot
    refine ⟨p.position c.slot, ?_, (covering_iff lawful).2 ⟨p, placed, covered, slot.symm⟩, position_val grid c.slot⟩
    simp [State.position, positionIn, placed]
  · obtain ⟨p, placed, covered, slot⟩ := (covering_iff lawful).1 covering
    simp [State.position, positionIn, placed, slot, position_slotAt (lawful.1 _ _ placed) covered]

end

section
/-!
Effective settings, drives and loads (R134 to R137), and the match computation (R81 to R88).
-/

namespace Sys2Proof.Machine

open Sys2Proof

variable {s : State}

/-! ### The quest layer -/

/-- A flash, or a hint, that covers a position. -/
def LampUnit.flashCovers (u : LampUnit) (b : Pos) (k : QuestId) : Prop :=
  ∃ f, Table.read u.flashes k = some f ∧ f.region.covers b = true

def LampUnit.hintCovers (u : LampUnit) (b : Pos) (k : QuestId) : Prop :=
  ∃ r, Table.read u.hints k = some r ∧ r.covers b = true

/-- Some flash covers a position exactly when one is found there. -/
theorem flashAt_none {u : LampUnit} {b : Pos} : u.flashAt b = none ↔ ∀ k, ¬u.flashCovers b k := by
  unfold LampUnit.flashAt LampUnit.flashCovers
  simp only [List.find?_eq_none, List.mem_finRange, true_implies]
  refine forall_congr' fun k => ?_
  cases Table.read u.flashes k <;> simp

theorem hintAt_none {u : LampUnit} {b : Pos} : u.hintAt b = none ↔ ∀ k, ¬u.hintCovers b k := by
  unfold LampUnit.hintAt LampUnit.hintCovers
  simp only [List.find?_eq_none, List.mem_finRange, true_implies]
  refine forall_congr' fun k => ?_
  cases Table.read u.hints k <;> simp

/-- The effective setting of a live cell with the free host setting (R135). -/
theorem effective_free {c : CellId} (live : (s.cell c).state ≠ .retired) (awake : s.rest.part ≠ .resting)
    (free : s.hostSetting c = .free) :
    s.effective c =
      match s.position c with
      | none => .off
      | some b =>
        match s.lamps.flashAt b, s.lamps.hintAt b with
        | some _, _ => .bright
        | none, some _ => .blinkDim
        | none, none => .off := by
  rw [State.effective, if_neg live, if_neg awake, if_neg (by simp [free]), State.questLayer, if_neg live]
  cases s.position c with
  | none => rfl
  | some b =>
    cases hf : s.lamps.flashAt b with
    | some q => simp [hf]
    | none => cases hh : s.lamps.hintAt b <;> simp [hf, hh]

/-! ### Load (R137) -/

/-- The load of a lamp is at most its top value. -/
theorem loadOf_le (e : LampSetting) (on : Bool) {top : Nat} (h : 1 ≤ top) : loadOf e on top ≤ top := by
  cases e <;> cases on <;> simp [loadOf, h]

/-- The load sum, with the lamps' units by their settings. -/
theorem loadSum_eq (s : State) (top : Nat) :
    s.loadSum top =
      (allCells.map fun c =>
        if (s.lane c.lane).state = .running then
          match s.effective c with
          | .free | .off => 0
          | .dim => 1
          | .bright => top
          | .blinkDim => if s.lamps.phaseOn then 1 else 0
          | .blinkBright => if s.lamps.phaseOn then top else 0
        else 0).sum + if s.lamps.sounder.isSome then 8 else 0 := by
  unfold State.loadSum loadOf
  rfl

/-- A BRIGHT lamp that counts for more makes no load smaller. -/
theorem loadOf_mono (e : LampSetting) (on : Bool) {low high : Nat} (h : low ≤ high) : loadOf e on low ≤ loadOf e on high := by
  cases e <;> cases on <;> simp [loadOf, h]

/-- A load sum is at most 96 lamps at their top value, and the sounder. -/
theorem loadSum_le {top : Nat} (h : 1 ≤ top) : s.loadSum top ≤ 96 * top + 8 := by
  have lamps := List.sum_le_card_nsmul (allCells.map fun c =>
    if (s.lane c.lane).state = .running then loadOf (s.effective c) s.lamps.phaseOn top else 0) top (by
      intro x hx
      obtain ⟨c, -, rfl⟩ := List.mem_map.1 hx
      split
      · exact loadOf_le _ _ h
      · exact Nat.zero_le _)
  have sounder : (if s.lamps.sounder.isSome = true then 8 else 0) ≤ 8 := by split <;> omega
  have cells : allCells.length = 96 := rfl
  rw [List.length_map, cells, smul_eq_mul] at lamps
  exact Nat.add_le_add lamps sounder

theorem loadSum_mono {low high : Nat} (h : low ≤ high) : s.loadSum low ≤ s.loadSum high := by
  refine Nat.add_le_add_right (List.sum_le_sum fun c _ => ?_) _
  split
  · exact loadOf_mono _ _ h
  · exact Nat.le_refl _

/-! ### Targets (R85) -/

/-- A number is a coordinate exactly when it is one's value. -/
theorem coordinate_eq_some {v : Int} {x : Fin 16} : coordinate v = some x ↔ (x.val : Int) = v := by
  unfold coordinate
  split
  case isTrue h => rw [Option.some.injEq, Fin.ext_iff]; dsimp only; omega
  case isFalse h =>
    refine ⟨nofun, fun e => absurd ?_ h⟩
    have := x.isLt
    omega

/-- The target of an offset is the position it turns to. -/
theorem target_eq_some {b g : Pos} {t : Fin 4} {dx dy : Int} :
    target b t dx dy = some g ↔
      (g.x.val : Int) = b.x.val + (turnOffset t dx dy).1 ∧ (g.y.val : Int) = b.y.val + (turnOffset t dx dy).2 := by
  rw [← coordinate_eq_some, ← coordinate_eq_some]
  obtain ⟨x, y⟩ := g
  unfold target
  dsimp only
  split
  case h_1 x' y' hx hy =>
    rw [hx, hy]
    simp
  case h_2 none =>
    exact ⟨nofun, fun ⟨hx, hy⟩ => (none x y hx hy).elim⟩

/-! ### Pieces (R86, R87) -/

/-- A tile passes an owner filter (R82). -/
theorem ownerPasses_iff {f : OwnerFilter} {i : TileView} :
    f.passes i = true ↔ (∀ o, f = .owner o → i.owner = o) ∧ ∀ o, f = .placed o → i.placedBy = o := by
  cases f <;> simp [OwnerFilter.passes]

/-- A kind passes a kind test (R75). -/
theorem kindPasses_iff {k : TileTest} {i : TileView} :
    k.passes i.kind = true ↔ (∀ e, k = .exact e → i.kind = e) ∧ ∀ e, k = .family e → i.kind.val / 8 = e.val := by
  cases k <;> simp [TileTest.passes]

variable {p : Piece} {v : View} {f : OwnerFilter} {b : Pos} {t : Fin 4}

/-- An EMPTY piece passes on a live position without a tile (R87). -/
theorem passes_empty (test : p.test = .empty) :
    p.passes v f b t = true ↔ ∃ g e, target b t p.dx p.dy = some g ∧ v.look g = some (e, none) := by
  unfold Piece.passes
  cases target b t p.dx p.dy with
  | none => simp
  | some g =>
    rw [test]
    cases hl : v.look g with
    | none => simp [hl]
    | some at_ =>
      obtain ⟨e, tile⟩ := at_
      cases tile <;> simp [hl]

/-- A tile piece passes on a counting tile that meets all it asks (R86). -/
theorem passes_tile {k : TileTest} (test : p.test = .tile k) :
    p.passes v f b t = true ↔
      ∃ g e i, target b t p.dx p.dy = some g ∧ v.look g = some (e, some i) ∧ i.counting = true ∧ f.passes i = true ∧
        k.passes i.kind = true ∧ (∀ x, p.side = some x → i.side = x) ∧ ∀ x, p.facing = some x → i.facing = t + x := by
  unfold Piece.passes
  cases target b t p.dx p.dy with
  | none => simp
  | some g =>
    rw [test]
    cases hl : v.look g with
    | none => simp [hl]
    | some at_ =>
      obtain ⟨e, tile⟩ := at_
      cases tile with
      | none => simp [hl]
      | some i => cases p.side <;> cases p.facing <;> simp [hl, and_assoc]

/-! ### Anchors (R83, R84, R88) -/

variable {d : Pattern} {c : CellId}

theorem mem_allPositions (b : Pos) : b ∈ allPositions := by
  simp [allPositions]

/-- The occupied positions of a view are those where it shows a tile. -/
theorem mem_occupied {i : TileView} : (b, c, i) ∈ v.occupied ↔ v.look b = some (c, some i) := by
  unfold View.occupied
  rw [List.mem_filterMap]
  constructor
  · rintro ⟨g, -, hg⟩
    split at hg
    case h_1 e j look =>
      cases hg
      exact look
    case h_2 => cases hg
  · intro look
    exact ⟨b, mem_allPositions b, by rw [look]⟩

/-- The candidates are the occupied positions, or that of the anchor (R83). -/
theorem mem_candidates {i : TileView} :
    (b, c, i) ∈ d.candidates v ↔ v.look b = some (c, some i) ∧ ∀ a, d.anchor = some a → a = b := by
  unfold Pattern.candidates
  cases d.anchor with
  | none => simp [mem_occupied]
  | some a =>
    dsimp only
    split
    case h_1 e j look =>
      simp only [List.mem_singleton, Prod.mk.injEq, Option.some.injEq, forall_eq']
      constructor
      · rintro ⟨rfl, rfl, rfl⟩
        exact ⟨look, rfl⟩
      · rintro ⟨look', rfl⟩
        rw [look] at look'
        simp at look'
        exact ⟨rfl, look'.1.symm, look'.2.symm⟩
    case h_2 none =>
      simp only [List.not_mem_nil, Option.some.injEq, forall_eq', false_iff]
      rintro ⟨look, rfl⟩
      exact none _ _ look

/-- The first rotation tried under which every piece passes (R84, R88). -/
theorem firstRotation_eq_some {facing : Fin 4} :
    d.firstRotation v f b facing = some t ↔
      ((d.rotation = .fixed ∧ t = 0) ∨ (d.rotation = .turning ∧ t = facing) ∨ d.rotation = .any) ∧
        (∀ q ∈ d.pieces, q.passes v f b t = true) ∧
        (d.rotation = .any → ∀ u, u < t → ∃ q ∈ d.pieces, q.passes v f b u = false) := by
  unfold Pattern.firstRotation
  have single : ∀ u : Fin 4, ([u].find? fun t => d.pieces.all fun q => q.passes v f b t) = some t ↔
      t = u ∧ ∀ q ∈ d.pieces, q.passes v f b t = true := fun u => by
    rw [List.find?_singleton]
    by_cases all : (d.pieces.all fun q => q.passes v f b u) = true
    · simp only [all, if_true, Option.some.injEq]
      constructor
      · rintro rfl
        exact ⟨rfl, by simpa using all⟩
      · rintro ⟨rfl, -⟩
        rfl
    · simp only [all]
      refine ⟨nofun, ?_⟩
      rintro ⟨rfl, passes⟩
      exact absurd (by simpa using passes) all
  cases d.rotation with
  | fixed => rw [Rotation.tried, single]; simp
  | turning => rw [Rotation.tried, single]; simp
  | any =>
    rw [Rotation.tried, show ([0, 1, 2, 3] : List (Fin 4)) = List.finRange 4 from rfl, ← Fin.find?_eq_find?_finRange,
      Fin.find?_eq_some_iff]
    simp

/-- Board order: by y, then by x. -/
def Pos.before (a b : Pos) : Prop := a.y < b.y ∨ (a.y = b.y ∧ a.x < b.x)

theorem allPositions_pairwise : allPositions.Pairwise Pos.before := by
  unfold allPositions
  rw [List.pairwise_flatMap]
  refine ⟨fun y _ => ?_, ?_⟩
  · rw [List.pairwise_map]
    exact (List.pairwise_lt_finRange 16).imp fun h => .inr ⟨rfl, h⟩
  · refine (List.pairwise_lt_finRange 16).imp fun {y z} h g hg k hk => ?_
    obtain ⟨-, -, rfl⟩ := List.mem_map.1 hg
    obtain ⟨-, -, rfl⟩ := List.mem_map.1 hk
    exact .inl h

/-- The matching anchors come in board order. -/
theorem anchors_pairwise : (d.anchors v f).Pairwise fun x y => x.1.before y.1 := by
  have candidates : (d.candidates v).Pairwise fun x y => x.1.before y.1 := by
    unfold Pattern.candidates
    cases d.anchor with
    | none =>
      refine List.Pairwise.filterMap _ (fun g k before x hx y hy => ?_) allPositions_pairwise
      split at hx <;> cases hx
      split at hy <;> cases hy
      exact before
    | some a =>
      dsimp only
      split <;> simp
  refine List.Pairwise.filterMap _ (fun x y before g hg k hk => ?_) candidates
  obtain ⟨r, -, rfl⟩ := Option.map_eq_some_iff.1 hg
  obtain ⟨r', -, rfl⟩ := Option.map_eq_some_iff.1 hk
  exact before

/-- A matching anchor is a candidate with its first passing rotation (R88). -/
theorem mem_anchors :
    (b, c, t) ∈ d.anchors v f ↔ ∃ i, (b, c, i) ∈ d.candidates v ∧ d.firstRotation v f b i.facing = some t := by
  unfold Pattern.anchors
  rw [List.mem_filterMap]
  constructor
  · rintro ⟨⟨g, e, i⟩, candidate, h⟩
    obtain ⟨r, first, rest⟩ := Option.map_eq_some_iff.1 h
    cases rest
    exact ⟨i, candidate, first⟩
  · rintro ⟨i, candidate, first⟩
    exact ⟨_, candidate, by simp [first]⟩

/-! ### The live view (R81) -/

/-- The live view shows the covering cell's record (R81). -/
theorem view_look {b : Pos} {c : CellId} (covers : s.covering b = some c) :
    s.view.look b =
      match (s.cell c).view with
      | .retired => none
      | .vacant => some (c, none)
      | .tile t => some (c, some t) := by
  have shown : Table.read (Table.read s.view.cells c.lane) c.slot = (s.cell c).view := by
    simp [State.view, State.cell]
  unfold View.look
  rw [show coveringIn s.view.plan b = some c from covers]
  dsimp only
  rw [shown] <;> rfl


end Sys2Proof.Machine

open Sys2Proof Sys2Proof.Machine

/-- Settles O47: the cases of R135, the drives and the two sums. -/
theorem lampDrives : Obligations.LampDrives := by
  refine ⟨fun c b q s => ⟨fun dark => ?_, fun live awake => ⟨fun host => ?_, fun free => ⟨fun unplaced => ?_, fun placed => ?_⟩⟩, ?_⟩,
    fun n s => ⟨?_, ?_, loadSum_le (by decide), loadSum_le (by decide), loadSum_mono (by decide), rfl⟩⟩
  · unfold State.effective
    rcases dark with dead | resting
    · rw [if_pos dead]
    · by_cases dead : (s.cell c).state = .retired
      · rw [if_pos dead]
      · rw [if_neg dead, if_pos resting]
  · rw [State.effective, if_neg live, if_neg awake, if_pos host]
  · rw [effective_free live awake free, unplaced]
  · intro flashes hints
    have effective := effective_free live awake free
    rw [placed] at effective
    have flashing : s.lamps.flashAt b = none ↔ ∀ k, ¬flashes k := flashAt_none
    have hinting : s.lamps.hintAt b = none ↔ ∀ k, ¬hints k := hintAt_none
    refine ⟨fun flash => ?_, fun noFlash hint => ?_, fun noFlash noHint => ?_⟩
    · cases h : s.lamps.flashAt b with
      | none => exact absurd flash (flashing.1 h q)
      | some k => rw [effective]; simp [h]
    · cases h : s.lamps.hintAt b with
      | none => exact absurd hint (hinting.1 h q)
      | some k => rw [effective]; simp [h, flashing.2 noFlash]
    · rw [effective]
      simp [flashing.2 noFlash, hinting.2 noHint]
  · unfold State.drive driveOf
    cases s.effective c <;> rfl
  · exact loadSum_eq s 2
  · exact loadSum_eq s 1

/-- Settles O38: targets, pieces and anchors as the rules say, and the live view cell by cell. -/
theorem matchingAnchors : Obligations.MatchingAnchors := by
  refine ⟨fun d v f b c t p => ?_, fun b s => ⟨fun uncovered => ?_, fun c covers => ⟨fun dead => ?_, fun live empty => ?_,
    fun i live seated => ?_⟩⟩⟩
  · intro turned at_ owned kindOk
    have turns : turned = turnOffset t p.dx p.dy := by
      dsimp only [turned]
      match t with
      | 0 | 1 | 2 | 3 => rfl
    have targets : ∀ g, target b t p.dx p.dy = some g ↔ at_ g := fun g => by
      dsimp only [at_]
      rw [turns, target_eq_some]
    refine ⟨fun k test => ?_, fun test => ?_, ?_, anchors_pairwise⟩
    · rw [passes_tile test]
      simp only [targets, ownerPasses_iff, kindPasses_iff]
      rfl
    · rw [passes_empty test]
      simp only [targets]
    · rw [mem_anchors]
      simp only [mem_candidates, firstRotation_eq_some, and_assoc]
  · rw [View.look, show coveringIn s.view.plan b = none from uncovered]
  · rw [view_look covers, CellRec.view, if_pos dead]
  · rw [view_look covers, CellRec.view, if_neg live, empty]
  · rw [view_look covers, CellRec.view, if_neg live, seated]

end

section
/-!
DEFINE_PATTERN: pieces read from their bytes, the first field out of range, and the first inconsistency (R75 to R78).
-/

namespace Sys2Proof.Machine

open Sys2Proof

variable {s : State}

/-! ### The fields of a piece (section 12.3) -/

theorem byte_eq_iff {b : Byte} {n : Nat} (h : n < 256) : b = byte n ↔ b.toNat = n := by
  rw [← BitVec.toNat_inj, byte_toNat h]

theorem offsetOf_eq_some {b : Byte} {v : Int} : offsetOf b = some v ↔ -7 ≤ v ∧ v ≤ 7 ∧ b.toInt = v := by
  unfold offsetOf
  split
  case isTrue h => rw [Option.some.injEq]; omega
  case isFalse h => exact ⟨nofun, by rintro ⟨low, high, rfl⟩; exact absurd ⟨low, high⟩ h⟩

theorem pieceTestOf_eq_some {b : Byte} {t : PieceTest} :
    pieceTestOf b = some t ↔
      b =
        match t with
        | .tile (.exact k) => byte k.val
        | .tile (.family k) => byte (64 + k.val)
        | .tile .anyTile => 0x80
        | .empty => 0xC0 := by
  unfold pieceTestOf
  constructor
  · intro h
    split at h
    case isTrue small =>
      cases h
      exact (byte_eq_iff (by omega)).2 (Nat.mod_eq_of_lt small).symm
    case isFalse big =>
      split at h
      case isTrue small =>
        cases h
        refine (byte_eq_iff (by omega)).2 ?_
        have : (b.toNat - 64) % 8 = b.toNat - 64 := Nat.mod_eq_of_lt (by omega)
        simp only [Fin.val_ofNat, this]
        omega
      case isFalse =>
        split at h
        case isTrue any => cases h; exact any
        case isFalse =>
          split at h
          case isTrue empty => cases h; exact empty
          case isFalse => cases h
  · rintro rfl
    cases t with
    | empty => rfl
    | tile t =>
      cases t with
      | anyTile => rfl
      | exact k =>
        have size : (byte k.val).toNat = k.val := byte_toNat (by omega)
        dsimp only
        rw [size, if_pos k.isLt]
        simp
      | family k =>
        have size : (byte (64 + k.val)).toNat = 64 + k.val := byte_toNat (by omega)
        dsimp only
        rw [size, if_neg (by omega), if_pos (by omega)]
        simp

theorem facingTestOf_eq_some {b : Byte} {f : Option (Fin 4)} :
    facingTestOf b = some f ↔ b = match f with | none => 0xFF | some f => byte f.val := by
  unfold facingTestOf
  cases f with
  | none =>
    split
    case isTrue h => simp [h]
    case isFalse h => exact ⟨by cases below 4 b <;> simp, fun e => absurd e h⟩
  | some f =>
    rw [byte_eq_iff (by omega)]
    split
    case isTrue h =>
      subst h
      simp
      omega
    case isFalse h =>
      rw [Option.map_eq_some_iff]
      simp [below_eq_some]

theorem sideTestOf_eq_some {b : Byte} {d : Option Side} :
    sideTestOf b = some d ↔ b = match d with | none => 0 | some .a => 1 | some .b => 2 := by
  rw [← BitVec.toNat_inj]
  unfold sideTestOf
  split
  case h_1 h => rw [h]; rcases d with _ | (_ | _) <;> simp
  case h_2 h => rw [h]; rcases d with _ | (_ | _) <;> simp
  case h_3 h => rw [h]; rcases d with _ | (_ | _) <;> simp
  case h_4 h0 h1 h2 =>
    rcases d with _ | (_ | _)
    · exact ⟨nofun, fun e => (h0 e).elim⟩
    · exact ⟨nofun, fun e => (h1 e).elim⟩
    · exact ⟨nofun, fun e => (h2 e).elim⟩

/-- A piece's bytes read as a piece field by field (R76). -/
theorem pieceOf_eq_some {b : PieceBytes} {p : Piece} :
    pieceOf b = some p ↔
      offsetOf b.dx = some p.dx ∧ offsetOf b.dy = some p.dy ∧ pieceTestOf b.kindTest = some p.test ∧
        facingTestOf b.facing = some p.facing ∧ sideTestOf b.side = some p.side := by
  obtain ⟨dx, dy, t, f, d⟩ := p
  unfold pieceOf
  dsimp only
  split
  case h_1 h1 h2 h3 h4 h5 => simp [h1, h2, h3, h4, h5]
  case h_2 none =>
    refine ⟨nofun, fun ⟨h1, h2, h3, h4, h5⟩ => (none _ _ _ _ _ h1 h2 h3 h4 h5).elim⟩

/-! ### The pieces in use (R76) -/

/-- The first piece record out of range is named. -/
theorem readPieces_error {b : PieceBytes} (bad : pieceOf b = none) :
    ∀ (l : List PieceBytes) (i k : Nat), l[i]? = some b → (∀ j b', j < i → l[j]? = some b' → (pieceOf b').isSome = true) →
      readPieces k l = .error (k + i)
  | [], i, k, h, _ => by simp at h
  | c :: l, 0, k, h, _ => by
    obtain rfl : c = b := by simpa using h
    rw [readPieces, bad]
    rfl
  | c :: l, i + 1, k, h, before => by
    obtain ⟨p, first⟩ := Option.isSome_iff_exists.1 (before 0 c (by omega) rfl)
    rw [readPieces, first]
    dsimp only
    rw [readPieces_error bad l i (k + 1) (by simpa using h) fun j b' hj hb => before (j + 1) b' (by omega) (by simpa using hb)]
    exact congrArg Except.error (by omega)

/-- Piece records that are all in range are read as their pieces. -/
theorem readPieces_ok : ∀ (l : List PieceBytes) (ps : List Piece) (k : Nat), l.map pieceOf = ps.map some → readPieces k l = .ok ps
  | [], ps, k, h => by
    obtain rfl : ps = [] := by simpa using h.symm
    rfl
  | b :: l, ps, k, h => by
    cases ps with
    | nil => cases h
    | cons p ps =>
      simp only [List.map_cons, List.cons.injEq] at h
      rw [readPieces, h.1]
      dsimp only
      rw [readPieces_ok l ps (k + 1) h.2]

/-! ### Consistency (R77) -/

/-- An EMPTY piece that asks for a facing or a side. -/
def Piece.overAsks (p : Piece) : Prop := p.test = .empty ∧ (p.facing ≠ none ∨ p.side ≠ none)

/-- Two pieces at one offset. -/
def Piece.sameOffset (q p : Piece) : Prop := q.dx = p.dx ∧ q.dy = p.dy

theorem pieceFault_eq (before : List Piece) (p : Piece) :
    (p.overAsks → pieceFault before p = some .emptyRequirement) ∧
      (¬p.overAsks → (∃ q ∈ before, q.sameOffset p) → pieceFault before p = some .duplicateOffset) ∧
      (¬p.overAsks → (∀ q ∈ before, ¬q.sameOffset p) → pieceFault before p = none) := by
  unfold pieceFault
  refine ⟨fun h => if_pos h, fun h twice => ?_, fun h once => ?_⟩
  · have found : (before.any fun q => decide (q.dx = p.dx ∧ q.dy = p.dy)) = true := by
      simpa [Piece.sameOffset] using twice
    rw [if_neg (show ¬(p.test = .empty ∧ _) from h), if_pos found]
  · have none : ¬(before.any fun q => decide (q.dx = p.dx ∧ q.dy = p.dy)) = true := by
      simpa [Piece.sameOffset] using once
    rw [if_neg (show ¬(p.test = .empty ∧ _) from h), if_neg none]

/-- A piece has no fault exactly when it asks for no more than it may and its offset is its own. -/
theorem pieceFault_none {before : List Piece} {p : Piece} :
    pieceFault before p = none ↔ ¬p.overAsks ∧ ∀ q ∈ before, ¬q.sameOffset p := by
  obtain ⟨asks, twice, fine⟩ := pieceFault_eq before p
  constructor
  · intro h
    have modest : ¬p.overAsks := fun o => by simp [asks o] at h
    refine ⟨modest, fun q hq same => ?_⟩
    simp [twice modest ⟨q, hq, same⟩] at h
  · exact fun ⟨modest, once⟩ => fine modest once

/-- The later pieces have no fault exactly when none asks too much and no offset is taken twice. -/
theorem laterFault_none : ∀ (l before : List Piece) (i : Nat),
    laterFault i before l = none ↔
      (∀ p ∈ l, ¬p.overAsks) ∧ (∀ p ∈ l, ∀ q ∈ before, ¬q.sameOffset p) ∧ l.Pairwise fun q p => ¬q.sameOffset p
  | [], before, i => by simp [laterFault]
  | p :: l, before, i => by
    rw [laterFault]
    cases fault : pieceFault before p with
    | some f =>
      refine ⟨nofun, ?_⟩
      rintro ⟨modest, once, -⟩
      have fine := pieceFault_none.2 ⟨modest p (by simp), once p (by simp)⟩
      rw [fault] at fine
      cases fine
    | none =>
      obtain ⟨modest, once⟩ := pieceFault_none.1 fault
      dsimp only
      rw [laterFault_none l (before ++ [p]) (i + 1)]
      simp only [List.mem_cons, List.mem_append, List.not_mem_nil, or_false, List.pairwise_cons, or_imp, forall_and,
        forall_eq]
      constructor
      · rintro ⟨asks, ⟨old, new⟩, pairs⟩
        exact ⟨⟨modest, asks⟩, ⟨once, old⟩, new, pairs⟩
      · rintro ⟨⟨-, asks⟩, ⟨-, old⟩, new, pairs⟩
        exact ⟨asks, ⟨old, new⟩, pairs⟩

/-- The first of the later pieces with a fault is named. -/
theorem laterFault_at {f : DefinitionFault} {x : Piece} : ∀ (l before : List Piece) (i k : Nat), l[k]? = some x →
    (∀ j y, j < k → l[j]? = some y → pieceFault (before ++ l.take j) y = none) →
    pieceFault (before ++ l.take k) x = some f → laterFault i before l = some (f, i + k)
  | [], before, i, k, h, _, _ => by simp at h
  | p :: l, before, i, 0, h, _, fault => by
    obtain rfl : p = x := by simpa using h
    rw [List.take_zero, List.append_nil] at fault
    rw [laterFault, fault]
    rfl
  | p :: l, before, i, k + 1, h, fine, fault => by
    have first : pieceFault before p = none := by simpa using fine 0 p (by omega) rfl
    rw [laterFault, first]
    dsimp only
    have later := laterFault_at l (before ++ [p]) (i + 1) k (by simpa using h)
      (fun j y hj hy => by simpa using fine (j + 1) y (by omega) (by simpa using hy)) (by simpa using fault)
    rw [later]
    exact congrArg (fun n => some (f, n)) (by omega)

/-- A pattern's first fault, with its first piece told apart (R77). -/
theorem inconsistency_cons {d : Pattern} {first : Piece} {rest : List Piece} (pieces : d.pieces = first :: rest) :
    d.inconsistency =
      match anchorFault d.rotation first with
      | some f => some (f, 0)
      | none => laterFault 1 [first] rest := by
  unfold Pattern.inconsistency
  rw [pieces] <;> rfl

/-- The faults of piece 0 in their order (R77). -/
theorem anchorFault_eq (r : Rotation) (p : Piece) :
    let central : Prop := p.dx = 0 ∧ p.dy = 0
    let turns : Prop := r = .turning ∧ p.facing ≠ none ∧ p.facing ≠ some 0
    (¬central → anchorFault r p = some .anchorOffset) ∧
      (central → p.test = .empty → anchorFault r p = some .anchorEmpty) ∧
      (central → p.test ≠ .empty → turns → anchorFault r p = some .anchorFacing) ∧
      (central → p.test ≠ .empty → ¬turns → anchorFault r p = none) := by
  intro central turns
  have off : (p.dx ≠ 0 ∨ p.dy ≠ 0) ↔ ¬central := by dsimp only [central]; omega
  unfold anchorFault
  refine ⟨fun h => if_pos (off.2 h), fun h empty => ?_, fun h tile turning => ?_, fun h tile still => ?_⟩
  all_goals rw [if_neg fun o => off.1 o h]
  · rw [if_pos empty]
  · rw [if_neg tile, if_pos turning]
  · rw [if_neg tile, if_neg still]

/-- A pattern is consistent exactly when R77's table finds nothing. -/
theorem inconsistency_none {d : Pattern} {first : Piece} {rest : List Piece} (pieces : d.pieces = first :: rest) :
    d.inconsistency = none ↔
      first.dx = 0 ∧ first.dy = 0 ∧ first.test ≠ .empty ∧
        (d.rotation = .turning → first.facing = none ∨ first.facing = some 0) ∧
        (∀ p ∈ d.pieces, p.test = .empty → p.facing = none ∧ p.side = none) ∧
        d.pieces.Pairwise fun p q => p.dx ≠ q.dx ∨ p.dy ≠ q.dy := by
  have modest : ∀ p : Piece, ¬p.overAsks ↔ (p.test = .empty → p.facing = none ∧ p.side = none) := fun p => by
    unfold Piece.overAsks
    grind
  have apart : ∀ p q : Piece, ¬q.sameOffset p ↔ (q.dx ≠ p.dx ∨ q.dy ≠ p.dy) := fun p q => by
    unfold Piece.sameOffset
    omega
  obtain ⟨away, empty, turning, fine⟩ := anchorFault_eq d.rotation first
  rw [inconsistency_cons pieces, pieces]
  constructor
  · intro h
    have central : first.dx = 0 ∧ first.dy = 0 := by
      by_contra o
      simp [away o] at h
    have tile : first.test ≠ .empty := fun e => by simp [empty central e] at h
    have still : ¬(d.rotation = .turning ∧ first.facing ≠ none ∧ first.facing ≠ some 0) := fun t => by
      simp [turning central tile t] at h
    rw [fine central tile still] at h
    obtain ⟨asks, twice, pairs⟩ := (laterFault_none rest [first] 1).1 h
    refine ⟨central.1, central.2, tile, fun r => ?_, fun p hp => ?_, ?_⟩
    · by_contra o
      exact still ⟨r, fun e => o (.inl e), fun e => o (.inr e)⟩
    · rcases List.mem_cons.1 hp with rfl | hp
      · exact fun e => absurd e tile
      · exact (modest p).1 (asks p hp)
    · simp only [apart, List.mem_singleton, forall_eq] at twice pairs
      exact List.pairwise_cons.2 ⟨twice, pairs⟩
  · rintro ⟨x, y, tile, still, asks, pairs⟩
    rw [fine ⟨x, y⟩ tile fun t => (still t.1).elim t.2.1 t.2.2]
    obtain ⟨twice, pairs⟩ := List.pairwise_cons.1 pairs
    refine (laterFault_none rest [first] 1).2 ⟨fun p hp => (modest p).2 (asks p (by simp [hp])), ?_, ?_⟩
    · simpa only [apart, List.mem_singleton, forall_eq] using twice
    · simpa only [apart] using pairs

/-! ### The request -/

/-- The first piece with a fault, where piece 0 has none of its own. -/
theorem inconsistency_at {d : Pattern} {first : Piece} {rest : List Piece} {i : Nat} {x : Piece} {f : DefinitionFault}
    (pieces : d.pieces = first :: rest) (fine : anchorFault d.rotation first = none) (later : 0 < i)
    (here : d.pieces[i]? = some x) (earlier : ∀ j y, 0 < j → j < i → d.pieces[j]? = some y → pieceFault (d.pieces.take j) y = none)
    (fault : pieceFault (d.pieces.take i) x = some f) : d.inconsistency = some (f, i) := by
  obtain ⟨k, rfl⟩ : ∃ k, i = k + 1 := ⟨i - 1, by omega⟩
  rw [inconsistency_cons pieces, fine]
  rw [pieces] at here earlier fault
  dsimp only
  rw [laterFault_at rest [first] 1 k (by simpa using here)
    (fun j y hj hy => by simpa using earlier (j + 1) y (by omega) (by omega) (by simpa using hy)) (by simpa using fault)]
  exact congrArg (fun n => some (f, n)) (by omega)

/-- An earlier piece at the offset of piece `i`. -/
theorem repeats_iff {l : List Piece} {i : Nat} {x : Piece} :
    (∃ q ∈ l.take i, q.sameOffset x) ↔ ∃ j y, j < i ∧ l[j]? = some y ∧ y.dx = x.dx ∧ y.dy = x.dy := by
  constructor
  · rintro ⟨q, hq, same⟩
    obtain ⟨j, hj⟩ := List.mem_iff_getElem?.1 hq
    rw [List.getElem?_take] at hj
    split at hj
    case isTrue within => exact ⟨j, q, within, hj, same⟩
    case isFalse => cases hj
  · rintro ⟨j, y, within, hj, same⟩
    exact ⟨y, List.mem_iff_getElem?.2 ⟨j, by rw [List.getElem?_take, if_pos within, hj]⟩, same⟩

/-- A header out of range (R76). -/
theorem definePattern_header {pattern n rotation anchor ax ay : Byte} (pieces : Table 6 PieceBytes)
    (bad : 31 < pattern.toNat ∨ n = 0 ∨ 6 < n.toNat ∨ 2 < rotation.toNat ∨ 1 < anchor.toNat ∨
      (anchor = 1 ∧ (15 < ax.toNat ∨ 15 < ay.toNat))) :
    takeDefinePattern pattern n rotation anchor ax ay pieces s = faulty s .fieldRange 0 := by
  unfold takeDefinePattern
  split
  case h_2 => rfl
  case h_1 p r a hp hr ha =>
    refine if_pos ?_
    have pattern_ok := below_eq_some.1 hp
    rcases bad with high | rfl | high | high | high | ⟨rfl, high⟩
    · omega
    · exact .inl rfl
    · exact .inr high
    · unfold rotationOf at hr
      split at hr <;> first | omega | cases hr
    · unfold anchorOf at ha
      split at ha <;> first | omega | cases ha
    · have none : anchorOf 1 ax ay = none := by
        show (match below 16 ax, below 16 ay with | some x, some y => some (some (Pos.mk x y)) | _, _ => none) = none
        rcases high with high | high
        · rw [below_eq_none (by omega)]
        · cases below 16 ax <;> rw [below_eq_none (n := 16) (by omega)]
      rw [none] at ha
      cases ha

/-- A header in range: the pieces are read and judged (R76, R77). -/
theorem definePattern_read {n rotation anchor ax ay : Byte} (pieces : Table 6 PieceBytes) (p : Fin 32) {d : Pattern}
    (low : 1 ≤ n.toNat) (high : n.toNat ≤ 6) (mode : d.rotation.code = rotation)
    (place : anchor = 0 ∧ d.anchor = none ∨
      ∃ b : Pos, anchor = 1 ∧ ax = byte b.x.val ∧ ay = byte b.y.val ∧ d.anchor = some b) :
    takeDefinePattern (byte p.val) n rotation anchor ax ay pieces s =
      match readPieces 0 (pieces.toList.take n.toNat) with
      | .error i => faulty s .fieldRange i
      | .ok ps =>
        let e : Pattern := { rotation := d.rotation, anchor := d.anchor, pieces := ps }
        match e.inconsistency with
        | some (f, i) => faulty s f i
        | none => s.changePattern p (some e) := by
  have rotates : rotationOf rotation = some d.rotation := by
    subst mode
    cases d.rotation <;> rfl
  have anchored : anchorOf anchor ax ay = some d.anchor := by
    rcases place with ⟨rfl, free⟩ | ⟨b, rfl, rfl, rfl, fixed⟩
    · rw [free]; rfl
    · show (match below 16 (byte b.x.val), below 16 (byte b.y.val) with | some x, some y => some (some (Pos.mk x y)) | _, _ => none) = _
      rw [below_byte_of_le (by decide), below_byte_of_le (by decide), fixed]
  rw [takeDefinePattern, below_byte_of_le (by decide), rotates, anchored]
  dsimp only
  rw [if_neg (by omega)] <;> rfl

end Sys2Proof.Machine

open Sys2Proof Sys2Proof.Machine

/-- Settles O36: the header, the pieces read, the faults in their order and the record replaced; what is consistent; what a piece's bytes spell. -/
theorem definePatternChecksThenReplaces : Obligations.DefinePatternChecksThenReplaces := by
  refine ⟨fun pattern n rotation anchor ax ay pieces p d q s listening => ?_, fun d first rest => inconsistency_none, fun b p => ?_⟩
  · intro send faulty used
    have answered : ∀ {a code : Byte} {f : DefinitionFault} {place : Nat}, f.code = code →
        takeDefinePattern a n rotation anchor ax ay pieces s.reportActivity = Machine.faulty s.reportActivity f place →
        faulty a code place := by
      rintro a code f place rfl h
      exact exec_answered (takeDefinePattern a n rotation anchor ax ay pieces) rfl listening h
    refine ⟨fun bad => answered (f := .fieldRange) rfl (definePattern_header pieces bad), fun low high mode place => ?_⟩
    have read := definePattern_read (s := s.reportActivity) pieces p low high mode place
    refine ⟨fun i b here bad before => ?_, fun inRange => ?_⟩
    · refine answered (f := .fieldRange) rfl ?_
      rw [read, readPieces_error bad _ i 0 here before, Nat.zero_add]
    · rw [readPieces_ok _ _ 0 inRange] at read
      have judged : ∀ {f i}, d.inconsistency = some (f, i) → faulty (byte p.val) f.code i := fun fault => by
        refine answered rfl (read.trans ?_)
        dsimp only
        rw [fault]
      refine ⟨fun f i => judged, fun first rest all => ?_, fun consistent => ⟨fun inUse => ?_, fun free => ?_⟩⟩
      · intro central turns requires repeats
        obtain ⟨away, empty, turning, fine⟩ := anchorFault_eq d.rotation first
        have zero : ∀ {f}, anchorFault d.rotation first = some f → d.inconsistency = some (f, 0) := fun h => by
          rw [inconsistency_cons all, h]
        refine ⟨fun h => judged (zero (away h)), fun h e => judged (zero (empty h e)),
          fun h tile t => judged (zero (turning h tile t)), fun h tile still i x here before => ?_⟩
        have noneBefore : ∀ j y, 0 < j → j < i → d.pieces[j]? = some y → pieceFault (d.pieces.take j) y = none :=
          fun j y _ hj hy => by
            obtain ⟨modest, once⟩ := before j y hj hy
            exact pieceFault_none.2 ⟨modest, fun q hq same => once (repeats_iff.1 ⟨q, hq, same⟩)⟩
        obtain ⟨asks, twice, -⟩ := pieceFault_eq (d.pieces.take i) x
        have ordinary := fine h tile still
        refine ⟨fun o => ?_, fun modest again => ?_⟩
        · have later : 0 < i := by
            rcases Nat.eq_zero_or_pos i with rfl | later
            · rw [all] at here
              obtain rfl : first = x := by simpa using here
              exact absurd o.1 tile
            · exact later
          exact judged (inconsistency_at all ordinary later here noneBefore (asks o))
        · have later : 0 < i := by
            obtain ⟨j, -, hj, -⟩ := again
            omega
          exact judged (inconsistency_at all ordinary later here noneBefore (twice modest (repeats_iff.2 again)))
      · have used' : s.reportActivity.usedBy p = some q := by rw [usedBy_heard, inUse]
        refine exec_answered (takeDefinePattern _ n rotation anchor ax ay pieces) rfl listening (read.trans ?_)
        dsimp only
        rw [consistent]
        exact changePattern_used used' _
      · have unused : s.reportActivity.usedBy p = none := by rw [usedBy_heard, free]
        refine exec_answered (takeDefinePattern _ n rotation anchor ax ay pieces) rfl listening (read.trans ?_)
        dsimp only
        rw [consistent]
        refine (changePattern_free unused _).trans ?_
        simp only [State.setPattern, reportActivity_frame]
        rfl
  · rw [pieceOf_eq_some, offsetOf_eq_some, offsetOf_eq_some, pieceTestOf_eq_some, facingTestOf_eq_some, sideTestOf_eq_some] <;>
      rfl

end

section
/-!
DEFINE_QUEST and ERASE_QUEST: stage records read field by field (R107, R109), the first fault, and the records they leave (R110, R111).
-/

namespace Sys2Proof.Machine

open Sys2Proof

variable {s : State}

/-! ### The fields of a stage (R107) -/

theorem within_eq_some {lo hi v w : Nat} : within lo hi v = some w ↔ v = w ∧ lo ≤ w ∧ w ≤ hi := by
  unfold within
  split
  case isTrue h => rw [Option.some.injEq]; omega
  case isFalse h => exact ⟨nofun, by rintro ⟨rfl, low, high⟩; exact absurd ⟨low, high⟩ h⟩

/-- A byte within bounds is the byte of a number within them. -/
theorem within_byte {lo hi m : Nat} {b : Byte} (small : hi < 256) :
    within lo hi b.toNat = some m ↔ b = byte m ∧ lo ≤ m ∧ m ≤ hi := by
  rw [within_eq_some]
  constructor
  · rintro ⟨v, low, high⟩
    exact ⟨(byte_eq_iff (by omega)).2 v, low, high⟩
  · rintro ⟨v, low, high⟩
    exact ⟨(byte_eq_iff (by omega)).1 v, low, high⟩

/-- A byte reads as a number below a bound exactly when it is that number's byte. -/
theorem below_iff_byte {n : Nat} (small : n ≤ 256) {b : Byte} {i : Fin n} : below n b = some i ↔ b = byte i.val := by
  rw [below_eq_some, byte_eq_iff (by omega)]

theorem tileTestOf_eq_some {b : Byte} {k : TileTest} : tileTestOf b = some k ↔ b = k.code := by
  have read : tileTestOf b = some k ↔ pieceTestOf b = some (.tile k) := by
    unfold tileTestOf
    split
    case h_1 t h => simp [h]
    case h_2 none => exact ⟨nofun, fun h => (none _ h).elim⟩
  rw [read, pieceTestOf_eq_some]
  cases k <;> rfl

theorem stageTestOf_eq_some {b : StageBytes} {t : StageTest} :
    stageTestOf b = some t ↔
      match t with
      | .form p m => b.kind = 0 ∧ b.pattern = byte p.val ∧ b.m = byte m ∧ 1 ≤ m ∧ m ≤ 8
      | .hold p m d =>
        b.kind = 1 ∧ b.pattern = byte p.val ∧ b.m = byte m ∧ 1 ≤ m ∧ m ≤ 8 ∧ b.d.toNat = d ∧ 1 ≤ d ∧ d ≤ 2400
      | .collect k m => b.kind = 2 ∧ b.kindTest = k.code ∧ b.m = byte m ∧ 1 ≤ m ∧ m ≤ 32
      | .clear k m => b.kind = 3 ∧ b.kindTest = k.code ∧ b.m = byte m ∧ m ≤ 32 := by
  unfold stageTestOf
  split
  case h_1 k =>
    have kind : b.kind = 0 := BitVec.eq_of_toNat_eq k
    cases t
    case form p m =>
      simp only [kind, true_and]
      rw [← below_iff_byte (by decide), ← within_byte (by decide)]
      cases below 32 b.pattern <;> cases within 1 8 b.m.toNat <;> simp
    all_goals cases below 32 b.pattern <;> cases within 1 8 b.m.toNat <;> simp [kind]
  case h_2 k =>
    have kind : b.kind = 1 := BitVec.eq_of_toNat_eq k
    cases t
    case hold p m d =>
      simp only [kind, true_and]
      rw [← below_iff_byte (by decide), ← within_eq_some, ← and_assoc (a := 1 ≤ m), ← and_assoc (a := b.m = byte m),
        ← within_byte (by decide)]
      cases below 32 b.pattern <;> cases within 1 8 b.m.toNat <;> cases within 1 2400 b.d.toNat <;> simp
    all_goals cases below 32 b.pattern <;> cases within 1 8 b.m.toNat <;> cases within 1 2400 b.d.toNat <;> simp [kind]
  case h_3 k =>
    have kind : b.kind = 2 := BitVec.eq_of_toNat_eq k
    cases t
    case collect k m =>
      simp only [kind, true_and]
      rw [← tileTestOf_eq_some, ← within_byte (by decide)]
      cases tileTestOf b.kindTest <;> cases within 1 32 b.m.toNat <;> simp
    all_goals cases tileTestOf b.kindTest <;> cases within 1 32 b.m.toNat <;> simp [kind]
  case h_4 k =>
    have kind : b.kind = 3 := BitVec.eq_of_toNat_eq k
    cases t
    case clear k m =>
      have least : b.m = byte m ∧ m ≤ 32 ↔ within 0 32 b.m.toNat = some m := by
        rw [within_byte (by decide)]
        simp
      simp only [kind, true_and]
      rw [← tileTestOf_eq_some, least]
      cases tileTestOf b.kindTest <;> cases within 0 32 b.m.toNat <;> simp
    all_goals cases tileTestOf b.kindTest <;> cases within 0 32 b.m.toNat <;> simp [kind]
  case h_5 h0 h1 h2 h3 =>
    cases t
    · exact ⟨nofun, fun h => (h0 (congrArg BitVec.toNat h.1)).elim⟩
    · exact ⟨nofun, fun h => (h1 (congrArg BitVec.toNat h.1)).elim⟩
    · exact ⟨nofun, fun h => (h2 (congrArg BitVec.toNat h.1)).elim⟩
    · exact ⟨nofun, fun h => (h3 (congrArg BitVec.toNat h.1)).elim⟩

theorem readFilter_ok {o : Player} {b : Byte} {f : StageFilter} :
    readFilter o b = .ok f ↔ b = f.code ∧ (o = 0 → f = .any) := by
  have read : stageFilterOf b = some f ↔ b = f.code := by
    rw [← BitVec.toNat_inj]
    unfold stageFilterOf
    split
    case h_1 h => rw [h]; cases f <;> simp [StageFilter.code]
    case h_2 h => rw [h]; cases f <;> simp [StageFilter.code]
    case h_3 h => rw [h]; cases f <;> simp [StageFilter.code]
    case h_4 h0 h1 h2 =>
      cases f
      · exact ⟨nofun, fun e => (h0 e).elim⟩
      · exact ⟨nofun, fun e => (h1 e).elim⟩
      · exact ⟨nofun, fun e => (h2 e).elim⟩
  rw [← read]
  unfold readFilter
  cases stageFilterOf b with
  | none => simp
  | some g =>
    dsimp only
    split
    case isTrue h =>
      refine ⟨nofun, ?_⟩
      rintro ⟨e, any⟩
      exact absurd (Option.some.inj e ▸ any h.1) h.2
    case isFalse h =>
      simp only [Except.ok.injEq, Option.some.injEq, iff_self_and]
      rintro rfl zero
      by_contra other
      exact h ⟨zero, other⟩

theorem readHint_ok {b : StageBytes} {r : Option Region} :
    readHint b = .ok r ↔
      match r with
      | none => b.x0 = 0xFF
      | some g =>
        b.x0 = byte g.x0.val ∧ b.y0 = byte g.y0.val ∧ b.x1 = byte g.x1.val ∧ b.y1 = byte g.y1.val ∧ g.x0 ≤ g.x1 ∧ g.y0 ≤ g.y1 := by
  unfold readHint
  split
  case isTrue absent =>
    cases r with
    | none => simp [absent]
    | some g =>
      refine ⟨nofun, ?_⟩
      rintro ⟨x0, -⟩
      have := (byte_eq_iff (b := b.x0) (n := g.x0.val) (by omega)).1 x0
      rw [absent] at this
      simp at this
      omega
  case isFalse present =>
    cases r with
    | none =>
      refine ⟨fun h => ?_, fun absent => absurd absent present⟩
      split at h
      · split at h <;> cases h
      · cases h
    | some g =>
      obtain ⟨x0, y0, x1, y1⟩ := g
      simp only [← below_iff_byte (show 16 ≤ 256 by decide)]
      split
      case h_1 a b' c d ha hb hc hd =>
        simp only [ha, hb, hc, hd, Option.some.injEq]
        split
        case isTrue order =>
          simp only [Except.ok.injEq, Option.some.injEq, Region.mk.injEq]
          constructor
          · rintro ⟨rfl, rfl, rfl, rfl⟩
            exact ⟨rfl, rfl, rfl, rfl, order⟩
          · rintro ⟨rfl, rfl, rfl, rfl, -⟩
            exact ⟨rfl, rfl, rfl, rfl⟩
        case isFalse wrong =>
          refine ⟨nofun, ?_⟩
          rintro ⟨rfl, rfl, rfl, rfl, order⟩
          exact absurd order wrong
      case h_2 none =>
        exact ⟨nofun, fun ⟨ha, hb, hc, hd, _⟩ => (none _ _ _ _ ha hb hc hd).elim⟩

theorem cueOf_eq_some {b : Byte} {c : Option (Fin 16)} :
    cueOf b = some c ↔ match c with | none => b = 0xFF | some c => b = byte c.val := by
  unfold cueOf
  cases c with
  | none =>
    split
    case isTrue h => simp [h]
    case isFalse h => exact ⟨by cases below 16 b <;> simp, fun e => absurd e h⟩
  | some c =>
    dsimp only
    rw [← below_iff_byte (by decide)]
    split
    case isTrue h =>
      subst h
      simp [below]
    case isFalse h =>
      rw [Option.map_eq_some_iff]
      simp

/-- A stage record is read field by field. -/
theorem readStage_ok {o : Player} {b : StageBytes} {st : Stage} :
    readStage o b = .ok st ↔
      stageTestOf b = some st.test ∧ readFilter o b.filter = .ok st.filter ∧ within 0 250 b.reward.toNat = some st.reward ∧
        within 0 4800 b.limit.toNat = some st.limit ∧ readHint b = .ok st.hint ∧ cueOf b.cue = some st.cue := by
  obtain ⟨test, filter, reward, limit, hint, cue⟩ := st
  unfold readStage ranged
  cases stageTestOf b <;> cases readFilter o b.filter <;> cases within 0 250 b.reward.toNat <;>
    cases within 0 4800 b.limit.toNat <;> cases readHint b <;> cases cueOf b.cue <;>
    simp [bind, Except.bind, pure, Except.pure]

/-! ### The stages in use -/

/-- The first stage record with a fault is named (R109). -/
theorem readStages_error {o : Player} {b : StageBytes} {f : DefinitionFault} (bad : readStage o b = .error f) :
    ∀ (l : List StageBytes) (i k : Nat), l[i]? = some b →
      (∀ j b', j < i → l[j]? = some b' → ∃ st, readStage o b' = .ok st) → readStages o k l = .error (f, k + i)
  | [], i, k, h, _ => by simp at h
  | c :: l, 0, k, h, _ => by
    obtain rfl : c = b := by simpa using h
    rw [readStages, bad]
    rfl
  | c :: l, i + 1, k, h, before => by
    obtain ⟨st, first⟩ := before 0 c (by omega) rfl
    rw [readStages, first]
    dsimp only
    rw [readStages_error bad l i (k + 1) (by simpa using h) fun j b' hj hb => before (j + 1) b' (by omega) (by simpa using hb)]
    exact congrArg (fun n => Except.error (f, n)) (by omega)

/-- Stage records without a fault are read as their stages. -/
theorem readStages_ok {o : Player} :
    ∀ (l : List StageBytes) (sts : List Stage) (k : Nat), l.map (readStage o) = sts.map .ok → readStages o k l = .ok sts
  | [], sts, k, h => by
    obtain rfl : sts = [] := by simpa using h.symm
    rfl
  | b :: l, sts, k, h => by
    cases sts with
    | nil => cases h
    | cons st sts =>
      simp only [List.map_cons, List.cons.injEq] at h
      rw [readStages, h.1]
      dsimp only
      rw [readStages_ok l sts (k + 1) h.2]

/-! ### The requests -/

/-- DEFINE_QUEST with a header out of range (R109). -/
theorem defineQuest_header {a owner count : Byte} (stages : Table 4 StageBytes)
    (bad : 23 < a.toNat ∨ 4 < owner.toNat ∨ count = 0 ∨ 4 < count.toNat) :
    takeDefineQuest a owner count stages s = faulty s .fieldRange 0 := by
  unfold takeDefineQuest
  split
  case h_1 => rfl
  case h_2 q hq =>
    split
    case h_1 => rfl
    case h_2 o ho =>
      have quest := below_eq_some.1 hq
      have player := below_eq_some.1 ho
      refine if_pos ?_
      rcases bad with high | high | rfl | high
      · omega
      · omega
      · exact .inl rfl
      · exact .inr high

/-- DEFINE_QUEST with a header in range reads its stages (R109, R110). -/
theorem defineQuest_read {count : Byte} (stages : Table 4 StageBytes) (q : QuestId) (o : Player) (low : 1 ≤ count.toNat)
    (high : count.toNat ≤ 4) :
    takeDefineQuest (byte q.val) (byte o.val) count stages s =
      match readStages o 0 (stages.toList.take count.toNat) with
      | .error (f, j) => faulty s f j
      | .ok sts =>
        if (s.quest q).inPlay then refused s .inPlay [(s.quest q).state.code]
        else
          success (s.setQuest q { state := .dormant, owner := o, stages := sts, progress := Progress.fresh })
            [(s.quest q).state.code] := by
  rw [takeDefineQuest, below_byte_of_le (by decide), below_byte_of_le (by decide)]
  dsimp only
  rw [if_neg (by omega)] <;> rfl

/-- A quest is in the evaluated set of another state if the pass is that one's. -/
theorem inSet_congr {t : State} (h : t.quests.pass = s.quests.pass) (q : QuestId) : t.inSet q = s.inSet q := by
  unfold State.inSet
  rw [h]

/-- A quest that leaves the evaluated set is no longer in it, and no other quest leaves (R111). -/
theorem inSet_leaveSet (q k : QuestId) : (s.leaveSet q).inSet k = (s.inSet k && decide (k ≠ q)) := by
  unfold State.inSet State.leaveSet
  cases s.quests.pass with
  | none => rfl
  | some p =>
    simp only [Option.map_some, List.any_filter]
    by_cases same : k = q
    · subst same
      simp
    · simp only [same, ne_eq, not_false_eq_true, decide_true, Bool.and_true]
      congr 1
      funext e
      by_cases h : e.1 = k <;> simp [h, same]

end Sys2Proof.Machine

open Sys2Proof Sys2Proof.Machine

/-- Settles O39: the header, the stages read, the two refusals, and what a stage's bytes spell. -/
theorem defineAndEraseQuests : Obligations.DefineAndEraseQuests := by
  refine ⟨fun a owner count stages q o sts s listening => ?_, fun o b st => ?_⟩
  · intro r send used
    have playing : r.inPlay = true ↔ r.state = .running ∨ r.state = .paused := by simp [Quest.inPlay]
    have heard : s.reportActivity.quest q = r := by simp [r]
    refine ⟨fun bad => ?_, fun high => ?_, fun low high => ?_, fun running => ?_, fun idle => ?_⟩
    · exact exec_answered (takeDefineQuest a owner count stages) rfl listening (defineQuest_header stages bad)
    · exact exec_badValue (block := takeEraseQuest a) rfl listening (by rw [takeEraseQuest, below_eq_none (by omega)])
    · have read := defineQuest_read (s := s.reportActivity) stages q o low high
      refine ⟨fun i b f here bad before => ?_, fun fine => ⟨fun inPlay => ?_, fun notRunning notPaused => ?_⟩⟩
      · refine exec_answered (takeDefineQuest _ _ count stages) rfl listening (read.trans ?_)
        rw [readStages_error bad _ i 0 here before, Nat.zero_add]
        rfl
      · refine exec_answered (takeDefineQuest _ _ count stages) rfl listening (read.trans ?_)
        rw [readStages_ok _ _ 0 fine]
        dsimp only
        rw [heard, if_pos (playing.2 inPlay)]
        rfl
      · refine exec_answered (takeDefineQuest _ _ count stages) rfl listening (read.trans ?_)
        rw [readStages_ok _ _ 0 fine]
        dsimp only
        rw [heard, if_neg fun p => (playing.1 p).elim notRunning notPaused]
        rfl
    · refine exec_answered (takeEraseQuest (byte q.val)) rfl listening ?_
      rw [takeEraseQuest, below_byte_of_le (by decide)]
      dsimp only
      rw [heard, if_pos running, running]
      rfl
    · refine ⟨(s.reportActivity.setQuest q Quest.blank).leaveSet q, exec_answered (takeEraseQuest (byte q.val)) rfl listening ?_,
        ?_, ?_, fun k other => ?_, ?_, ?_, fun k other => ?_, rfl, ?_⟩
      · rw [takeEraseQuest, below_byte_of_le (by decide)]
        dsimp only
        rw [heard, if_neg idle]
        rfl
      · rw [leaveSet_quest, setQuest_quest_same]
        rfl
      · rw [leaveSet_quest, setQuest_quest_same]
        rfl
      · rw [leaveSet_quest, setQuest_quest_ne _ _ other]
        simp
      · rw [leaveSet_passWanted, setQuest_passWanted]
        simp
      · rw [inSet_leaveSet]
        simp
      · rw [inSet_leaveSet, inSet_congr (s := s) (by simp)]
        simp [other]
      · intro k changed
        cases k <;> simp_all [Component.same, State.leaveSet, State.setQuest]
  · rw [readStage_ok, stageTestOf_eq_some, readFilter_ok, within_byte (by decide), within_eq_some, readHint_ok, cueOf_eq_some]
    simp only [Nat.zero_le, true_and, and_assoc] <;> cases st.test <;> cases st.hint <;> cases st.cue <;> rfl

end

section
/-!
The guard evaluated alone: SET_LOAD_LIMIT, and the end of the guard's settle; with it the end of start-up (R138 to R141, R168).
-/

namespace Sys2Proof.Machine

open Sys2Proof

variable {s : State}

/-! ### A move of the guard -/

/-- A move of the guard marks stale the lanes whose drives it changes, and writes no more of a lane (R136). -/
theorem guardTo_lane_marked (g : Guard) (n : Lane) :
    (s.guardTo g).lane n =
      { s.lane n with stale := (s.lane n).stale || decide (s.laneDrive n ≠ (s.guardTo g).laneDrive n) } := by
  obtain ⟨b, lane⟩ := guardTo_lane s g n
  rw [← guardTo_stale, lane]

/-- A move of the guard is a step at the lamps. -/
theorem guardTo_lampStep (g : Guard) : s.lampStep (s.guardTo g) :=
  ⟨fun n => ⟨_, guardTo_lane_marked g n, decide_eq_true, fun _ => rfl⟩, fun still => by rw [guardTo_unmoved still]⟩

/-- A move of the guard makes its notice into and out of HOLDING, and no other (R140). -/
theorem guardTo_notices (g : Guard) :
    (s.guardTo g).notices =
      if guardNotice s.lamps.guard g then (s.notify (.guard s.lamps.guard g s.ln s.ld s.lamps.limit)).notices
      else s.notices := by
  unfold State.guardTo
  dsimp only
  split
  case isTrue same =>
    rw [same, if_neg]
    cases s.lamps.guard <;> decide
  case isFalse =>
    split
    · exact notify_notices_congr _ (by simp) (by simp) (by simp)
    · simp

/-- A step at the lamps, taken from a state with the same lanes, drives, guard and notices. -/
theorem lampStep_from {w u : State} (lanes : w.lanes = s.lanes) (drives : ∀ n, w.laneDrive n = s.laneDrive n)
    (guard : w.lamps.guard = s.lamps.guard) (notices : w.notices = s.notices) (h : w.lampStep u) : s.lampStep u := by
  have lane : ∀ n, w.lane n = s.lane n := fun n => by rw [State.lane, lanes]; rfl
  unfold State.lampStep at h ⊢
  simpa only [lane, drives, guard, notices] using h

/-- The end of an event leaves the drives as they are. -/
theorem finish_laneDrive (n : Lane) : s.finish.laneDrive n = s.laneDrive n :=
  laneDrive_congr (by simp) (by simp) (by simp) (by simp)

/-! ### SET_LOAD_LIMIT (R141) -/

/-- The load limit replaced, after the start byte of the request was reported as activity. -/
def State.limited (s : State) (l : Nat) : State :=
  { s.reportActivity with lamps := { s.lamps with limit := l } }

/-- The loads do not depend on the limit, nor on a report of activity. -/
theorem limited_loadSum (l top : Nat) : (s.limited l).loadSum top = s.loadSum top := by
  obtain ⟨r, heard, part⟩ := reportActivity_heard s
  unfold State.limited
  rw [heard]
  exact loadSum_heard part top

/-- The drives do not depend on the limit, nor on a report of activity. -/
theorem limited_laneDrive (l : Nat) (n : Lane) : (s.limited l).laneDrive n = s.laneDrive n := by
  obtain ⟨r, heard, part⟩ := reportActivity_heard s
  unfold State.limited State.laneDrive
  rw [heard]
  exact congrArg Vector.ofFn (funext fun i => drive_heard part ⟨n, i⟩)

/-- What SET_LOAD_LIMIT leaves before the end of its event (R141). -/
def State.relimited (s : State) (l : Nat) : State := (s.limited l).evalGuard

/-- The lamps after SET_LOAD_LIMIT: the limit, and the guard evaluated once with it. -/
theorem relimited_lamps (l : Nat) :
    (s.relimited l).lamps = { s.lamps with limit := l, guard := guardNext s.lamps.guard s.ln s.ld l } := by
  unfold State.relimited
  rw [evalGuard_lamps, State.ln, State.ld, limited_loadSum, limited_loadSum]
  rfl

/-- SET_LOAD_LIMIT is a step at the lamps. -/
theorem relimited_lampStep (l : Nat) : s.lampStep (s.relimited l) :=
  lampStep_from (w := s.limited l) (by simp [State.limited]) (limited_laneDrive l) rfl (by simp [State.limited])
    (guardTo_lampStep _)

/-- SET_LOAD_LIMIT makes a notice where the guard goes into or out of HOLDING (R140). -/
theorem relimited_notices (l : Nat) :
    let h := (s.relimited l).lamps.guard
    (s.relimited l).notices =
      if guardNotice s.lamps.guard h then (s.notify (.guard s.lamps.guard h s.ln s.ld l)).notices else s.notices := by
  have ln : (s.limited l).ln = s.ln := limited_loadSum l 2
  have ld : (s.limited l).ld = s.ld := limited_loadSum l 1
  dsimp only
  rw [relimited_lamps, State.relimited, State.evalGuard, guardTo_notices, ln, ld]
  have still : (s.limited l).notices = s.notices := by simp [State.limited]
  have told := notify_notices_congr (.guard s.lamps.guard (guardNext s.lamps.guard s.ln s.ld l) s.ln s.ld l) still
    (by simp [State.limited]) (by simp [State.limited])
  exact congrArg₂ (ite _) told still

/-- The guard evaluated makes a notice exactly when it moves into or out of HOLDING (R138, R140). -/
theorem guardNotice_guardNext (g : Guard) (ln ld limit : Nat) :
    let h := guardNext g ln ld limit
    guardNotice g h = true ↔ g ≠ h ∧ (g = .holding ∨ h = .holding) := by
  cases g <;> dsimp only [guardNext] <;> (repeat' split) <;> decide

/-- SET_LOAD_LIMIT answers with the limit before, the limit after and the guard (R141). -/
theorem exec_setLoadLimit (limit : Byte) (listening : s.listening) :
    let l := clamp 16 200 limit.toNat
    exec (.setLoadLimit limit) s =
      .next ((s.relimited l).finish.replied 0x64 [byte s.lamps.limit, byte l, (s.relimited l).lamps.guard.code]) := by
  refine exec_answered (takeSetLoadLimit limit) rfl listening ?_
  have same : s.reportActivity.lamps = s.lamps := by simp
  unfold takeSetLoadLimit State.relimited State.limited
  dsimp only
  rw [same]
  rfl

/-! ### The end of the guard's settle (R139) -/

/-- The settle ended, before the guard is evaluated. -/
def State.settled (s : State) : State := { s with lamps := { s.lamps with settle := none } }

/-- What GUARD_SETTLE_END leaves before the end of its event: the guard moved from SETTLING to where the HOLDING rows send it. -/
theorem endSettle_eq : s.endSettle = s.settled.guardTo (guardNext .holding s.ln s.ld s.lamps.limit) := rfl

/-- A lane after GUARD_SETTLE_END, as its arbiter left it. -/
theorem endSettle_laneGoes (n : Lane) :
    s.endSettle.finish.laneGoes n
      { s.lane n with stale := (s.lane n).stale || decide (s.laneDrive n ≠ s.endSettle.finish.laneDrive n) } := by
  have drives : s.settled.laneDrive n = s.laneDrive n := rfl
  have lane := guardTo_lane_marked (s := s.settled) (guardNext .holding s.ln s.ld s.lamps.limit) n
  rw [← endSettle_eq, drives] at lane
  rw [finish_laneDrive, show s.lane n = s.settled.lane n from rfl, ← lane]
  exact finish_laneGoes _ n

/-- GUARD_SETTLE_END is a step at the lamps. -/
theorem endSettle_lampStep : s.lampStep s.endSettle :=
  lampStep_from (w := s.settled) rfl (fun _ => rfl) rfl rfl (guardTo_lampStep _)

/-- GUARD_SETTLE_END makes a notice where the guard is HOLDING now (R140). -/
theorem endSettle_notices (settling : s.lamps.guard = .settling) :
    let h := s.endSettle.lamps.guard
    s.endSettle.notices =
      if h = .holding then (s.notify (.guard .settling h s.ln s.ld s.lamps.limit)).notices else s.notices := by
  have told := guardTo_notices (s := s.settled) (guardNext .holding s.ln s.ld s.lamps.limit)
  have before : s.settled.lamps.guard = .settling := settling
  rw [before] at told
  dsimp only
  rw [endSettle_eq, told, guardTo_lamps]
  dsimp only [guardNext]
  split
  · rw [if_pos (by rfl), if_pos rfl]
    exact notify_notices_congr _ rfl rfl rfl
  · split <;> rfl

/-! ### The end of start-up (R168) -/

/-- The first notice of the opened unit. -/
theorem becomeReady_eq (closed : s.notices = NoticeUnit.reset) :
    s.becomeReady =
      { s with
        rest := { s.rest with part := .ready, startUp := none, activity := fullActivity s.rest.delay }
        notices :=
          { NoticeUnit.reset with
            opened := true, next := 1
            queue :=
              [{ seq := 0, body := .started s.rest.startReason s.connectors s.runningLanes, epoch := s.epoch
                 clock := s.play.clock }] } } := by
  unfold State.becomeReady State.notify
  dsimp only
  rw [closed, if_neg]
  · rfl
  · rintro (shut | off)
    · cases shut
    · cases off

end Sys2Proof.Machine

open Sys2Proof Sys2Proof.Machine

/-- Settles O48: the guard's next state by the rows of R138, its notice, and the step at the lamps. -/
theorem setLoadLimitEvaluatesTheGuard : Obligations.SetLoadLimitEvaluatesTheGuard := by
  intro limit s listening l g
  have clamped : clamp 16 200 limit.toNat = l := clamp_eq (by decide) _
  have step := exec_setLoadLimit limit listening
  dsimp only at step
  rw [clamped] at step
  obtain ⟨follow, alone, steady⟩ := finish_lampStep (relimited_lampStep (s := s) l)
  have finished : (s.relimited l).finish.lamps = (s.relimited l).lamps := by simp
  have lamps := relimited_lamps (s := s) l
  have told := relimited_notices (s := s) l
  have next : (s.relimited l).lamps.guard = guardNext g s.ln s.ld l := by rw [lamps]
  rw [← finished] at step
  refine ⟨(s.relimited l).finish, step, ?_⟩
  intro h
  have guard : h = guardNext g s.ln s.ld l := (congrArg LampUnit.guard finished).trans next
  refine ⟨?_, fun clear => ?_, fun dimmed => ?_, fun holding => ?_, fun settling => ?_, ?_, follow, alone, steady,
    by simp [finish_records, State.relimited, State.limited], by simp [State.relimited, State.limited], fun k changed => ?_⟩
  · rw [finished, guard, lamps]
  · rw [guard, clear]
    dsimp only [guardNext]
    grind
  · rw [guard, dimmed]
    dsimp only [guardNext]
    grind
  · rw [guard, holding]
    dsimp only [guardNext]
    grind
  · rw [guard, settling]
    rfl
  · have moved := guardNotice_guardNext g s.ln s.ld l
    dsimp only at told moved
    rw [← guard] at moved
    rw [next, ← guard] at told
    rw [show (s.relimited l).finish.notices = (s.relimited l).notices by simp, told]
    exact if_congr moved rfl rfl
  · cases k <;> simp [Component.same, State.relimited, State.limited] at changed ⊢

/-- Settles O53: the opened unit's first notice, and the guard evaluated by the HOLDING rows. -/
theorem startUpAndSettleEnd : Obligations.StartUpAndSettleEnd := by
  intro s running
  refine ⟨fun starting timed closed => ?_, fun settling timed => ?_⟩
  · rw [exec_live (fun s => if s.rest.part = .starting ∧ s.rest.startUp.isSome then s.becomeReady else s) rfl running,
      if_pos ⟨starting, timed⟩, becomeReady_eq closed]
    rfl
  · intro low
    obtain ⟨follow, -, steady⟩ := finish_lampStep (endSettle_lampStep (s := s))
    refine ⟨s.endSettle.finish, ?_, ?_⟩
    · rw [exec_live (fun s => if s.lamps.guard = .settling ∧ s.lamps.settle.isSome then s.endSettle.finish else s) rfl
        running, if_pos ⟨settling, timed⟩]
    · intro h
      have finished : s.endSettle.finish.lamps = s.endSettle.lamps := by simp
      have lamps : s.endSettle.lamps =
          { s.lamps with settle := none, guard := guardNext .holding s.ln s.ld s.lamps.limit } := guardTo_lamps ..
      have guard : h = guardNext .holding s.ln s.ld s.lamps.limit := congrArg LampUnit.guard (finished.trans lamps)
      have told := endSettle_notices settling
      dsimp only [guardNext] at guard
      refine ⟨?_, fun overLd => ?_, fun underLd overLn => ?_, fun underLd underLn => ?_, ?_, follow, endSettle_laneGoes, steady,
        by simp [finish_records], fun k changed => ?_⟩
      · rw [finished, guard, lamps]
        rfl
      · rw [guard, if_pos overLd]
      · rw [guard, if_neg (by omega), if_neg (by omega)]
      · rw [guard, if_neg (by omega), if_pos underLn]
      · rw [show s.endSettle.finish.notices = s.endSettle.notices by simp, told, ← finished]
      · cases k <;> simp [Component.same, State.endSettle] at changed ⊢
end

section
/-!
The cue queue: PLAY_CUE, STOP_CUES and the end of a cue, as steps at the lamps (R143 to R145).
-/

namespace Sys2Proof.Machine

open Sys2Proof

variable {s : State}

/-! ### Steps at the lamps in an event -/

/-- A state is alike itself. -/
theorem lampsAlike_refl : s.lampsAlike s := ⟨rfl, rfl, rfl, rfl, rfl, rfl⟩

/-- A report of activity changes nothing at the lamps. -/
theorem lampsAlike_reportActivity : s.lampsAlike s.reportActivity := by
  simp [State.lampsAlike]

/-- An event's end leaves unchanged what came before it left so, the lanes and the Quest Engine aside. -/
theorem finish_sameBut {u : State} {changed : List Component} (h : s.sameBut u changed) (lanes : .lanes ∈ changed)
    (quests : .quests ∈ changed) : s.sameBut u.finish changed := by
  intro k hk
  have same := h k hk
  cases k <;> simp_all [Component.same]

/-- A part that has not come to rest stays as it is. -/
theorem restIfDue_idle (h : s.rest.activity ≠ .expired ∨ s.lamps.sounder ≠ none) : s.restIfDue = s :=
  if_neg fun ⟨_, expired, silent⟩ => h.elim (· expired) (· silent)

/-- A report of activity restarts an expired timer (R169). -/
theorem reportActivity_notExpired (ready : s.rest.part = .ready) (due : s.rest.delay ≠ 0 ∨ s.rest.activity ≠ .expired) :
    s.reportActivity.rest.activity ≠ .expired := by
  by_cases still : s.rest.delay = 0
  case pos => simpa [State.reportActivity, still] using due.resolve_left (· still)
  case neg => simp [State.reportActivity, ready, still]

/-! ### Steps at the cue queue -/

/-- From `s` to `u` the cue queue and the sounder changed, in a step at the lamps (R143). -/
structure State.cueStep (s u : State) : Prop where
  lamps : u.lamps = { s.lamps with cues := u.lamps.cues, sounder := u.lamps.sounder, guard := u.lamps.guard }
  step : s.lampStep u
  quests : u.quests = s.quests
  same : s.sameBut u [.lamps, .notices, .lanes, .quests, .rest]

/-- What a step at the cue queue leaves at the end of its event. -/
theorem State.cueStep.finish {u : State} (h : s.cueStep u) :
    let t := u.finish
    t.lamps = { s.lamps with cues := t.lamps.cues, sounder := t.lamps.sounder, guard := t.lamps.guard } ∧
      (t.lamps.guard = s.lamps.guard → t.notices = s.notices) ∧ s.drivesFollow t ∧ s.drivesAlone t ∧ s.lanesSteady t ∧
      t.quests.records = s.quests.records ∧ s.sameBut t [.lamps, .notices, .lanes, .quests, .rest] := by
  obtain ⟨lamps, step, quests, same⟩ := h
  obtain ⟨follow, alone, steady⟩ := finish_lampStep step
  have finished : u.finish.lamps = u.lamps := by simp
  refine ⟨?_, fun still => ?_, follow, alone, steady, ?_, finish_sameBut same (by simp) (by simp)⟩
  · rw [finished]
    exact lamps
  · rw [finished] at still
    exact (by simp : u.finish.notices = u.notices).trans (step.2 still)
  · rw [finish_records, quests]

/-- A step at the cue queue between states that differ in a report of activity. -/
theorem State.cueStep.heard {u : State} (h : s.reportActivity.cueStep u) : s.cueStep u := by
  obtain ⟨lamps, step, quests, same⟩ := h
  refine ⟨by simpa using lamps, lampStep_congr lampsAlike_reportActivity lampsAlike_refl step, by simpa using quests,
    fun k hk => ?_⟩
  have := same k hk
  cases k <;> simp_all [Component.same]

/-- A report of activity may follow a step at the cue queue. -/
theorem State.cueStep.reportActivity {u : State} (h : s.cueStep u) : s.cueStep u.reportActivity := by
  obtain ⟨lamps, step, quests, same⟩ := h
  refine ⟨by simpa using lamps, lampStep_congr (u' := u) lampsAlike_refl lampsAlike_reportActivity step,
    by simpa using quests, fun k hk => ?_⟩
  have := same k hk
  cases k <;> simp_all [Component.same]

/-- The cue queue replaced. -/
def State.withCues (s : State) (cues : List (Fin 16)) : State := { s with lamps := { s.lamps with cues := cues } }

/-- What starts or stops a cue, as one load change: the queue and the sounder are replaced. -/
def State.soundCues (s : State) (f : LampUnit → List (Fin 16)) (g : LampUnit → Option Nat) : State :=
  s.lampEvent fun s => { s with lamps := { s.lamps with cues := f s.lamps, sounder := g s.lamps } }

/-- The queue and the sounder after a load change. -/
theorem soundCues_cues (f : LampUnit → List (Fin 16)) (g : LampUnit → Option Nat) :
    (s.soundCues f g).lamps.cues = f s.lamps ∧ (s.soundCues f g).lamps.sounder = g s.lamps ∧ (s.soundCues f g).rest = s.rest := by
  unfold State.soundCues
  simp [lampEvent_lamps_frame]

/-- A load change of the queue and the sounder is a step at the cue queue, the queue having been replaced before it or not. -/
theorem soundCues_cueStep (cues : List (Fin 16)) (f : LampUnit → List (Fin 16)) (g : LampUnit → Option Nat) :
    s.cueStep ((s.withCues cues).soundCues f g) := by
  let set : State → State := fun s => { s with lamps := { s.lamps with cues := f s.lamps, sounder := g s.lamps } }
  show s.cueStep ((s.withCues cues).lampEvent set)
  obtain ⟨guard, lamps⟩ := lampEvent_lamps (s.withCues cues) set
  have step : (s.withCues cues).lampStep ((s.withCues cues).lampEvent set) := lampEvent_lampStep (fun _ => rfl) rfl rfl
  refine ⟨?_, lampStep_from (w := s.withCues cues) rfl (fun _ => rfl) rfl rfl step, ?_, fun k hk => ?_⟩
  · rw [lamps]
    rfl
  · simp [set, State.withCues]
  · cases k <;> simp [Component.same, set, State.withCues] at hk ⊢

/-- The queue alone replaced is a step at the cue queue. -/
theorem withCues_cueStep (cues : List (Fin 16)) : s.cueStep (s.withCues cues) := by
  refine ⟨rfl, lampStep_from (w := s.withCues cues) rfl (fun _ => rfl) rfl rfl (lampStep_refl _), rfl, fun k hk => ?_⟩
  cases k <;> simp [Component.same, State.withCues] at hk ⊢

/-! ### PLAY_CUE (R144) -/

/-- Into an empty queue a cue starts at once, and its start is activity (R143). -/
theorem enqueueCue_starts (silent : s.lamps.cues = []) (c : Fin 16) :
    s.enqueueCue c =
      ((s.withCues (s.lamps.cues ++ [c])).soundCues (·.cues) (·.cues.head?.map cueTicks)).reportActivity :=
  if_pos silent

/-- Behind another cue it waits (R144). -/
theorem enqueueCue_waits (plays : s.lamps.cues ≠ []) (c : Fin 16) : s.enqueueCue c = s.withCues (s.lamps.cues ++ [c]) :=
  if_neg plays

/-- A cue enqueued: the queue, the sounder and the activity (R143, R144). -/
theorem enqueueCue_cues (c : Fin 16) :
    (s.enqueueCue c).lamps.cues = s.lamps.cues ++ [c] ∧
      (s.enqueueCue c).lamps.sounder = (if s.lamps.cues = [] then some (cueTicks c) else s.lamps.sounder) ∧
      (s.enqueueCue c).rest = (if s.lamps.cues = [] then s.reportActivity.rest else s.rest) := by
  by_cases silent : s.lamps.cues = []
  case pos =>
    obtain ⟨cues, sounder, rest⟩ :=
      soundCues_cues (s := s.withCues (s.lamps.cues ++ [c])) (·.cues) (·.cues.head?.map cueTicks)
    rw [enqueueCue_starts silent, if_pos silent, if_pos silent, reportActivity_rest_congr (s := s) rest]
    simp only [reportActivity_frame, cues, sounder, and_true]
    exact ⟨rfl, by simp [State.withCues, silent]⟩
  case neg =>
    rw [enqueueCue_waits silent, if_neg silent, if_neg silent]
    exact ⟨rfl, rfl, rfl⟩

/-- A cue enqueued is a step at the cue queue. -/
theorem enqueueCue_cueStep (c : Fin 16) : s.cueStep (s.enqueueCue c) := by
  by_cases silent : s.lamps.cues = []
  case pos =>
    rw [enqueueCue_starts silent]
    exact (soundCues_cueStep _ _ _).reportActivity
  case neg =>
    rw [enqueueCue_waits silent]
    exact withCues_cueStep _

/-- The ticks of a cue, by the table of R143. -/
theorem cueTicks_eq (c : Fin 16) :
    cueTicks c = [1, 2, 4, 4, 6, 8, 3, 2, 5, 6, 10, 12, 8, 8, 16, 1].getD c.val 0 := by
  revert c
  decide

/-! ### STOP_CUES (R145) and the end of a cue (R143) -/

/-- Cues stopped in a part that does not wait to rest: the queue empty, the sounder silent, as one load change (R145). -/
theorem stopCues_stays (h : s.rest.activity ≠ .expired) :
    s.stopCues.lamps.cues = [] ∧ s.stopCues.lamps.sounder = none ∧ s.stopCues.rest = s.rest ∧ s.cueStep s.stopCues := by
  unfold State.stopCues
  split
  case isTrue idle =>
    refine ⟨idle.1, idle.2, rfl, rfl, lampStep_refl s, rfl, fun k _ => ?_⟩
    cases k <;> rfl
  case isFalse =>
    have silence : s.silence = s.soundCues (fun _ => []) fun _ => none := rfl
    obtain ⟨cues, sounder, rest⟩ := soundCues_cues (s := s) (fun _ => []) fun _ => none
    rw [silence, restIfDue_idle (.inl (by rwa [rest]))]
    exact ⟨cues, sounder, rest, soundCues_cueStep s.lamps.cues _ _⟩

/-- The head cue ended in a part that does not wait to rest, or with another cue to play (R143). -/
theorem endCue_stays {c : Fin 16} {left : List (Fin 16)} (plays : s.lamps.cues = c :: left)
    (due : s.rest.activity ≠ .expired ∨ left ≠ []) :
    s.endCue.lamps.cues = left ∧ s.endCue.lamps.sounder = left.head?.map cueTicks ∧
      s.endCue.rest = (if left = [] then s.rest else s.reportActivity.rest) ∧ s.cueStep s.endCue := by
  let next := s.soundCues (·.cues.tail) (·.cues.tail.head?.map cueTicks)
  obtain ⟨cues, sounder, rest⟩ := soundCues_cues (s := s) (·.cues.tail) (·.cues.tail.head?.map cueTicks)
  rw [plays, List.tail_cons] at cues sounder
  have step : s.cueStep next := soundCues_cueStep s.lamps.cues _ _
  have goes : s.endCue = (if next.lamps.sounder.isSome then next.reportActivity else next).restIfDue := rfl
  rw [goes, show next.lamps.sounder = _ from sounder]
  cases left with
  | nil =>
    have stays : next.restIfDue = next := restIfDue_idle (.inl (rest ▸ due.resolve_right (· rfl)))
    exact stays.symm ▸ ⟨cues, sounder, rest, step⟩
  | cons d left =>
    have stays : next.reportActivity.restIfDue = next.reportActivity :=
      restIfDue_idle (.inr (by rw [(reportActivity_frame _).2.2.2.2.2.2.2.2.2.2.2.2.1, sounder]; nofun))
    rw [if_pos (by rfl), stays]
    exact ⟨by simpa [next] using cues, by simpa [next] using sounder, reportActivity_rest_congr rest, step.reportActivity⟩

end Sys2Proof.Machine

open Sys2Proof Sys2Proof.Machine

/-- Settles O49: each command as a step at the cue queue. -/
theorem cuesPlayInTurn : Obligations.CuesPlayInTurn := by
  intro a c rest s ticks frame
  have table : ∀ c, cueTicks c = ticks c := cueTicks_eq
  refine ⟨fun listening => ⟨fun high => ?_, fun full => ?_, fun room => ?_, fun due => ?_⟩, fun running sounds plays due => ?_⟩
  · exact exec_badValue (block := takePlayCue a) rfl listening (by rw [takePlayCue, below_eq_none (by omega)])
  · refine exec_answered (takePlayCue (byte c.val)) rfl listening ?_
    rw [takePlayCue, below_byte_of_le (by decide)]
    exact if_pos (by simpa [cueRoom] using full)
  · refine ⟨(s.reportActivity.enqueueCue c).finish, exec_answered (takePlayCue (byte c.val)) rfl listening ?_, ?_⟩
    · rw [takePlayCue, below_byte_of_le (by decide)]
      dsimp only
      rw [if_neg (by simpa [cueRoom] using room)]
      simp [success, flag]
    · obtain ⟨cues, sounder, rest⟩ := enqueueCue_cues (s := s.reportActivity) c
      have again := reportActivity_rest_idem s
      refine ⟨?_, ?_, ?_, (enqueueCue_cueStep c).heard.finish⟩
      · simpa using cues
      · simpa [table] using sounder
      · simpa [again] using rest
  · have awake : s.reportActivity.rest.activity ≠ .expired := reportActivity_notExpired listening.2 due
    obtain ⟨cues, sounder, rest, step⟩ := stopCues_stays awake
    refine ⟨s.reportActivity.stopCues.finish, exec_answered takeStopCues rfl listening ?_, ?_, ?_, ?_, step.heard.finish⟩
    · simp [takeStopCues, success, flag]
    · simpa using cues
    · simpa using sounder
    · simpa using rest
  · obtain ⟨cues, sounder, rest, step⟩ := endCue_stays plays (due.imp_right (·.1))
    refine ⟨s.endCue.finish, ?_, ?_, ?_, ?_, step.finish⟩
    · rw [exec_live (fun s => match s.lamps.sounder with
        | some n => if n ≤ 1 then s.endCue.finish else s
        | none => s) rfl running, sounds]
      exact congrArg Host.Outcome.next (if_pos (Nat.le_refl 1))
    · simpa using cues
    · simpa [← funext table] using sounder
    · simpa using rest

end

section
/-!
SET_LAMPS: the cells of the clipped rectangle, their host settings, and the step at the lamps (R132).
-/

namespace Sys2Proof.Machine

open Sys2Proof

variable {s : State}

/-- At the end of its event a step at the lamps that did not move the guard has made no notice (R140). -/
theorem lampStep_notices {u : State} (h : s.lampStep u) (still : u.finish.lamps.guard = s.lamps.guard) :
    u.finish.notices = s.notices := by
  have same : u.finish.lamps = u.lamps ∧ u.finish.notices = u.notices := by simp
  rw [same.1] at still
  rw [same.2, h.2 still]

/-! ### Positions and their cells, each once -/

/-- On a lawful plan a position is covered by the one cell that lies on it (R8, R9). -/
theorem covering_iff_position (lawful : s.planLawful) {b : Pos} {c : CellId} :
    s.covering b = some c ↔ s.position c = some b := by
  refine ⟨fun covering => ((positionsAndCoveringCellsAgree c b s lawful).2.2 c covering), fun lies => ?_⟩
  obtain ⟨unplaced, placed, -⟩ := positionsAndCoveringCellsAgree c b s lawful
  cases plan : Table.read s.plan c.lane with
  | none => rw [unplaced plan] at lies; cases lies
  | some p =>
    obtain ⟨g, at_g, covering, -⟩ := placed p plan
    rw [at_g] at lies
    rwa [← Option.some.inj lies]

theorem allPositions_nodup : allPositions.Nodup :=
  allPositions_pairwise.imp fun {a b} before same => by
    subst same
    rcases before with h | ⟨-, h⟩ <;> exact absurd h (lt_irrefl _)

theorem allCells_nodup : allCells.Nodup := by
  unfold allCells
  rw [List.nodup_flatMap]
  refine ⟨fun n _ => (List.nodup_finRange 12).map fun i j e => congrArg CellId.slot e, ?_⟩
  refine (List.nodup_finRange 8).imp fun {n m} different => List.disjoint_left.2 fun c hn hm => different ?_
  rw [← (mem_laneCells n c).1 hn, (mem_laneCells m c).1 hm]

/-! ### The cells SET_LAMPS reaches -/

/-- A cell lies live in the rectangle. -/
def State.lampReaches (s : State) (x0 y0 x1 y1 : Byte) (c : CellId) : Bool :=
  decide ((s.cell c).state ≠ .retired) &&
    match s.position c with
    | some b => decide (x0.toNat ≤ b.x.val ∧ b.x.val ≤ x1.toNat ∧ y0.toNat ≤ b.y.val ∧ b.y.val ≤ y1.toNat)
    | none => false

theorem liveCell_eq_some (lawful : s.planLawful) {b : Pos} {c : CellId} :
    s.liveCell b = some c ↔ s.position c = some b ∧ (s.cell c).state ≠ .retired := by
  rw [liveCell_eq, Option.bind_eq_some_iff, ← covering_iff_position lawful]
  constructor
  · rintro ⟨d, covering, live⟩
    split at live
    case isTrue => cases live
    case isFalse standing =>
      cases live
      exact ⟨covering, standing⟩
  · rintro ⟨covering, standing⟩
    exact ⟨c, covering, if_neg standing⟩

/-- The cells listed are those that lie live in the rectangle. -/
theorem mem_lampCells (lawful : s.planLawful) {x0 y0 x1 y1 : Byte} {c : CellId} :
    c ∈ s.lampCells x0 y0 x1 y1 ↔ s.lampReaches x0 y0 x1 y1 c = true := by
  unfold State.lampCells State.lampReaches
  rw [List.mem_filterMap, Bool.and_eq_true, decide_eq_true_eq]
  constructor
  · rintro ⟨b, -, listed⟩
    split at listed
    case isFalse => cases listed
    case isTrue inside =>
      obtain ⟨lies, live⟩ := (liveCell_eq_some lawful).1 listed
      rw [lies]
      exact ⟨live, decide_eq_true inside⟩
  · rintro ⟨live, inside⟩
    cases lies : s.position c with
    | none => rw [lies] at inside; cases inside
    | some b =>
      rw [lies] at inside
      exact ⟨b, mem_allPositions b,
        (if_pos (of_decide_eq_true inside)).trans ((liveCell_eq_some lawful).2 ⟨lies, live⟩)⟩

/-- No cell is listed twice. -/
theorem lampCells_nodup (lawful : s.planLawful) (x0 y0 x1 y1 : Byte) : (s.lampCells x0 y0 x1 y1).Nodup := by
  refine allPositions_nodup.filterMap fun a b c ha hb => ?_
  rw [Option.mem_def] at ha hb
  split at ha
  case isFalse => cases ha
  case isTrue =>
    split at hb
    case isFalse => cases hb
    case isTrue =>
      have at_a := ((liveCell_eq_some lawful).1 ha).1
      rw [((liveCell_eq_some lawful).1 hb).1] at at_a
      exact (Option.some.inj at_a).symm

/-- The cells listed are, in some order, those of the board that the rectangle reaches. -/
theorem lampCells_perm (lawful : s.planLawful) (x0 y0 x1 y1 : Byte) :
    (s.lampCells x0 y0 x1 y1).Perm (allCells.filter (s.lampReaches x0 y0 x1 y1)) := by
  rw [List.perm_ext_iff_of_nodup (lampCells_nodup lawful ..) (allCells_nodup.filter _)]
  intro c
  rw [mem_lampCells lawful, List.mem_filter]
  simp [mem_allCells]

/-! ### The host settings written -/

theorem read_putCell {α : Type} (t : CellTable α) (c d : CellId) (a : α) :
    Table.read (Table.read (putCell t c a) d.lane) d.slot =
      if d = c then a else Table.read (Table.read t d.lane) d.slot := by
  obtain ⟨n, i⟩ := c
  obtain ⟨m, j⟩ := d
  unfold putCell
  rw [Table.read_put]
  by_cases lane : m = n
  case neg => simp [lane]
  case pos =>
    subst lane
    rw [if_pos rfl, Table.read_put]
    simp

/-- The host settings after a list of cells was written. -/
theorem setHost_hostSetting (v : LampSetting) (cells : List CellId) (c : CellId) :
    (s.setHost cells v).hostSetting c = if c ∈ cells then v else s.hostSetting c := by
  have written : ∀ (l : List CellId) (t : CellTable LampSetting),
      Table.read (Table.read (l.foldl (fun t c => putCell t c v) t) c.lane) c.slot =
        if c ∈ l then v else Table.read (Table.read t c.lane) c.slot := by
    intro l
    induction l with
    | nil => intro t; simp
    | cons d l ih =>
      intro t
      rw [List.foldl_cons, ih, read_putCell]
      by_cases later : c ∈ l <;> by_cases here : c = d <;> simp [later, here]
  exact written cells s.lamps.host

/-! ### The setting code (section 12.3) -/

theorem settingOf_code (v : LampSetting) : settingOf v.code = some v := by
  cases v <;> rfl

theorem settingOf_none {b : Byte} (high : 5 < b.toNat) : settingOf b = none := by
  unfold settingOf
  split
  case h_7 => rfl
  all_goals omega

/-! ### The request -/

/-- What SET_LAMPS leaves before the end of its event. -/
def State.lampsSet (s : State) (x0 y0 x1 y1 : Byte) (v : LampSetting) : State :=
  s.reportActivity.lampEvent fun t => t.setHost (s.lampCells x0 y0 x1 y1) v

/-- SET_LAMPS is a step at the lamps. -/
theorem lampsSet_lampStep (x0 y0 x1 y1 : Byte) (v : LampSetting) : s.lampStep (s.lampsSet x0 y0 x1 y1 v) :=
  lampStep_congr lampsAlike_reportActivity lampsAlike_refl (lampEvent_lampStep (fun _ => rfl) rfl rfl)

/-- A report of activity does not change what the rectangle reaches. -/
theorem lampCells_heard (x0 y0 x1 y1 : Byte) : s.reportActivity.lampCells x0 y0 x1 y1 = s.lampCells x0 y0 x1 y1 := by
  obtain ⟨r, heard, -⟩ := reportActivity_heard s
  rw [heard]
  rfl

/-- SET_LAMPS with a setting and bounds in order (R132). -/
theorem exec_setLamps (x0 y0 x1 y1 : Byte) (v : LampSetting) (listening : s.listening) (columns : x0.toNat ≤ x1.toNat)
    (rows : y0.toNat ≤ y1.toNat) :
    let cells := s.lampCells x0 y0 x1 y1
    exec (.setLamps x0 y0 x1 y1 v.code) s =
      .next
        ((s.lampsSet x0 y0 x1 y1 v).finish.replied 0x60
          [byte cells.length, byte (cells.countP fun c => decide (s.hostSetting c ≠ v))]) := by
  refine exec_answered (takeSetLamps x0 y0 x1 y1 v.code) rfl listening ?_
  have host : s.reportActivity.hostSetting = s.hostSetting := by
    unfold State.hostSetting
    simp
  rw [takeSetLamps, settingOf_code]
  dsimp only
  rw [if_neg (by omega), lampCells_heard, host]
  rfl

end Sys2Proof.Machine

open Sys2Proof Sys2Proof.Machine

/-- Settles O46: the cells listed are those the rectangle reaches, each once, and the step at the lamps. -/
theorem setLampsSetsTheRectangle : Obligations.SetLampsSetsTheRectangle := by
  intro x0 y0 x1 y1 code v s listening lawful reached
  have reaches : s.lampReaches x0 y0 x1 y1 = reached := rfl
  refine ⟨fun bad => ?_, fun columns rows => ?_⟩
  · refine exec_badValue (block := takeSetLamps x0 y0 x1 y1 code) rfl listening ?_
    unfold takeSetLamps
    split
    case h_1 => rfl
    case h_2 w setting =>
      refine if_pos (bad.resolve_left fun high => ?_)
      rw [settingOf_none high] at setting
      cases setting
  · obtain ⟨follow, alone, steady⟩ := finish_lampStep (lampsSet_lampStep (s := s) x0 y0 x1 y1 v)
    obtain ⟨guard, lamps⟩ := lampEvent_lamps s.reportActivity fun t => t.setHost (s.lampCells x0 y0 x1 y1) v
    have finished : (s.lampsSet x0 y0 x1 y1 v).finish.lamps = (s.lampsSet x0 y0 x1 y1 v).lamps := by simp
    have perm := lampCells_perm lawful x0 y0 x1 y1
    have step := exec_setLamps x0 y0 x1 y1 v listening columns rows
    dsimp only at step
    rw [perm.length_eq, perm.countP_eq, ← List.countP_eq_length_filter, List.countP_filter] at step
    refine ⟨(s.lampsSet x0 y0 x1 y1 v).finish, ?_, fun c => ?_, ?_, fun still => ?_, follow, alone, steady, ?_, ?_, ?_⟩
    · rw [step]
      simp only [reaches, Bool.and_comm]
    · have written := setHost_hostSetting (s := s.reportActivity) v (s.lampCells x0 y0 x1 y1) c
      rw [State.hostSetting, finished, State.lampsSet, lamps]
      refine written.trans ?_
      rw [show s.reportActivity.hostSetting c = s.hostSetting c by simp [State.hostSetting]]
      exact if_congr (mem_lampCells lawful) rfl rfl
    · rw [finished, State.lampsSet, lamps]
      simp [State.setHost]
    · exact lampStep_notices (lampsSet_lampStep x0 y0 x1 y1 v) still
    · simp [finish_records, State.lampsSet]
    · simp [State.lampsSet]
    · intro k changed
      cases k <;> simp [Component.same, State.lampsSet] at changed ⊢

end

section
/-!
Quests paused, resumed, failed and put back: the record, the pass, the hint and the notice each leaves (R113 to R116).
-/

namespace Sys2Proof.Machine

open Sys2Proof

variable {s : State}

/-! ### Hints (R126, R133) -/

/-- A hint written is a step at the lamps. -/
theorem setHint_lampStep (q : QuestId) (g : Option Region) : s.lampStep (s.setHint q g) :=
  lampEvent_lampStep (fun _ => rfl) rfl rfl

/-- A hint written: the quest's own, and the guard. -/
theorem setHint_lamps (q : QuestId) (g : Option Region) :
    (s.setHint q g).lamps =
      { s.lamps with guard := (s.setHint q g).lamps.guard, hints := Table.put s.lamps.hints q g } := by
  obtain ⟨guard, lamps⟩ :=
    lampEvent_lamps s fun s => { s with lamps := { s.lamps with hints := Table.put s.lamps.hints q g } }
  rw [State.setHint, lamps]

/-- A step at the lamps after the lanes, the drives and the guard of `s`, at the end of its event. -/
theorem finish_lampStep_from {w u : State} (lanes : w.lanes = s.lanes) (drives : ∀ n, w.laneDrive n = s.laneDrive n)
    (guard : w.lamps.guard = s.lamps.guard) (h : w.lampStep u) :
    s.drivesFollow u.finish ∧ s.drivesAlone u.finish ∧ s.lanesSteady u.finish := by
  have lane : ∀ n, w.lane n = s.lane n := fun n => by rw [State.lane, lanes]; rfl
  have done := finish_lampStep h
  unfold State.drivesFollow State.drivesAlone State.lanesSteady at done ⊢
  simpa only [lane, drives, guard] using done

/-! ### The pass in flight (R119, R120) -/

/-- A pass in flight stays as it is at the end of an event. -/
theorem finish_pass_inFlight (h : s.quests.pass.isSome = true) : s.finish.quests.pass = s.quests.pass := by
  unfold State.finish State.startPass
  rw [if_neg]
  · simp
  · rintro ⟨-, free⟩
    rw [show s.grantAll.quests = s.quests by simp] at free
    rw [free] at h
    cases h

/-- A quest that has left the evaluated set of the pass in flight is not in it at the end of the event (R120). -/
theorem finish_inSet_left {u : State} {q : QuestId} (flight : s.quests.pass.isSome = true)
    (left : u.quests.pass = (s.leaveSet q).quests.pass) : u.finish.inSet q = false := by
  have flies : u.quests.pass.isSome = true := by
    rw [left]
    simpa [State.leaveSet] using flight
  rw [inSet_congr ((finish_pass_inFlight flies).trans left), inSet_leaveSet]
  simp

/-! ### A quest that fails (R115, R124) -/

/-- The record of a quest that has failed. -/
def Quest.failed (r : Quest) (why : FailReason) : Quest :=
  { r with
    state := .failed
    progress := { r.progress with deadline := none, remaining := none, holdSince := none, failReason := some why } }

/-- A quest's failure recorded and told, before its hint is withdrawn. -/
def State.failing (s : State) (q : QuestId) (why : FailReason) : State :=
  (s.setQuest q ((s.quest q).failed why)).notify
    (.questFailed q (s.quest q).progress.stage why (s.quest q).progress.earned)

theorem failQuest_eq (q : QuestId) (why : FailReason) :
    s.failQuest q why = (((s.failing q why).setHint q none).leaveSet q).reportActivity := rfl

/-- A failure leaves the quest's record FAILED, and the others as they were. -/
theorem failQuest_quest (q k : QuestId) (why : FailReason) :
    (s.failQuest q why).quest k = if k = q then (s.quest q).failed why else s.quest k := by
  rw [failQuest_eq]
  simp [State.failing, setQuest_quest]

/-- A failed quest leaves the evaluated set, and the wish for a pass stays. -/
theorem failQuest_pass (q : QuestId) (why : FailReason) :
    (s.failQuest q why).quests.pass = (s.leaveSet q).quests.pass ∧
      (s.failQuest q why).quests.passWanted = s.quests.passWanted := by
  rw [failQuest_eq]
  simp [State.failing, State.leaveSet]

/-- A failure withdraws the quest's hint. -/
theorem failQuest_lamps (q : QuestId) (why : FailReason) :
    (s.failQuest q why).lamps =
      { s.lamps with guard := (s.failQuest q why).lamps.guard, hints := Table.put s.lamps.hints q none } := by
  have lamps := setHint_lamps (s := s.failing q why) q none
  rw [failQuest_eq]
  simpa [State.failing] using lamps

/-- What a failure does at the lamps follows the record and the notice. -/
theorem failQuest_lampStep (q : QuestId) (why : FailReason) : (s.failing q why).lampStep (s.failQuest q why) :=
  lampStep_congr (u' := (s.failing q why).setHint q none) lampsAlike_refl
    (by simp [failQuest_eq, State.lampsAlike]) (setHint_lampStep q none)

/-- The lanes of a failed quest's board, at the end of the event. -/
theorem failQuest_drives (q : QuestId) (why : FailReason) :
    s.drivesFollow (s.failQuest q why).finish ∧ s.drivesAlone (s.failQuest q why).finish ∧
      s.lanesSteady (s.failQuest q why).finish :=
  finish_lampStep_from (by simp [State.failing])
    (fun n => laneDrive_congr (by simp [State.failing]) (by simp [State.failing]) (by simp [State.failing])
      (by simp [State.failing])) (by simp [State.failing]) (failQuest_lampStep q why)

/-- So too where the frame of the request was reported first. -/
theorem failQuest_heard_drives (q : QuestId) (why : FailReason) :
    let t := (s.reportActivity.failQuest q why).finish
    s.drivesFollow t ∧ s.drivesAlone t ∧ s.lanesSteady t :=
  finish_lampStep_from (by simp [State.failing])
    (fun n => laneDrive_part n (by simp [State.failing]) (by simp [State.failing]) (by simp [State.failing])
      (by simp [State.failing])) (by simp [State.failing]) (failQuest_lampStep q why)

/-- A failure is the last notice, unless the guard moved after it (R115, R140). -/
theorem failQuest_told (q : QuestId) (why : FailReason)
    (still : (s.failQuest q why).finish.lamps.guard = s.lamps.guard) (filed : s.files .quest) :
    (s.failQuest q why).finish.lastNotice
      (.questFailed q (s.quest q).progress.stage why (s.quest q).progress.earned) := by
  have guard : (s.failing q why).lamps.guard = s.lamps.guard := by simp [State.failing]
  refine lastNotice_congr (lampStep_notices (failQuest_lampStep q why) (still.trans guard.symm)) ?_
  exact notify_lastNotice (by simpa [State.files, NoticeBody.class] using filed)

/-- A failure is activity (R128). -/
theorem failQuest_rest (q : QuestId) (why : FailReason) : (s.failQuest q why).rest = s.reportActivity.rest :=
  reportActivity_rest_congr (by simp)

/-- A failure leaves every block but the Quest Engine, the lamps, the notices, the lanes and the Rest Controller. -/
theorem failQuest_sameBut (q : QuestId) (why : FailReason) :
    s.sameBut (s.failQuest q why).finish [.quests, .lamps, .notices, .lanes, .rest] := by
  intro k changed
  cases k <;> simp [Component.same] at changed ⊢

/-! ### A quest paused (R113) -/

/-- The frame's activity reported and quest `q` paused, before the end of the event. -/
def State.questPaused (s : State) (q : QuestId) : State :=
  (((s.reportActivity.setQuest q ((s.quest q).goes .paused ((s.quest q).pauseProgress s.play.clock))).setHint q
    none).leaveSet q).reportActivity

/-- The quest records after a pause. -/
theorem questPaused_quest (q k : QuestId) :
    (s.questPaused q).quest k =
      if k = q then (s.quest q).goes .paused ((s.quest q).pauseProgress s.play.clock) else s.quest k := by
  unfold State.questPaused
  simp [setQuest_quest]

/-- A pause withdraws the quest's hint. -/
theorem questPaused_lamps (q : QuestId) :
    (s.questPaused q).lamps =
      { s.lamps with guard := (s.questPaused q).lamps.guard, hints := Table.put s.lamps.hints q none } := by
  have lamps := setHint_lamps
    (s := s.reportActivity.setQuest q ((s.quest q).goes .paused ((s.quest q).pauseProgress s.play.clock))) q none
  simpa [State.questPaused] using lamps

/-- A pause is a step at the lamps. -/
theorem questPaused_lampStep (q : QuestId) : s.lampStep (s.questPaused q) := by
  let v := s.reportActivity.setQuest q ((s.quest q).goes .paused ((s.quest q).pauseProgress s.play.clock))
  refine lampStep_congr (s' := v) (u' := v.setHint q none) ?_ ?_ (setHint_lampStep q none)
  · simp [State.lampsAlike, v]
  · simp [State.lampsAlike, State.questPaused, v]

/-- A paused quest leaves the evaluated set. -/
theorem questPaused_pass (q : QuestId) : (s.questPaused q).quests.pass = (s.leaveSet q).quests.pass := by
  simp [State.questPaused, State.leaveSet]

/-- A pause reports the activity that the frame has reported already. -/
theorem questPaused_rest (q : QuestId) : (s.questPaused q).rest = s.reportActivity.rest :=
  (reportActivity_rest_congr (by simp)).trans (reportActivity_rest_idem s)

/-! ### A quest set going again (R114) -/

/-- The frame's activity reported and quest `q` RUNNING with the given progress: a pass wanted, the hint of its stage posted (R114, R126, R128). -/
def State.questGoes (s : State) (q : QuestId) (p : Progress) (hint : Option Region) : State :=
  (((s.reportActivity.setQuest q ((s.quest q).goes .running p)).wantPass).postHint q hint).reportActivity

/-- The quest records after the quest was set going. -/
theorem questGoes_quests (q : QuestId) (p : Progress) (hint : Option Region) :
    (s.questGoes q p hint).quests = (s.setQuest q ((s.quest q).goes .running p)).wantPass.quests := by
  simp [State.questGoes, State.setQuest, State.wantPass]

/-- The pass that it wants has started with the quest in its evaluated set, or waits for the one in flight (R119). -/
theorem questGoes_pass (q : QuestId) (p : Progress) (hint : Option Region) :
    let t := (s.questGoes q p hint).finish
    if s.quests.pass = none then t.quests.passWanted = false ∧ t.inSet q = true
    else t.quests.pass = s.quests.pass ∧ t.quests.passWanted = true := by
  obtain ⟨-, follows⟩ := finish_passFollows (questGoes_quests (s := s) q p hint)
  rw [setQuest_pass] at follows
  dsimp only
  split at follows
  case isTrue free =>
    rw [if_pos free]
    refine ⟨follows.1, finish_inSet ?_ ?_ ?_⟩
    · rw [questGoes_quests, wantPass_passWanted]
    · rw [questGoes_quests, wantPass_pass, setQuest_pass, free]
    · rw [State.quest, questGoes_quests, wantPass_records]
      exact congrArg Quest.state (setQuest_quest_same ..)
  case isFalse inFlight => rwa [if_neg inFlight]

/-- The hint of the stage is posted, if it has one. -/
theorem questGoes_lamps (q : QuestId) (p : Progress) (hint : Option Region) :
    (s.questGoes q p hint).lamps =
      { s.lamps with
        guard := (s.questGoes q p hint).lamps.guard
        hints := if hint.isSome then Table.put s.lamps.hints q hint else s.lamps.hints } := by
  have lamps := postHint_lamps (s.reportActivity.setQuest q ((s.quest q).goes .running p)).wantPass q hint
  simpa [State.questGoes] using lamps

/-- A quest set going is a step at the lamps. -/
theorem questGoes_lampStep (q : QuestId) (p : Progress) (hint : Option Region) : s.lampStep (s.questGoes q p hint) := by
  let v := (s.reportActivity.setQuest q ((s.quest q).goes .running p)).wantPass
  refine lampStep_congr (s' := v) (u' := v.postHint q hint) ?_ ?_ (postHint_lampStep v q hint)
  · simp [State.lampsAlike, v]
  · simp [State.lampsAlike, State.questGoes, v]

/-- It reports the activity that the frame has reported already. -/
theorem questGoes_rest (q : QuestId) (p : Progress) (hint : Option Region) :
    (s.questGoes q p hint).rest = s.reportActivity.rest :=
  (reportActivity_rest_congr (by simp)).trans (reportActivity_rest_idem s)

/-! ### The requests -/

/-- A quest in play is RUNNING or PAUSED. -/
theorem inPlay_iff {r : Quest} : r.inPlay = true ↔ r.state = .running ∨ r.state = .paused := by simp [Quest.inPlay]

/-- PAUSE_QUEST of a RUNNING quest (R113). -/
theorem exec_pauseQuest {q : QuestId} (listening : s.listening) (running : (s.quest q).state = .running) :
    exec (.pauseQuest (byte q.val)) s =
      .next
        ((s.questPaused q).finish.replied 0x5C
          (byte (s.quest q).progress.stage ::
            optThree ((s.quest q).progress.deadline.map fun d => d - s.play.clock))) := by
  have heard : s.reportActivity.quest q = s.quest q := by simp
  refine exec_answered (takePauseQuest (byte q.val)) rfl listening ?_
  rw [takePauseQuest, below_byte_of_le (by decide)]
  dsimp only
  rw [heard, reportActivity_play, if_neg (by simpa using running)]
  rfl

/-- RESUME_QUEST of a PAUSED quest (R114). -/
theorem exec_resumeQuest {q : QuestId} (listening : s.listening) (paused : (s.quest q).state = .paused) :
    exec (.resumeQuest (byte q.val)) s =
      .next
        ((s.questGoes q ((s.quest q).resumeProgress s.play.clock)
          ((s.quest q).hintOf (s.quest q).progress.stage)).finish.replied 0x5D []) := by
  have heard : s.reportActivity.quest q = s.quest q := by simp
  refine exec_answered (takeResumeQuest (byte q.val)) rfl listening ?_
  rw [takeResumeQuest, below_byte_of_le (by decide)]
  dsimp only
  rw [heard, reportActivity_play, if_neg (by simpa using paused)]
  rfl

/-- SET_PROGRESS of a quest that has the stage, its values in range (R116). -/
theorem setProgress_checked {q : QuestId} {stage : Byte} {earned : BitVec 16} {st : Stage} (low : stage.toNat ≤ 3)
    (few : earned.toNat ≤ 1500) (defined : (s.quest q).state ≠ .empty)
    (current : (s.quest q).stages[stage.toNat]? = some st) :
    takeSetProgress (byte q.val) stage earned s =
      if (s.quest q).inPlay then refused s .inPlay [(s.quest q).state.code]
      else
        match s.missingPattern (s.quest q) with
        | some p => refused s .noPattern [byte p.val]
        | none =>
          success
            ((s.setQuest q
              ((s.quest q).goes .paused ((s.quest q).setProgress stage.toNat earned.toNat s.play.clock))).reportActivity)
            [] := by
  obtain ⟨long, -⟩ := List.getElem?_eq_some_iff.1 current
  rw [takeSetProgress, below_byte_of_le (by decide)]
  dsimp only
  rw [if_neg (by omega), if_neg (by omega), if_neg defined] <;> rfl

/-- A report of activity just made is not made again. -/
theorem reportActivity_again {t : State} (h : t.rest = s.reportActivity.rest) : t.reportActivity = t := by
  unfold State.reportActivity
  split
  case isFalse => rfl
  case isTrue live =>
    have same : t.rest = { t.rest with activity := .running t.rest.delay } := by
      conv_lhs => rw [h]
      rw [← (reportActivity_rest_congr h).trans (reportActivity_rest_idem s)]
      simp [State.reportActivity, live]
    rw [← same]

/-- The progress of a quest put back to a stage it has (R116). -/
theorem setProgress_eq {r : Quest} {stage earned clock : Nat} {st : Stage} (h : r.stages[stage]? = some st) :
    r.setProgress stage earned clock =
      { stage := stage, started := some clock, deadline := none
        remaining := if st.limit = 0 then none else some st.limit
        holdSince := none, earned := earned, failReason := none } := by
  simp [Quest.setProgress, Quest.limitOf, h]

end Sys2Proof.Machine

open Sys2Proof Sys2Proof.Machine

/-- Settles O41: the refusals, the pause and the resumption, each from what it leaves at the end of its event. -/
theorem pauseAndResumeQuests : Obligations.PauseAndResumeQuests := by
  intro a q st s listening r
  have heard : s.reportActivity.quest q = r := by simp [r]
  refine ⟨fun high => ⟨?_, ?_⟩, fun other => ?_, fun other => ?_, fun running => ?_, fun paused stage => ?_⟩
  · exact exec_badValue (block := takePauseQuest a) rfl listening (by rw [takePauseQuest, below_eq_none (by omega)])
  · exact exec_badValue (block := takeResumeQuest a) rfl listening (by rw [takeResumeQuest, below_eq_none (by omega)])
  · refine exec_answered (takePauseQuest (byte q.val)) rfl listening ?_
    rw [takePauseQuest, below_byte_of_le (by decide)]
    dsimp only
    rw [heard, if_pos other]
    rfl
  · refine exec_answered (takeResumeQuest (byte q.val)) rfl listening ?_
    rw [takeResumeQuest, below_byte_of_le (by decide)]
    dsimp only
    rw [heard, if_pos other]
    rfl
  · intro left
    obtain ⟨follow, alone, steady⟩ := finish_lampStep (questPaused_lampStep (s := s) q)
    have finished : (s.questPaused q).finish.lamps = (s.questPaused q).lamps := by simp
    have quest : ∀ k, (s.questPaused q).finish.quest k = (s.questPaused q).quest k := fun k => by
      rw [State.quest, finish_records]
      rfl
    refine ⟨(s.questPaused q).finish, (exec_pauseQuest listening running).trans ?_, ?_, fun k other => ?_,
      fun flight => finish_inSet_left flight (questPaused_pass q), ?_, lampStep_notices (questPaused_lampStep q), follow,
      alone, steady, ?_, fun k changed => ?_⟩
    · dsimp only [left, r]
      cases (s.quest q).progress.deadline <;> rfl
    · rw [quest, questPaused_quest, if_pos rfl]
      rfl
    · rw [quest, questPaused_quest, if_neg other]
    · rw [finished]
      exact questPaused_lamps q
    · exact (finish_frame _).2.1.trans (questPaused_rest q)
    · cases k <;> simp [Component.same, State.questPaused] at changed ⊢
  · have hint : r.hintOf r.progress.stage = st.hint := by simp [Quest.hintOf, stage]
    have pass := questGoes_pass (s := s) q (r.resumeProgress s.play.clock) (r.hintOf r.progress.stage)
    have resumed := exec_resumeQuest listening paused
    obtain ⟨u, goes⟩ : ∃ u, u = s.questGoes q (r.resumeProgress s.play.clock) (r.hintOf r.progress.stage) := ⟨_, rfl⟩
    rw [← goes] at pass resumed
    have step : s.lampStep u := goes ▸ questGoes_lampStep q (r.resumeProgress s.play.clock) (r.hintOf r.progress.stage)
    obtain ⟨follow, alone, steady⟩ := finish_lampStep step
    have finished : u.finish.lamps = u.lamps := by simp
    have quest : ∀ k, u.finish.quest k = (s.setQuest q (r.goes .running (r.resumeProgress s.play.clock))).quest k :=
      fun k => by
        rw [State.quest, finish_records, goes, questGoes_quests]
        rfl
    refine ⟨u.finish, resumed, ?_, fun k other => ?_, ?_, ?_, lampStep_notices step,
      follow, alone, steady, ?_, fun k changed => ?_⟩
    · rw [quest, setQuest_quest_same]
      unfold Quest.resumeProgress
      cases r.progress.remaining <;> rfl
    · rw [quest, setQuest_quest_ne _ _ other]
    · exact pass
    · rw [finished, ← hint, goes]
      exact questGoes_lamps q _ _
    · rw [goes]
      exact (finish_frame _).2.1.trans (questGoes_rest q _ _)
    · rw [goes]
      cases k <;> simp [Component.same, State.questGoes] at changed ⊢

/-- Settles O42: the checks in order, the failure from what it leaves, and the record put back. -/
theorem abandonAndSetProgress : Obligations.AbandonAndSetProgress := by
  intro a stage earned q st s listening r put missing
  have heard : s.reportActivity.quest q = r := by simp [r]
  have sought : ∀ r : Quest, s.reportActivity.missingPattern r = s.missingPattern r := fun r => by
    simp [State.missingPattern]
  refine ⟨fun high => ⟨?_, ?_⟩, fun notRunning notPaused => ?_, fun inPlay => ?_, fun bad => ?_, fun low few => ⟨fun empty => ?_,
    fun defined current => ⟨fun inPlay => ?_, fun notRunning notPaused => ⟨fun p lacks lowest => ?_, fun complete => ?_⟩⟩⟩⟩
  · exact exec_badValue (block := takeAbandonQuest a) rfl listening (by rw [takeAbandonQuest, below_eq_none (by omega)])
  · exact exec_badValue (block := takeSetProgress a stage earned) rfl listening
      (by rw [takeSetProgress, below_eq_none (by omega)])
  · refine exec_answered (takeAbandonQuest (byte q.val)) rfl listening ?_
    rw [takeAbandonQuest, below_byte_of_le (by decide)]
    dsimp only
    rw [heard, if_neg fun p => (inPlay_iff.1 p).elim notRunning notPaused]
    rfl
  · obtain ⟨follow, alone, steady⟩ := failQuest_heard_drives (s := s) q .abandoned
    let u := s.reportActivity.failQuest q .abandoned
    have finished : u.finish.lamps = u.lamps := by simp
    have quest : ∀ k, u.finish.quest k = u.quest k := fun k => by
      rw [State.quest, finish_records]
      rfl
    refine ⟨u.finish, ?_, ?_, fun k other => ?_, fun flight => ?_, ?_, fun filed still => ?_, follow, alone, steady, ?_,
      fun k changed => ?_⟩
    · refine exec_answered (takeAbandonQuest (byte q.val)) rfl listening ?_
      rw [takeAbandonQuest, below_byte_of_le (by decide)]
      dsimp only
      rw [heard, if_pos (inPlay_iff.2 inPlay)]
      rfl
    · rw [quest, failQuest_quest, if_pos rfl, heard]
      rfl
    · rw [quest, failQuest_quest, if_neg other]
      simp
    · exact finish_inSet_left (s := s) flight (by rw [(failQuest_pass q .abandoned).1]; simp [State.leaveSet])
    · have lamps := failQuest_lamps (s := s.reportActivity) q .abandoned
      rw [finished, show s.lamps = s.reportActivity.lamps by simp]
      exact lamps
    · have told := failQuest_told (s := s.reportActivity) q .abandoned (by simpa [u] using still)
        (by simpa [State.files] using filed)
      rwa [heard] at told
    · rw [(finish_frame _).2.1]
      exact (failQuest_rest q .abandoned).trans (reportActivity_rest_idem s)
    · cases k <;> simp [Component.same, u] at changed ⊢
  · refine exec_answered (takeSetProgress (byte q.val) stage earned) rfl listening ?_
    rw [takeSetProgress, below_byte_of_le (by decide)]
    dsimp only
    rw [heard]
    rcases bad with high | many | missing
    · exact if_pos (.inl high)
    · exact if_pos (.inr many)
    · by_cases range : 3 < stage.toNat ∨ 1500 < earned.toNat
      · exact if_pos range
      · rw [if_neg range, if_pos missing]
        rfl
  · refine exec_answered (takeSetProgress (byte q.val) stage earned) rfl listening ?_
    rw [takeSetProgress, below_byte_of_le (by decide)]
    dsimp only
    rw [heard, if_neg (by omega), if_neg fun bad => bad.1 empty, if_pos empty, empty]
    rfl
  · refine exec_answered (takeSetProgress (byte q.val) stage earned) rfl listening ?_
    rw [setProgress_checked low few (heard ▸ defined) (heard ▸ current), heard, if_pos (inPlay_iff.2 inPlay)]
    rfl
  · refine exec_answered (takeSetProgress (byte q.val) stage earned) rfl listening ?_
    rw [setProgress_checked low few (heard ▸ defined) (heard ▸ current), heard,
      if_neg fun p => (inPlay_iff.1 p).elim notRunning notPaused, sought, missingPattern_eq_some.2 ⟨lacks, lowest⟩]
    rfl
  · refine exec_answered (takeSetProgress (byte q.val) stage earned) rfl listening ?_
    rw [setProgress_checked low few (heard ▸ defined) (heard ▸ current), heard,
      if_neg fun p => (inPlay_iff.1 p).elim notRunning notPaused, sought, missingPattern_eq_none.2 complete]
    dsimp only
    rw [setProgress_eq current, reportActivity_play, reportActivity_again (s := s) (setQuest_rest ..)]
    rfl

end

section
/-!
The roster requests: the entries they leave, and the incumbents they judge afresh (R66 to R70).
-/

namespace Sys2Proof.Machine

open Sys2Proof

variable {s : State}

/-! ### Entries (R65 to R68) -/

/-- The roster's entries rise by serial (R65). -/
def rising (l : List RosterEntry) : Prop := l.Pairwise fun d e => d.serial.toNat < e.serial.toNat

/-- The entry of a serial in a list of entries. -/
def entryOf (l : List RosterEntry) (x : Serial) : Option RosterEntry := l.find? fun e => decide (e.serial = x)

theorem entryOf_cons (d : RosterEntry) (l : List RosterEntry) (x : Serial) :
    entryOf (d :: l) x = if d.serial = x then some d else entryOf l x := by
  unfold entryOf
  rw [List.find?_cons]
  by_cases same : d.serial = x <;> simp [same]

/-- No entry after the head of a rising list has a serial as low as the head's. -/
theorem entryOf_none_of_low {l : List RosterEntry} {x : Serial} (above : ∀ d ∈ l, x.toNat < d.serial.toNat) :
    entryOf l x = none := by
  refine List.find?_eq_none.2 fun d hd => ?_
  have := above d hd
  simp only [decide_eq_true_eq]
  rintro rfl
  exact absurd this (lt_irrefl _)

/-- An entry added or replaced is found under its serial, and every other as before. -/
theorem entryOf_insertEntry (e : RosterEntry) (x : Serial) (l : List RosterEntry) :
    entryOf (insertEntry e l) x = if x = e.serial then some e else entryOf l x := by
  induction l with
  | nil => rw [insertEntry, entryOf_cons]; simp only [eq_comm]
  | cons d l ih =>
    unfold insertEntry
    split
    case isTrue same =>
      simp only [entryOf_cons, ← same]
      by_cases here : x = e.serial
      · simp [here]
      · simp [here, Ne.symm here]
    case isFalse differ =>
      split
      · rw [entryOf_cons]
        simp only [eq_comm]
      · rw [entryOf_cons, ih, entryOf_cons]
        by_cases here : x = e.serial
        · have : d.serial ≠ x := fun h => differ (here ▸ h.symm)
          simp [here, Ne.symm differ]
        · simp [here]

/-- An entry of a new serial lengthens the list by one, and one of an enrolled serial not at all. -/
theorem length_insertEntry (e : RosterEntry) {l : List RosterEntry} (sorted : rising l) :
    (insertEntry e l).length = l.length + if (entryOf l e.serial).isSome then 0 else 1 := by
  induction l with
  | nil => rfl
  | cons d l ih =>
    obtain ⟨low, rest⟩ := List.pairwise_cons.1 sorted
    unfold insertEntry
    rw [entryOf_cons]
    split
    case isTrue same => simp [same]
    case isFalse differ =>
      rw [if_neg (Ne.symm differ)]
      split
      case isTrue below =>
        rw [entryOf_none_of_low fun x hx => below.trans (low x hx)]
        rfl
      case isFalse =>
        rw [List.length_cons, ih rest, List.length_cons]
        omega

/-- An entry withdrawn is gone, and every other stays. -/
theorem entryOf_filter (l : List RosterEntry) (x y : Serial) :
    entryOf (l.filter fun d => decide (d.serial ≠ x)) y = if y = x then none else entryOf l y := by
  unfold entryOf
  rw [List.find?_filter]
  split
  case isTrue same =>
    refine List.find?_eq_none.2 fun d _ => ?_
    simp [same]
  case isFalse differ =>
    congr 1
    funext d
    by_cases here : d.serial = y
    · simp [here, differ]
    · simp [here]

/-- A withdrawal of an enrolled serial shortens the list by one. -/
theorem length_filter_entry {l : List RosterEntry} {x : Serial} {e : RosterEntry} (sorted : rising l)
    (enrolled : entryOf l x = some e) : (l.filter fun d => decide (d.serial ≠ x)).length = l.length - 1 := by
  induction l with
  | nil => cases enrolled
  | cons d l ih =>
    obtain ⟨low, rest⟩ := List.pairwise_cons.1 sorted
    rw [entryOf_cons] at enrolled
    split at enrolled
    case isTrue same =>
      subst same
      have all : l.filter (fun d' => decide (d'.serial ≠ d.serial)) = l :=
        List.filter_eq_self.2 fun d' hd => by
          simp only [decide_eq_true_eq]
          intro h
          exact absurd (low d' hd) (by rw [h]; exact lt_irrefl _)
      simp only [List.filter_cons, ne_eq, not_true_eq_false, decide_false, Bool.false_eq_true, if_false, List.length_cons,
        Nat.add_sub_cancel]
      exact congrArg List.length all
    case isFalse differ =>
      have some_left : 0 < l.length := by
        cases l with
        | nil => cases enrolled
        | cons => simp
      rw [List.filter_cons_of_pos (by simpa using differ), List.length_cons, ih rest enrolled, List.length_cons]
      omega

/-! ### Incumbents judged afresh (R58, R70) -/

/-- Which incumbents a recomputation names: those of a serial, or all. -/
def namedBy (x : Option Serial) (i : Incumbent) : Bool := x.isNone || decide (x = some i.tile.serial)

/-- The frame's activity reported and the roster replaced. -/
def State.withRoster (s : State) (ros : Roster) : State := { s.reportActivity with roster := ros }

theorem withRoster_cell (ros : Roster) (c : CellId) : (s.withRoster ros).cell c = s.cell c := by
  simp [State.withRoster, State.cell]

theorem withRoster_quests (ros : Roster) : (s.withRoster ros).quests = s.quests := by
  simp [State.withRoster]

/-- The frame's activity reported, the roster replaced and the named incumbents judged by it. -/
def State.rostered (s : State) (ros : Roster) (x : Option Serial) : State := (s.withRoster ros).rejudge x

/-- A recomputation rewrites the cells and wants a pass if it changed one (R70). -/
theorem rejudge_eq (x : Option Serial) :
    let judged := s.mapCells fun _ r =>
      { r with incumbent := r.incumbent.map fun i => if namedBy x i then s.roster.rejudge i else i }
    s.rejudge x = if s.rejudgeCount x = 0 then judged else judged.wantPass := rfl

/-- The cells after a recomputation. -/
theorem rostered_cell (ros : Roster) (x : Option Serial) (c : CellId) :
    (s.rostered ros x).cell c =
      { s.cell c with incumbent := (s.cell c).incumbent.map fun i => if namedBy x i then ros.rejudge i else i } := by
  have cell := withRoster_cell (s := s) ros c
  rw [State.rostered, rejudge_eq]
  split
  · rw [mapCells_cell, cell]
    rfl
  · rw [wantPass_cell, mapCells_cell, cell]
    rfl

/-- A cell changes exactly when its incumbent is named and judged otherwise than before. -/
theorem rostered_changed (ros : Roster) (x : Option Serial) (c : CellId) :
    (s.rostered ros x).cell c ≠ s.cell c ↔
      ∃ i, (s.cell c).incumbent = some i ∧ namedBy x i = true ∧ ros.rejudge i ≠ i := by
  have record : (s.rostered ros x).cell c = s.cell c ↔
      (s.cell c).incumbent.map (fun i => if namedBy x i then ros.rejudge i else i) = (s.cell c).incumbent := by
    rw [rostered_cell]
    cases s.cell c
    simp
  rw [ne_eq, record]
  cases (s.cell c).incumbent with
  | none => simp
  | some i => cases named : namedBy x i <;> simp [named]

/-- The count answered is that of the cells changed. -/
theorem rejudgeCount_eq (ros : Roster) (x : Option Serial) :
    (s.withRoster ros).rejudgeCount x =
      allCells.countP fun c => decide ((s.rostered ros x).cell c ≠ s.cell c) := by
  unfold State.rejudgeCount
  refine List.countP_congr fun c _ => ?_
  rw [withRoster_cell, decide_eq_true_eq, rostered_changed, show (s.withRoster ros).roster = ros from rfl]
  cases (s.cell c).incumbent with
  | none => simp
  | some i => simp [namedBy]

/-- A recomputation that changes a cell wants a pass, and nothing else of the Quest Engine is touched. -/
theorem rostered_quests (ros : Roster) (x : Option Serial) :
    (s.rostered ros x).quests.records = s.quests.records ∧
      ((∃ c, (s.rostered ros x).cell c ≠ s.cell c) → (s.rostered ros x).quests = s.wantPass.quests) := by
  have count := rejudgeCount_eq (s := s) ros x
  refine ⟨?_, fun ⟨c, differs⟩ => ?_⟩
  · rw [State.rostered, rejudge_eq]
    split
    · rw [mapCells_quests, withRoster_quests]
    · rw [wantPass_records, mapCells_quests, withRoster_quests]
  · have some_changed : (s.withRoster ros).rejudgeCount x ≠ 0 := by
      rw [count, ← Nat.pos_iff_ne_zero, List.countP_pos_iff]
      exact ⟨c, mem_allCells c, decide_eq_true differs⟩
    rw [State.rostered, rejudge_eq, if_neg some_changed]
    unfold State.wantPass
    rw [mapCells_quests, withRoster_quests]

/-- From `s` to `t` the named incumbents were judged by the roster of `t`, and a change of one wanted a pass (R58, R70). -/
def State.judges (s t : State) (named : Incumbent → Bool) : Prop :=
  (∀ c, t.cell c =
    { s.cell c with
      incumbent := (s.cell c).incumbent.map fun i =>
        if named i then
          { i with counting := (t.roster.verdict i.tile.serial i.tile.edition).1
                   owner := (t.roster.verdict i.tile.serial i.tile.edition).2 }
        else i }) ∧
  ((∃ c, t.cell c ≠ s.cell c) → s.passFollows t) ∧ t.quests.records = s.quests.records ∧ s.lanesSteady t ∧
  t.rest = s.reportActivity.rest ∧ s.sameBut t [.roster, .cells, .quests, .lanes, .rest]

/-- The roster at the end of the event is the one given. -/
theorem rostered_roster (ros : Roster) (x : Option Serial) : (s.rostered ros x).finish.roster = ros := by
  simp [State.rostered, State.withRoster]

/-- What a recomputation leaves at the end of its event. -/
theorem rostered_judges (ros : Roster) (x : Option Serial) : s.judges (s.rostered ros x).finish (namedBy x) := by
  obtain ⟨records, wants⟩ := rostered_quests (s := s) ros x
  have cell : ∀ c, (s.rostered ros x).finish.cell c = (s.rostered ros x).cell c := by simp
  refine ⟨fun c => ?_, fun ⟨c, differs⟩ => ?_, ?_, fun n => ?_, by simp [State.rostered, State.withRoster], fun k changed => ?_⟩
  · rw [rostered_roster, cell, rostered_cell]
    rfl
  · exact finish_passFollows (wants ⟨c, cell c ▸ differs⟩)
  · rw [finish_records, records]
  · have steady := finish_steady (s.rostered ros x) n
    have lane : (s.rostered ros x).lane n = s.lane n := by simp [State.rostered, State.withRoster, State.lane]
    rwa [lane] at steady
  · cases k <;> simp [Component.same, State.rostered, State.withRoster] at changed ⊢

/-- The count answered is that of the cells changed at the end of the event. -/
theorem rejudgeCount_finish (ros : Roster) (x : Option Serial) :
    (s.withRoster ros).rejudgeCount x =
      allCells.countP fun c => decide ((s.rostered ros x).finish.cell c ≠ s.cell c) := by
  have cell : ∀ c, (s.rostered ros x).finish.cell c = (s.rostered ros x).cell c := by simp
  simp only [cell]
  exact rejudgeCount_eq ros x

/-! ### The requests' operands -/

/-- The number of a serial that identifies a tile reads as that serial (R66). -/
theorem serialOf_number {v : Serial} (low : v ≠ 0) (high : v ≠ 0xFFFFF) : serialOf (v.setWidth 24) = some v := by
  have zero : v.toNat ≠ 0 := fun h => low (BitVec.eq_of_toNat_eq h)
  have top : v.toNat ≠ 1048575 := fun h => high (BitVec.eq_of_toNat_eq h)
  have bound := v.isLt
  have number : (v.setWidth 24).toNat = v.toNat := by
    rw [BitVec.toNat_setWidth]
    omega
  rw [serialOf_eq, number, if_pos (by omega), BitVec.ofNat_toNat, BitVec.setWidth_eq]

theorem below_flag (b : Bool) : ∃ i : Fin 2, below 2 (flag b) = some i ∧ decide (i = 1) = b := by
  cases b
  · exact ⟨0, by decide, by decide⟩
  · exact ⟨1, by decide, by decide⟩

/-- The serial named, as a test. -/
theorem namedBy_some (v : Serial) : namedBy (some v) = fun i => decide (i.tile.serial = v) := by
  funext i
  simp [namedBy, eq_comm]

/-- The roster with other entries. -/
def Roster.withEntries (r : Roster) (l : List RosterEntry) : Roster := { r with entries := l }

/-- ENROLL with its operands in range (R67). -/
theorem takeEnroll_of {x : BitVec 24} {v : Serial} {ow bn : Byte} {o : Player} {b : Bool} (hx : serialOf x = some v)
    (ho : below 5 ow = some o) (hb : bn = flag b) :
    takeEnroll x ow bn s =
      if (!(s.roster.find v).isSome && decide (rosterRoom ≤ s.roster.entries.length)) = true then answered s .full []
      else
        let entries := insertEntry { serial := v, owner := o, banned := b } s.roster.entries
        let s1 := { s with roster := { s.roster with entries := entries } }
        success (s1.rejudge (some v)).finish
          [Config.enrollResultCode (!(s.roster.find v).isSome), byte entries.length, byte (s1.rejudgeCount (some v))] := by
  obtain ⟨i, read, value⟩ := below_flag b
  rw [takeEnroll, hx, ho, hb, read, ← value]

/-- The cells an event changed, counted as a reply carries them. -/
def changedCells (s t : State) : Byte := byte (allCells.countP fun c => decide (t.cell c ≠ s.cell c))

/-- ENROLL of a serial that is enrolled, or that there is room for (R67). -/
theorem exec_enroll {v : Serial} (low : v ≠ 0) (high : v ≠ 0xFFFFF) (o : Player) (b : Bool) (listening : s.listening)
    (sorted : rising s.roster.entries) (fits : (s.roster.find v).isSome = true ∨ s.roster.entries.length < 192) :
    let entries := insertEntry { serial := v, owner := o, banned := b } s.roster.entries
    let t := (s.rostered (s.roster.withEntries entries) (some v)).finish
    exec (.enroll (v.setWidth 24) (byte o.val) (flag b)) s =
      .next
        (t.replied 0x30
          [Config.enrollResultCode (!(s.roster.find v).isSome),
            byte (s.roster.entries.length + if (s.roster.find v).isSome then 0 else 1), changedCells s t]) := by
  have heard : s.reportActivity.roster = s.roster := by simp
  have length := length_insertEntry { serial := v, owner := o, banned := b } sorted
  dsimp only
  refine exec_answered (takeEnroll (v.setWidth 24) (byte o.val) (flag b)) rfl listening ?_
  rw [takeEnroll_of (serialOf_number low high) (below_byte_of_le (by decide) o) rfl, heard, if_neg, changedCells,
    ← rejudgeCount_finish, ← show _ = (s.roster.find v).isSome from rfl]
  · dsimp only
    rw [length]
    rfl
  · rcases fits with known | room
    · simp [known]
    · simp [decide_eq_false (show ¬rosterRoom ≤ s.roster.entries.length from Nat.not_le.2 room)]

/-- WITHDRAW of an enrolled serial (R68). -/
theorem exec_withdraw {v : Serial} {e : RosterEntry} (low : v ≠ 0) (high : v ≠ 0xFFFFF) (listening : s.listening)
    (sorted : rising s.roster.entries) (enrolled : s.roster.find v = some e) :
    let entries := s.roster.entries.filter fun d => decide (d.serial ≠ v)
    let t := (s.rostered (s.roster.withEntries entries) (some v)).finish
    exec (.withdraw (v.setWidth 24)) s =
      .next
        (t.replied 0x31 [byte e.owner.val, flag e.banned, byte (s.roster.entries.length - 1), changedCells s t]) := by
  have heard : s.reportActivity.roster = s.roster := by simp
  dsimp only
  refine exec_answered (takeWithdraw (v.setWidth 24)) rfl listening ?_
  rw [takeWithdraw, serialOf_number low high]
  dsimp only
  rw [heard, enrolled, changedCells, ← rejudgeCount_finish, ← length_filter_entry sorted enrolled]
  rfl

/-- SET_ROSTER_POLICY (R69). -/
theorem exec_setRosterPolicy (closed : Bool) (editions : BitVec 32) (listening : s.listening) :
    let t := (s.rostered { s.roster with closed := closed, editions := editions } none).finish
    exec (.setRosterPolicy (flag closed) editions) s =
      .next (t.replied 0x33 ([flag s.roster.closed] ++ bytes32 s.roster.editions ++ [changedCells s t])) := by
  have heard : s.reportActivity.roster = s.roster := by simp
  obtain ⟨i, read, value⟩ := below_flag closed
  dsimp only
  refine exec_answered (takeSetRosterPolicy (flag closed) editions) rfl listening ?_
  rw [takeSetRosterPolicy, read]
  dsimp only
  rw [heard, value, changedCells, ← rejudgeCount_finish]
  rfl

end Sys2Proof.Machine

open Sys2Proof Sys2Proof.Machine

/-- Settles O35: the operands, the entries found after each request, the recomputation, and the verdict by cases. -/
theorem rosterRequestsRejudgeIncumbents : Obligations.RosterRequestsRejudgeIncumbents := by
  refine ⟨fun x owner banned policy editions o b closed v s listening lawful => ?_, fun v edition e r => ⟨fun free => ?_, fun enrolled => ?_⟩⟩
  · intro number known changed judged
    obtain ⟨room, sorted⟩ := lawful
    have heard : s.reportActivity.roster = s.roster := by simp
    have recomputed : ∀ t named, s.judges t named → judged t named := fun t named h => h
    refine ⟨fun bad => ?_, fun bad => ?_, fun bad => ?_, fun low high => ⟨fun free full => ?_, fun fits => ?_, fun free => ?_, fun e enrolled => ?_⟩, ?_⟩
    · refine exec_badValue (block := takeEnroll x owner banned) rfl listening ?_
      unfold takeEnroll
      split
      case h_1 hx ho hb =>
        rcases bad with none | none | high | high
        · rw [serialOf_none (.inl none)] at hx; cases hx
        · rw [serialOf_none (.inr none)] at hx; cases hx
        · rw [below_eq_none (by omega)] at ho; cases ho
        · rw [below_eq_none (by omega)] at hb; cases hb
      case h_2 => rfl
    · exact exec_badValue (block := takeWithdraw x) rfl listening (by rw [takeWithdraw, serialOf_none bad])
    · refine exec_badValue (block := takeSetRosterPolicy policy editions) rfl listening ?_
      rw [takeSetRosterPolicy, below_eq_none (by omega)]
    · refine exec_answered (takeEnroll number (byte o.val) (flag b)) rfl listening ?_
      rw [takeEnroll_of (serialOf_number low high) (below_byte_of_le (by decide) o) rfl, heard, if_pos]
      · rfl
      · rw [Bool.and_eq_true]
        exact ⟨by simpa [known] using free, decide_eq_true full⟩
    · refine ⟨_, exec_enroll low high o b listening sorted fits, ?_, fun w other => ?_, ?_, ?_, ?_⟩
      · rw [rostered_roster]
        exact (entryOf_insertEntry _ v _).trans (if_pos rfl)
      · rw [rostered_roster]
        exact (entryOf_insertEntry _ w _).trans (if_neg other)
      · rw [rostered_roster]
        rfl
      · rw [rostered_roster]
        rfl
      · exact recomputed _ _ (namedBy_some v ▸ rostered_judges _ _)
    · refine exec_answered (takeWithdraw number) rfl listening ?_
      rw [takeWithdraw, serialOf_number low high]
      dsimp only
      have unknown : s.roster.find v = none := by simpa [known] using free
      rw [heard, unknown]
      rfl
    · refine ⟨_, exec_withdraw low high listening sorted enrolled, ?_, fun w other => ?_, ?_, ?_, ?_⟩
      · rw [rostered_roster]
        exact (entryOf_filter _ v v).trans (if_pos rfl)
      · rw [rostered_roster]
        exact (entryOf_filter _ v w).trans (if_neg other)
      · rw [rostered_roster]
        rfl
      · rw [rostered_roster]
        rfl
      · exact recomputed _ _ (namedBy_some v ▸ rostered_judges _ _)
    · refine ⟨_, exec_setRosterPolicy closed editions listening, rostered_roster _ _, ?_⟩
      exact recomputed _ _ (rostered_judges _ none)
  · simp only [Roster.verdict, free, Bool.and_eq_true, Bool.not_eq_true', and_self]
  · simp only [Roster.verdict, enrolled, Bool.and_eq_true, Bool.not_eq_true', and_self]

end

section
/-!
PLACE_SEGMENT and UNPLACE_SEGMENT: the overlap with the other placed lanes, and what a new record leaves (R3 to R6, R11).
-/

namespace Sys2Proof.Machine

open Sys2Proof

variable {s : State}

/-! ### Overlap (R4) -/

/-- Footprints overlap exactly when they share a position. -/
theorem overlaps_iff {p q : Placement} : p.overlaps q = true ↔ ∃ g, p.covers g = true ∧ q.covers g = true := by
  refine ⟨fun h => ?_, fun ⟨g, hp, hq⟩ => overlaps_of_covers hp hq⟩
  have wide : ∀ k : Fin 4, 0 < footprintWidth k ∧ 0 < footprintHeight k := by decide
  have px := wide p.h
  have qx := wide q.h
  refine ⟨⟨max p.ox q.ox, max p.oy q.oy⟩, ?_⟩
  simp only [Placement.covers, Placement.overlaps, Bool.and_eq_true, decide_eq_true_eq, Fin.coe_max] at *
  omega

/-- Another placed lane shares a position with a footprint. -/
def State.lieUnder (s : State) (p : Placement) (m : Lane) : Prop :=
  ∃ q, Table.read s.plan m = some q ∧ ∃ g, p.covers g = true ∧ q.covers g = true

/-- The test of the search for an overlap. -/
theorem overlapTest_iff {n m : Lane} {p : Placement} :
    (decide (m ≠ n) && match Table.read s.plan m with | some q => p.overlaps q | none => false) = true ↔
      m ≠ n ∧ s.lieUnder p m := by
  unfold State.lieUnder
  rw [Bool.and_eq_true, decide_eq_true_eq]
  cases Table.read s.plan m with
  | none => simp
  | some q => simp [overlaps_iff]

/-- The lane named by an overlap is the lowest other one that shares a position. -/
theorem overlapLane_eq_some {n m : Lane} {p : Placement} (other : m ≠ n) (shares : s.lieUnder p m)
    (lowest : ∀ k, k ≠ n → k < m → ¬s.lieUnder p k) : s.overlapLane n p = some m := by
  unfold State.overlapLane
  rw [← Fin.find?_eq_find?_finRange, Fin.find?_eq_some_iff]
  refine ⟨overlapTest_iff.2 ⟨other, shares⟩, fun k before => ?_⟩
  refine Bool.eq_false_iff.2 fun under => ?_
  obtain ⟨apart, under⟩ := overlapTest_iff.1 under
  exact lowest k apart before under

/-- No overlap is found where no other placed lane shares a position. -/
theorem overlapLane_eq_none {n : Lane} {p : Placement} (free : ∀ m, m ≠ n → ¬s.lieUnder p m) :
    s.overlapLane n p = none := by
  refine List.find?_eq_none.2 fun m _ under => ?_
  obtain ⟨other, under⟩ := overlapTest_iff.1 under
  exact free m other under

/-! ### A lane's record replaced (R5, R6) -/

/-- The frame's activity reported and a lane's placement replaced, before the end of the event. -/
def State.replaced (s : State) (n : Lane) (p : Option Placement) : State := s.reportActivity.replace n p

/-- The heading of a placement, 0 without one (R11). -/
def headingOf (p : Option Placement) : Fin 4 := match p with | some p => p.h | none => 0

/-- The lane's incumbents face by the new heading; no other cell is touched (R11). -/
theorem replaced_cell (n : Lane) (p : Option Placement) (c : CellId) :
    (s.replaced n p).cell c =
      if c.lane = n then
        { s.cell c with
          incumbent := (s.cell c).incumbent.map fun i => { i with facing := i.tile.pad + headingOf p } }
      else s.cell c := by
  have cell : ∀ h, State.cell { s.reportActivity with plan := h } c = s.cell c := fun h => by
    simp [State.cell]
  unfold State.replaced State.replace
  rw [wantPass_cell, (lampEvent_frame _ _).2.2.2.2.2.2.2.2.2.2.2.2.2.2.1, State.refaceLane, mapCells_cell, cell]
  refine if_congr Iff.rfl ?_ rfl
  have heading : State.heading { s.reportActivity with plan := Table.put s.reportActivity.plan n p } n = headingOf p := by
    unfold State.heading
    dsimp only
    rw [Table.read_put_same]
    rfl
  simp only [State.facingOf, heading]

/-- A record replaced is a step at the lamps. -/
theorem replaced_lampStep (n : Lane) (p : Option Placement) : s.lampStep (s.replaced n p) := by
  let f : State → State := fun s => { s with plan := Table.put s.plan n p }.refaceLane n
  refine lampStep_congr (u' := s.reportActivity.lampEvent f) lampsAlike_reportActivity ?_
    (lampEvent_lampStep (fun _ => rfl) rfl rfl)
  exact ⟨rfl, rfl, rfl, rfl, rfl, rfl⟩

/-- An event that wrote nothing at the lamps but the guard, in a step there, moved the guard alone. -/
theorem guardAlone_finish {u : State} (step : s.lampStep u) (lamps : ∃ g, u.lamps = { s.lamps with guard := g }) :
    s.guardAlone u.finish := by
  obtain ⟨g, guard⟩ := lamps
  refine ⟨?_, lampStep_notices step⟩
  rw [show u.finish.lamps = u.lamps by simp, guard]

/-- What a new record leaves at the end of its event. -/
theorem replaced_finish (n : Lane) (p : Option Placement) :
    let t := (s.replaced n p).finish
    t.plan = Table.put s.plan n p ∧
      (∀ c, t.cell c =
        if c.lane = n then
          { s.cell c with
            incumbent := (s.cell c).incumbent.map fun i => { i with facing := i.tile.pad + headingOf p } }
        else s.cell c) ∧
      s.passFollows t ∧ s.guardAlone t ∧ s.drivesFollow t ∧ s.drivesAlone t ∧ s.lanesSteady t ∧
      t.rest = s.reportActivity.rest ∧
      s.sameBut t [.plan, .cells, .quests, .lamps, .notices, .lanes, .rest] := by
  have step := replaced_lampStep (s := s) n p
  obtain ⟨follow, alone, steady⟩ := finish_lampStep step
  obtain ⟨guard, lamps⟩ :=
    lampEvent_lamps s.reportActivity fun s => { s with plan := Table.put s.plan n p }.refaceLane n
  refine ⟨by simp [State.replaced, State.replace], fun c => ?_, finish_passFollows ?_,
    guardAlone_finish step ⟨guard, lamps.trans (by simp)⟩, follow, alone, steady,
    by simp [State.replaced, State.replace], fun k changed => ?_⟩
  · exact (by simp : (s.replaced n p).finish.cell c = (s.replaced n p).cell c).trans (replaced_cell n p c)
  · simp [State.replaced, State.replace, State.wantPass]
  · cases k <;> simp [Component.same, State.replaced, State.replace] at changed ⊢

/-! ### The requests -/

/-- PLACE_SEGMENT with its operands in range (R5). -/
theorem takePlaceSegment_of (n : Lane) (x y : Fin 16) (h : Fin 4) :
    takePlaceSegment (byte n.val) (byte x.val) (byte y.val) (byte h.val) s =
      let p : Placement := { ox := x, oy := y, h := h }
      if p.onGrid = true then
        match s.overlapLane n p with
        | some m => refused s .overlap [byte m.val]
        | none => success (s.replace n (some p)).finish p.bounds
      else refused s .offgrid [] := by
  rw [takePlaceSegment, below_byte_of_le (by decide), below_byte_of_le (by decide), below_byte_of_le (by decide),
    below_byte_of_le (by decide)] <;> rfl

/-- An operand of PLACE_SEGMENT out of range (R3, R5). -/
theorem takePlaceSegment_badValue {a b c d : Byte} (bad : 7 < a.toNat ∨ 15 < b.toNat ∨ 15 < c.toNat ∨ 3 < d.toNat) :
    takePlaceSegment a b c d s = badValue s := by
  unfold takePlaceSegment
  split
  case h_1 ha hb hc hd =>
    rcases bad with high | high | high | high
    · rw [below_eq_none (by omega)] at ha; cases ha
    · rw [below_eq_none (by omega)] at hb; cases hb
    · rw [below_eq_none (by omega)] at hc; cases hc
    · rw [below_eq_none (by omega)] at hd; cases hd
  case h_2 => rfl

end Sys2Proof.Machine

open Sys2Proof Sys2Proof.Machine

/-- Settles O16: the checks in their order, and the new record from what it leaves at the end of its event. -/
theorem placeAndUnplaceSegments : Obligations.PlaceAndUnplaceSegments := by
  refine ⟨fun a b c d n x y h s listening => ?_, fun a n s listening => ?_⟩
  · intro p w t shares offered
    have plan : s.reportActivity.plan = s.plan := by simp
    have sought : s.reportActivity.overlapLane n p = s.overlapLane n p := by rw [State.overlapLane, plan]; rfl
    have onGrid : x.val + w - 1 ≤ 15 → y.val + t - 1 ≤ 15 → p.onGrid = true := fun wide high => by
      rw [Placement.onGrid, Bool.and_eq_true]
      exact ⟨decide_eq_true wide, decide_eq_true high⟩
    refine ⟨fun bad => ?_, fun off => ?_, fun wide high => ⟨fun m other shared lowest => ?_, fun free => ?_⟩⟩
    · exact exec_badValue (block := takePlaceSegment a b c d) rfl listening (takePlaceSegment_badValue bad)
    · refine exec_answered (takePlaceSegment _ _ _ _) rfl listening ((takePlaceSegment_of n x y h).trans ?_)
      dsimp only
      rw [if_neg]
      · rfl
      · simp only [Placement.onGrid, Bool.and_eq_true, decide_eq_true_eq]
        intro ⟨wide, high⟩
        exact off.elim (fun o => absurd wide (Nat.not_le.2 o)) fun o => absurd high (Nat.not_le.2 o)
    · refine exec_answered (takePlaceSegment _ _ _ _) rfl listening ((takePlaceSegment_of n x y h).trans ?_)
      dsimp only
      rw [if_pos (onGrid wide high), sought, overlapLane_eq_some other shared lowest]
      rfl
    · obtain ⟨plan', cells, rest⟩ := replaced_finish (s := s) n (some p)
      refine ⟨(s.replaced n (some p)).finish, ?_, plan', cells, rest⟩
      refine exec_answered (takePlaceSegment _ _ _ _) rfl listening ((takePlaceSegment_of n x y h).trans ?_)
      dsimp only
      rw [if_pos (onGrid wide high), sought, overlapLane_eq_none free]
      rfl
  · have plan : s.reportActivity.plan = s.plan := by simp
    refine ⟨fun bad => ?_, fun unplaced => ?_, fun placed => ?_⟩
    · exact exec_badValue (block := takeUnplaceSegment a) rfl listening (by rw [takeUnplaceSegment, below_eq_none (by omega)])
    · refine exec_answered (takeUnplaceSegment (byte n.val)) rfl listening ?_
      rw [takeUnplaceSegment, below_byte_of_le (by decide)]
      dsimp only
      rw [plan, unplaced]
      rfl
    · obtain ⟨plan', cells, rest⟩ := replaced_finish (s := s) n none
      refine ⟨(s.replaced n none).finish, ?_, plan', fun e => ?_, rest⟩
      · refine exec_answered (takeUnplaceSegment (byte n.val)) rfl listening ?_
        rw [takeUnplaceSegment, below_byte_of_le (by decide)]
        dsimp only
        rw [plan, if_pos placed]
        rfl
      · rw [cells]
        simp only [headingOf, add_zero]

end

section
/-!
Lane timers, LAMP and CHECK slots, and connectors seen: events that write one lane and let the arbiters look (R16, R27 to R34).
-/

namespace Sys2Proof.Machine

open Sys2Proof

variable {s : State}

/-! ### One lane written at the end of an event -/

/-- An event that wrote lane `n` alone among the lanes: its arbiter found it as written, and the others are steady. -/
theorem finish_written {u : State} {n : Lane} {v : LaneUnit} (here : u.lane n = v) (others : ∀ m, m ≠ n → u.lane m = s.lane m) :
    u.finish.laneGoes n v ∧ s.otherLanesSteady u.finish n := by
  refine ⟨here ▸ finish_laneGoes u n, fun m other => ?_⟩
  rw [← others m other]
  exact finish_steady u m

/-- A lane that may not be granted a slot stays as written. -/
theorem finish_written_idle {u : State} {n : Lane} {v : LaneUnit} (here : u.lane n = v) (idle : v.grantable = false) :
    u.finish.lane n = v := by
  rw [← here]
  exact finish_idle u (here ▸ idle)

/-- A lane with a slot in flight is granted nothing. -/
theorem busy_idle {v : LaneUnit} (busy : v.slot.isSome = true) : v.grantable = false := by
  cases h : v.slot with
  | none => rw [h] at busy; cases busy
  | some => simp [LaneUnit.grantable, h]

/-- A lane that is not RUNNING is granted nothing. -/
theorem unpowered_idle {v : LaneUnit} (h : v.state ≠ .running) : v.grantable = false := by
  simp [LaneUnit.grantable, h]

/-- A lane written, as the other lanes see it. -/
theorem setLane_others (n : Lane) (v : LaneUnit) : ∀ m, m ≠ n → (s.setLane n v).lane m = s.lane m := fun _ other =>
  setLane_lane_ne _ _ other

/-- An event that wrote a lane leaves every other block but the Quest Engine, whose pass may start. -/
theorem setLane_sameBut (n : Lane) (v : LaneUnit) : s.sameBut (s.setLane n v).finish [.lanes, .quests] := by
  intro k changed
  cases k <;> simp [Component.same] at changed ⊢

/-- An event that wrote one lane, and left it out of the arbiter's reach. -/
theorem setLane_finish_idle {n : Lane} {v : LaneUnit} (idle : v.grantable = false) :
    (s.setLane n v).finish.lane n = v ∧ s.otherLanesSteady (s.setLane n v).finish n ∧
      (s.setLane n v).finish.quests.records = s.quests.records ∧ s.sameBut (s.setLane n v).finish [.lanes, .quests] :=
  ⟨finish_written_idle (setLane_lane_same ..) idle, (finish_written (setLane_lane_same ..) (setLane_others n v)).2,
    by simp [finish_records], setLane_sameBut n v⟩

/-- A lane written twice is as it was written last. -/
theorem setLane_setLane (n : Lane) (v w : LaneUnit) : (s.setLane n v).setLane n w = s.setLane n w := by
  have lanes : ((s.setLane n v).setLane n w).lanes = (s.setLane n w).lanes := by
    refine lanes_ext fun m => ?_
    by_cases here : m = n
    · simp [here]
    · simp [setLane_lane, here]
  exact congrArg (fun l => { s with lanes := l }) lanes

/-! ### Requests kept in hand (R162) -/

/-- A request command whose block keeps it in hand leaves the block's state (R162). -/
theorem exec_inHand {t : State} {i : Instr} (block : State → Taken)
    (hi : exec i s = .next (s.live fun s => s.request i block)) (listening : s.listening)
    (hb : block s.reportActivity = (t, none)) : exec i s = .next t := by
  obtain ⟨⟨running, -⟩, -⟩ := id listening
  rw [hi, live_running _ running, request_listening i block listening, take_inHand hb]

/-! ### CONNECTOR_SEEN (R15, R16) -/

/-- A lane's connector seen, in a lane that does not link. -/
theorem seeConnector_noted {n : Lane} (state : (s.lane n).state = .linking ∨ (s.lane n).state = .parked ∨ (s.lane n).state = .running) :
    s.seeConnector n = s := by
  unfold State.seeConnector
  rcases state with h | h | h <;> rw [h]

/-- A connector seen on an ABSENT lane links it (R16). -/
theorem seeConnector_absent {n : Lane} (state : (s.lane n).state = .absent) :
    s.seeConnector n = (s.beginLink n .absent).wake (.connector n) := by
  unfold State.seeConnector
  rw [state]

/-- A connector seen on a LOST lane links it (R16). -/
theorem seeConnector_lost {n : Lane} (state : (s.lane n).state = .lost) :
    s.seeConnector n = (s.beginLink n .lost).wake (.connector n) := by
  unfold State.seeConnector
  rw [state]

/-! ### The scan (R30, R31) -/

/-- A lane with a cell to read has a first one. -/
theorem exists_first_readable {n : Lane} (h : s.allRetired n = false) :
    ∃ i, s.sweepFrom n 0 = some i ∧ s.readable n i = true ∧ ∀ j, j < i → s.readable n j = false := by
  obtain ⟨c, hc, live⟩ := List.all_eq_false.1 h
  obtain ⟨j, -, rfl⟩ := List.mem_map.1 hc
  have reads : s.readable n j = true := by simpa [State.readable] using live
  have found : s.sweepFrom n 0 ≠ none := fun e => by
    have := List.find?_eq_none.1 e j (List.mem_finRange j)
    simp [reads] at this
  obtain ⟨i, first⟩ := Option.ne_none_iff_exists'.1 found
  refine ⟨i, first, ?_⟩
  unfold State.sweepFrom at first
  rw [← Fin.find?_eq_find?_finRange, Fin.find?_eq_some_iff] at first
  obtain ⟨here, before⟩ := first
  exact ⟨by simpa using here, fun j low => by simpa using before j low⟩

/-- The pace timer's end, on a lane with a cell to read. -/
theorem endPace_eq {n : Lane} (h : s.allRetired n = false) :
    s.endPace n = s.setLane n { s.lane n with pace := none, waiting := true, fairness := 0 } := by
  have none_retired : (s.setLane n { s.lane n with pace := none }).allRetired n = false := h
  unfold State.endPace State.beginWaiting
  rw [none_retired, if_neg Bool.false_ne_true, setLane_lane_same, setLane_setLane]

/-! ### CHECK slots (R33, R34) -/

/-- A lane whose check is pending, with no slot in flight and no park waiting, is granted the check (R27). -/
theorem grant_check {n : Lane} (running : (s.lane n).state = .running) (free : (s.lane n).slot = none)
    (stays : (s.lane n).parkWaiting = false) (pending : (s.lane n).checkPending = true) :
    (s.grant n).lane n = { s.lane n with slot := some .check } := by
  unfold State.grant
  dsimp only
  rw [if_pos (by simp [LaneUnit.grantable, running, free, stays]), if_pos pending, setLane_lane_same]

/-- The verdict is PASS for the reference responder's code at amplitude 128 to 192 (R34). -/
theorem checkVerdict_eq (r : RawResult) :
    checkVerdict r =
      decide (r.kind = .decoded { serial := 0xFFFFF, kind := 63, side := .b, edition := 31 } ∧ 128 ≤ r.amplitude ∧
        r.amplitude ≤ 192) := by
  rw [checkVerdict, Bool.decide_and, Bool.decide_and, Bool.and_assoc]
  rfl

/-- A check that ends posts a FAIL to the first-fault record (R61). -/
theorem endCheck_firstFault (n : Lane) (verdict : Bool) (r : RawResult) :
    (s.endCheck n verdict r).firstFault =
      if verdict then s.firstFault
      else
        match s.firstFault with
        | some f => some { f with later := min 255 (f.later + 1) }
        | none =>
          some { cause := .laneCheck, place := .lane n, outcome := r.kind.outcome, score := 0, clock := s.play.clock
                 later := 0 } := by
  unfold State.endCheck
  dsimp only
  split
  · rfl
  · unfold State.postFault
    cases h : s.firstFault <;> simp [h, State.pushReply]

/-- What LANE_CHECK leaves of a RUNNING lane before the end of its event: the check pending, the request in hand. -/
def State.checkHeld (s : State) (n : Lane) : State :=
  { s.reportActivity.setLane n { s.lane n with checkPending := true } with
    link := { s.link with inHand := some (.laneCheck n) } }

/-- LANE_CHECK stays in hand on a RUNNING lane (R33). -/
theorem exec_laneCheck {n : Lane} (listening : s.listening) (running : (s.lane n).state = .running) :
    exec (.laneCheck (byte n.val)) s = .next (s.checkHeld n).finish := by
  have lane : s.reportActivity.lane n = s.lane n := by simp
  have link : s.reportActivity.link = s.link := by simp
  refine exec_inHand (takeLaneCheck (byte n.val)) rfl listening ?_
  rw [takeLaneCheck, below_byte]
  dsimp only
  rw [lane, if_neg (not_not_intro running), setLane_link, link]
  rfl

end Sys2Proof.Machine

open Sys2Proof Sys2Proof.Machine

/-- Settles O18: the lane linked or noted, and the RESTING part woken. -/
theorem connectorSeenLinksTheLane : Obligations.ConnectorSeenLinksTheLane := by
  intro n s running u
  have step : exec (.connectorSeen n) s = .next ((s.setConnector n true).seeConnector n).finish :=
    exec_live (fun s => ((s.setConnector n true).seeConnector n).finish) rfl running
  have seen : (s.setConnector n true).lane n = { u with connector := true } := setLane_lane_same ..
  have state : ∀ st, ((s.setConnector n true).lane n).state = st ↔ u.state = st := fun st => by rw [seen]
  rw [step]
  have links : ∀ from_ : ReturnState, (s.setConnector n true).beginLink n from_ =
      s.setLane n { u with connector := true, state := .linking, returnState := some from_, settle := some 200 } :=
    fun from_ => by
      rw [State.beginLink, seen, State.setConnector, setLane_setLane]
  have absent := seeConnector_absent (s := s.setConnector n true) (n := n)
  have lost := seeConnector_lost (s := s.setConnector n true) (n := n)
  rw [state, links] at absent lost
  refine ⟨fun awake => ⟨_, rfl, ?_⟩, fun resting from_ => ⟨_, rfl, ?_⟩⟩
  · have wakeless : ∀ v c, (s.setLane n v).wake c = s.setLane n v := fun v c => wake_awake (s := s.setLane n v) c awake
    simp only [wakeless] at absent lost
    have noted := seeConnector_noted (s := s.setConnector n true) (n := n)
    simp only [state] at noted
    have states : ∀ st : LaneState, st = .absent ∨ st = .lost ∨ (st = .linking ∨ st = .parked) ∨ st = .running := by
      intro st
      cases st <;> simp
    have differs : ∀ {st other : LaneState}, u.state = st → st ≠ other → u.state ≠ other := fun h apart e =>
      apart (h.symm.trans e)
    rcases states u.state with h | h | h | h
    · rw [absent h]
      obtain ⟨lane, rest⟩ := setLane_finish_idle (s := s) (n := n) (v := { u with
        connector := true, state := .linking, returnState := some .absent, settle := some 200 }) (unpowered_idle nofun)
      exact ⟨fun _ => lane, fun e => (differs h (by simp) e).elim,
        fun e => (e.elim (differs h (by simp)) (differs h (by simp))).elim, fun e => (differs h (by simp) e).elim, rest⟩
    · rw [lost h]
      obtain ⟨lane, rest⟩ := setLane_finish_idle (s := s) (n := n) (v := { u with
        connector := true, state := .linking, returnState := some .lost, settle := some 200 }) (unpowered_idle nofun)
      exact ⟨fun e => (differs h (by simp) e).elim, fun _ => lane,
        fun e => (e.elim (differs h (by simp)) (differs h (by simp))).elim, fun e => (differs h (by simp) e).elim, rest⟩
    · have still : u.state ≠ .absent ∧ u.state ≠ .lost ∧ u.state ≠ .running := by
        rcases h with h | h <;> rw [h] <;> simp
      obtain ⟨notAbsent, notLost, notRunning⟩ := still
      have only : s.setConnector n true = s.setLane n { u with connector := true } := rfl
      rw [noted (h.elim .inl fun h => .inr (.inl h)), only]
      obtain ⟨lane, rest⟩ := setLane_finish_idle (s := s) (n := n) (v := { u with connector := true })
        (unpowered_idle notRunning)
      exact ⟨fun e => (notAbsent e).elim, fun e => (notLost e).elim, fun _ => lane, fun e => (notRunning e).elim, rest⟩
    · rw [noted (.inr (.inr h))]
      have steady := finish_steady (s.setConnector n true) n
      rw [seen] at steady
      exact ⟨fun e => (differs h (by simp) e).elim, fun e => (differs h (by simp) e).elim,
        fun e => (e.elim (differs h (by simp)) (differs h (by simp))).elim, fun _ => steady,
        (finish_written seen (setLane_others n _)).2, by simp [finish_records, State.setConnector], setLane_sameBut n _⟩
  · have woken : ∀ v c, v.state = .linking →
        ((s.setLane n v).wake c).finish.rest.part = .ready ∧ (((s.setLane n v).wake c).finish.lane n).state = .linking :=
      fun v c linking => by
        have rests : (s.setLane n v).rest.part = .resting := resting
        have lane := wake_lane _ n rests c
        rw [setLane_lane_same, State.toNormal, if_neg (by simp [linking])] at lane
        refine ⟨?_, ?_⟩
        · rw [(finish_frame _).2.1, wake_rest _ c rests]
        · rw [finish_written_idle lane (unpowered_idle (by simp [linking]))]
          exact linking
    rcases from_ with h | h
    · rw [absent h]
      exact woken _ _ rfl
    · rw [lost h]
      exact woken _ _ rfl

/-- Settles O24: the refusals, the check pending and granted, and the slot's end with its verdict. -/
theorem laneCheckGivesItsVerdict : Obligations.LaneCheckGivesItsVerdict := by
  intro a n marks s u r pass
  refine ⟨fun listening => ⟨fun high => ?_, fun other => ?_, fun running => ?_⟩, fun live running check => ?_⟩
  · exact exec_badValue (block := takeLaneCheck a) rfl listening (by rw [takeLaneCheck, below_eq_none (by omega)])
  · have lane : s.reportActivity.lane n = u := by simp [u]
    refine exec_answered (takeLaneCheck (byte n.val)) rfl listening ?_
    rw [takeLaneCheck, below_byte]
    dsimp only
    rw [lane, if_pos other]
    rfl
  · have here : (s.checkHeld n).lane n = { u with checkPending := true } := setLane_lane_same ..
    have others : ∀ m, m ≠ n → (s.checkHeld n).lane m = s.lane m := fun m other =>
      (setLane_others (s := s.reportActivity) n _ m other).trans (by simp)
    obtain ⟨-, steady⟩ := finish_written here others
    refine ⟨_, exec_laneCheck listening running, ?_, fun free stays => ?_, fun busy => ?_, ?_, steady, ?_, ?_, fun k changed => ?_⟩
    · have := finish_steady (s.checkHeld n) n
      simp only [LaneUnit.steady, here] at this
      simp [this]
    · rw [finish_lane, grant_check] <;> simp [here, running, free, stays, u]
    · exact finish_written_idle here (busy_idle busy)
    · simp [State.checkHeld]
    · simp [finish_records, State.checkHeld]
    · simp [State.checkHeld]
    · cases k <;> simp [Component.same, State.checkHeld] at changed ⊢
  · have verdict : checkVerdict r = pass := checkVerdict_eq r
    have here : (s.endCheckSlot n r).lane n = { u with slot := none, checkPending := false } := by
      rw [State.endCheckSlot, endCheck_lane, if_pos rfl, setLane_lane_same]
    have others : ∀ m, m ≠ n → (s.endCheckSlot n r).lane m = s.lane m := fun m other => by
      rw [State.endCheckSlot, endCheck_lane, if_neg other, setLane_lane_ne _ _ other]
    obtain ⟨goes, steady⟩ := finish_written here others
    have kept := finish_steady (s.endCheckSlot n r) n
    rw [here] at kept
    simp only [LaneUnit.steady] at kept
    refine ⟨(s.endCheckSlot n r).finish, ?_, by simp [kept], by simp [kept], goes, ?_, ?_, steady, ?_, fun k changed => ?_⟩
    · rw [exec_live (fun s => if (s.lane n).state = .running ∧ (s.lane n).slot = some .check then
        (s.endCheckSlot n (hear true marks)).finish else s) rfl live, if_pos ⟨running, check⟩]
    · rw [show (s.endCheckSlot n r).finish.link = (s.endCheckSlot n r).link by simp, State.endCheckSlot, endCheck_link, verdict]
      rfl
    · rw [show (s.endCheckSlot n r).finish.firstFault = (s.endCheckSlot n r).firstFault by simp, State.endCheckSlot,
        endCheck_firstFault, verdict]
      rfl
    · simp [finish_records, State.endCheckSlot]
    · cases k <;> simp [Component.same, State.endCheckSlot] at changed ⊢

/-- Settles O26: each timer and the slot's end write the lane. -/
theorem laneTimersAndLampSlots : Obligations.LaneTimersAndLampSlots := by
  intro n copy s live u running
  refine ⟨fun normal pace busy stands => ?_, fun timed busy => ?_, fun flight => ?_⟩
  · have here := setLane_lane_same s n { u with pace := none, waiting := true, fairness := 0 }
    refine ⟨(s.endPace n).finish, ?_, ?_⟩
    · rw [exec_live (fun s => if (s.lane n).state = .running ∧ (s.lane n).mode = .normal ∧ (s.lane n).pace.isSome then
        (s.endPace n).finish else s) rfl live, if_pos ⟨running, normal, pace⟩]
    · rw [endPace_eq stands]
      exact ⟨finish_written_idle here (busy_idle busy), (finish_written here (setLane_others n _)).2, by simp [finish_records],
        setLane_sameBut n _⟩
  · refine ⟨(s.beginSweep n).finish, ?_, ?_⟩
    · rw [exec_live (fun s => if (s.lane n).state = .running ∧ (s.lane n).sweepTimer.isSome then (s.beginSweep n).finish
        else s) rfl live, if_pos ⟨running, timed⟩]
    · unfold State.beginSweep
      dsimp only
      split
      case isTrue waits =>
        have here := setLane_lane_same s n { u with sweepTimer := some 250 }
        refine ⟨fun _ => finish_written_idle here (busy_idle busy), fun idle => ?_, (finish_written here (setLane_others n _)).2,
          by simp [finish_records], setLane_sameBut n _⟩
        rw [show (s.lane n).waiting = false from idle] at waits
        cases waits
      case isFalse idle =>
        have here := setLane_lane_same s n
          { u with sweepTimer := some 250, sweep := s.sweepFrom n 0, waiting := (s.sweepFrom n 0).isSome, fairness := 0 }
        refine ⟨fun waits => absurd waits idle, fun _ stands => ?_, (finish_written here (setLane_others n _)).2,
          by simp [finish_records], setLane_sameBut n _⟩
        obtain ⟨i, first, reads, before⟩ := exists_first_readable stands
        rw [first] at here ⊢
        exact ⟨i, reads, before, finish_written_idle here (busy_idle busy)⟩
  · have here := setLane_lane_same s n { u with slot := none, latch := copy }
    obtain ⟨goes, others⟩ := finish_written here (setLane_others n _)
    refine ⟨(s.setLane n { u with slot := none, latch := copy }).finish, ?_, ?_, goes, others, by simp [finish_records],
      setLane_sameBut n _⟩
    · have due : s.lampInFlight n = some copy := by
        unfold State.lampInFlight
        rw [if_pos running, show (s.lane n).slot = _ from flight]
      rw [exec_live (fun s => match s.lampInFlight n with
        | some copy => (s.setLane n { s.lane n with slot := none, latch := copy }).finish
        | none => s) rfl live, due]
    · have := finish_steady (s.setLane n { u with slot := none, latch := copy }) n
      rw [here] at this
      exact this

end

section
/-!
Parks: a lane parked at once, or when its slot in flight has ended (R20, R54, R162).
-/

namespace Sys2Proof.Machine

open Sys2Proof

variable {s : State}

/-- An event at the lamps that writes no lamp and makes no notice of its own moves the guard alone (R138, R140). -/
theorem lampEvent_guardAlone {f : State → State} (lamps : (f s).lamps = s.lamps) (notices : (f s).notices = s.notices) :
    s.guardAlone (s.lampEvent f) := by
  obtain ⟨g, written⟩ := lampEvent_lamps s f
  refine ⟨?_, fun still => ?_⟩
  · rw [written, lamps]
  · rw [lampEvent_unmoved (by rw [still, lamps]), ← notices]
    simp

/-- Two states with the same lamps and notices moved the guard alike. -/
theorem guardAlone_congr {r t u : State} (h : r.guardAlone t) (before : r.lamps = s.lamps ∧ r.notices = s.notices)
    (after : u.lamps = t.lamps ∧ u.notices = t.notices) : s.guardAlone u := by
  obtain ⟨lamps, notices⟩ := before
  obtain ⟨lamps', notices'⟩ := after
  unfold State.guardAlone at h ⊢
  rwa [lamps', notices', ← lamps, ← notices]

/-- The cells of a lane at a LOSS or PARK event (R54). -/
theorem loseCells_cell (n : Lane) (c : CellId) :
    (s.loseCells n).cell c = if c.lane = n then (s.cell c).lose else s.cell c := by
  unfold State.loseCells
  rw [mapCells_cell]

/-! ### A park of a RUNNING lane (R20) -/

/-- What a park makes of a RUNNING lane and its cells, beside the guard. -/
structure State.parksRunning (s t : State) (n : Lane) : Prop where
  lane : ∃ b, t.lane n = { (s.lane n).stopped .parked with stale := b }
  others : ∀ m, m ≠ n → ∃ b, t.lane m = { s.lane m with stale := b }
  cells : ∀ c, t.cell c = if c.lane = n then (s.cell c).lose else s.cell c
  guard : s.guardAlone t
  quests : t.quests = s.quests

theorem park_parksRunning {n : Lane} (running : (s.lane n).state = .running) : s.parksRunning (s.park n) n := by
  have parked : s.park n = (s.lampEvent fun s' => s'.setLane n ((s.lane n).stopped .parked)).loseCells n := by
    unfold State.park
    dsimp only
    rw [running]
  have alone : s.guardAlone (s.lampEvent fun s' => s'.setLane n ((s.lane n).stopped .parked)) :=
    lampEvent_guardAlone rfl rfl
  rw [parked]
  refine ⟨?_, fun m other => ?_, fun c => ?_, guardAlone_congr alone ⟨rfl, rfl⟩ (by simp), by simp⟩
  · obtain ⟨b, lane⟩ := lampEvent_lane s (fun s' => s'.setLane n ((s.lane n).stopped .parked)) n
    rw [setLane_lane_same] at lane
    exact ⟨b, (by simp : _ = State.lane _ n).trans lane⟩
  · obtain ⟨b, lane⟩ := lampEvent_lane s (fun s' => s'.setLane n ((s.lane n).stopped .parked)) m
    rw [setLane_lane_ne _ _ other] at lane
    exact ⟨b, (by simp : _ = State.lane _ m).trans lane⟩
  · rw [loseCells_cell]
    simp

/-- What a park of a RUNNING lane leaves at the end of its event. -/
structure State.parkedFromRunning (s t : State) (n : Lane) : Prop where
  state : (t.lane n).state = .parked
  slot : (t.lane n).slot = none
  confirms : (t.lane n).confirms = []
  fairness : (t.lane n).fairness = 0
  hold : (t.lane n).hold = (s.lane n).hold
  parkWaiting : (t.lane n).parkWaiting = false
  latch : (t.lane n).latch = Table.full 12 .off
  cells : ∀ c, t.cell c = if c.lane = n then (s.cell c).lose else s.cell c
  guard : s.guardAlone t
  records : t.quests.records = s.quests.records
  others : s.otherLanesSteady t n

/-- The end of the event grants the parked lane nothing; `w` is `s` with no park waiting on the lane any more. -/
theorem parksRunning_finish {w t : State} {n : Lane} (h : w.parksRunning t n)
    (before : w.lane n = { s.lane n with parkWaiting := false } ∧ ∀ m, m ≠ n → w.lane m = s.lane m)
    (same : w.cells = s.cells ∧ w.lamps = s.lamps ∧ w.notices = s.notices ∧ w.quests = s.quests) :
    s.parkedFromRunning t.finish n := by
  obtain ⟨⟨b, lane⟩, others, cells, guard, quests⟩ := h
  obtain ⟨lanes, apart⟩ := before
  obtain ⟨cells', lamps, notices, quests'⟩ := same
  rw [lanes] at lane
  have cell : ∀ c, w.cell c = s.cell c := fun c => by rw [State.cell, cells']; rfl
  have here := finish_written_idle lane (unpowered_idle nofun)
  refine ⟨by rw [here]; rfl, by rw [here]; rfl, by rw [here]; rfl, by rw [here]; rfl, by rw [here]; rfl, by rw [here]; rfl,
    by rw [here]; rfl, fun c => ?_, guardAlone_congr guard ⟨lamps, notices⟩ (by simp), ?_, fun m other => ?_⟩
  · rw [← cell, ← cells]
    simp
  · rw [finish_records, quests, quests']
  · obtain ⟨b, lane⟩ := others m other
    have steady := finish_steady t m
    rw [lane, apart m other] at steady
    exact steady

/-! ### A park of any other lane -/

/-- A lane that is not RUNNING, as a park leaves it (R20). -/
def LaneUnit.parkedStill (u : LaneUnit) : LaneUnit :=
  if u.state = .parked then u
  else { u with state := .parked, settle := none, hold := none, returnState := none, latch := Table.full 12 .off }

theorem park_still {n : Lane} (still : (s.lane n).state ≠ .running) : s.park n = s.setLane n (s.lane n).parkedStill := by
  unfold State.park LaneUnit.parkedStill
  dsimp only
  split
  case h_1 running => exact absurd running still
  case h_2 parked => rw [if_pos parked, setLane_self]
  case h_3 _ other => rw [if_neg other]

/-! ### The request -/

/-- PARK_LANE of a lane without a slot in flight (R20). -/
theorem exec_parkLane {n : Lane} (listening : s.listening) (free : ¬((s.lane n).state = .running ∧ (s.lane n).slot.isSome = true)) :
    exec (.parkLane (byte n.val)) s =
      .next
        ((s.reportActivity.park n).finish.replied 0x18
          [(s.lane n).state.code, byte ((s.reportActivity.park n).finish.heldCount n)]) := by
  have lane : s.reportActivity.lane n = s.lane n := by simp
  refine exec_answered (takeParkLane (byte n.val)) rfl listening ?_
  rw [takeParkLane, below_byte]
  dsimp only
  rw [lane, if_neg free]
  have count : (s.reportActivity.park n).finish.heldCount n = (s.reportActivity.park n).heldCount n := by
    simp [State.heldCount]
  rw [count]
  rfl

end Sys2Proof.Machine

open Sys2Proof Sys2Proof.Machine

/-- Settles O22: the park of a RUNNING lane, at once or when its slot has ended, and of any other. -/
theorem parkLaneParks : Obligations.ParkLaneParks := by
  intro a n s u held parkedFromRunning
  have told : ∀ t, s.parkedFromRunning t n → parkedFromRunning t := fun t h =>
    ⟨h.state, h.slot, h.confirms, h.fairness, h.hold, h.parkWaiting, h.latch, h.cells, h.guard, h.records, h.others⟩
  refine ⟨fun listening => ⟨fun high => ?_, fun running busy => ?_, fun running free stays => ?_, fun still => ?_⟩,
    fun live running waits free => ?_⟩
  · exact exec_badValue (block := takeParkLane a) rfl listening (by rw [takeParkLane, below_eq_none (by omega)])
  · have lane : s.reportActivity.lane n = u := by simp [u]
    have link : s.reportActivity.link = s.link := by simp
    refine exec_inHand (takeParkLane (byte n.val)) rfl listening ?_
    rw [takeParkLane, below_byte]
    dsimp only
    rw [lane, if_pos ⟨running, busy⟩, setLane_link, link]
  · have free' : (s.lane n).slot = none := free
    have step := exec_parkLane listening (n := n) (by rw [free']; simp)
    have running' : (s.reportActivity.lane n).state = .running := by simpa using running
    have parks := park_parksRunning running'
    have kept : s.reportActivity.lane n = { s.lane n with parkWaiting := false } := by
      rw [show false = (s.lane n).parkWaiting from stays.symm]
      simp
    rw [show (s.lane n).state = .running from running] at step
    refine ⟨(s.reportActivity.park n).finish, step, told _ (parksRunning_finish parks ⟨kept, by simp⟩ (by simp)), by simp,
      fun k changed => ?_⟩
    cases k <;> simp [Component.same] at changed ⊢
  · have lane : s.reportActivity.lane n = u := by simp [u]
    have still' : (s.reportActivity.lane n).state ≠ .running := by rw [lane]; exact still
    have step := exec_parkLane listening (n := n) fun h => still h.1
    rw [park_still still', lane] at step
    have idle : u.parkedStill.state ≠ .running := by
      unfold LaneUnit.parkedStill
      split
      · exact still
      · simp
    obtain ⟨here, others, records, -⟩ := setLane_finish_idle (s := s.reportActivity) (n := n) (unpowered_idle idle)
    refine ⟨(s.reportActivity.setLane n u.parkedStill).finish, step.trans ?_, fun other => ?_, fun parked => ?_, ?_, ?_, by simp,
      fun k changed => ?_⟩
    · have count : (s.reportActivity.setLane n u.parkedStill).finish.heldCount n = held s := by simp [State.heldCount, held]
      rw [count]
    · rw [here, LaneUnit.parkedStill, if_neg other]
    · rw [here, LaneUnit.parkedStill, if_pos parked]
    · simpa [State.otherLanesSteady] using others
    · simpa using records
    · cases k <;> simp [Component.same] at changed ⊢
  · let w := s.setLane n { u with parkWaiting := false }
    have running' : (w.lane n).state = .running := by simpa [w] using running
    have parks := park_parksRunning running'
    have done : w.parksRunning (s.completePark n) n := ⟨parks.lane, parks.others, parks.cells, parks.guard, parks.quests⟩
    have ends := parksRunning_finish done ⟨setLane_lane_same .., setLane_others n _⟩ ⟨rfl, rfl, rfl, rfl⟩
    refine ⟨(s.completePark n).finish, ?_, told _ ends, ?_, fun k changed => ?_⟩
    · have due : (s.lane n).parkDue = true := by
        simp [LaneUnit.parkDue, show (s.lane n).state = .running from running, show (s.lane n).parkWaiting = true from waits,
          show (s.lane n).slot = none from free]
      rw [exec_live (fun s => if (s.lane n).parkDue then (s.completePark n).finish else s) rfl live, if_pos due]
    · have count : held (s.completePark n).finish = (w.park n).heldCount n := by
        have cell : ∀ c, (s.completePark n).finish.cell c = (w.park n).cell c := fun c => (by simp : _ = (s.completePark n).cell c)
        simp only [held, cell]
        rfl
      have link : (w.park n).link = s.link := by simp [w]
      rw [count, show (s.completePark n).finish.link = (s.completePark n).link by simp]
      rw [show s.link = (w.park n).link from link.symm]
      rfl
    · cases k <;> simp [Component.same, State.completePark, State.pushReply] at changed ⊢

end

section
/-!
Events of the Quest Engine as steps in a row: what each leaves at the lamps and the lanes, the notices it makes, and the advance of a quest put together from them (R122 to R128).
-/

namespace Sys2Proof.Machine

open Sys2Proof

variable {s t u : State}

/-! ### Lanes marked stale by several steps at the lamps (R32, R136) -/

/-- From `s` to `t` lanes were marked stale, those whose drives changed among them, and nothing more was done to a lane. -/
def State.marks (s t : State) : Prop :=
  ∀ n, ∃ b, t.lane n = { s.lane n with stale := (s.lane n).stale || b } ∧ (s.laneDrive n ≠ t.laneDrive n → b = true)

theorem lampStep_marks (h : s.lampStep t) : s.marks t := fun n =>
  let ⟨b, lane, marked, _⟩ := h.1 n
  ⟨b, lane, marked⟩

theorem marks_trans (h : s.marks t) (k : t.marks u) : s.marks u := fun n => by
  obtain ⟨b, lane, marked⟩ := h n
  obtain ⟨b', lane', marked'⟩ := k n
  refine ⟨b || b', ?_, fun differ => ?_⟩
  · rw [lane', lane, Bool.or_assoc]
  · by_cases e : s.laneDrive n = t.laneDrive n
    · rw [marked' (e ▸ differ), Bool.or_true]
    · rw [marked e, Bool.true_or]

/-- A step that changes nothing the lanes and their drives are made of marks no lane. -/
theorem marks_same (lanes : t.lanes = s.lanes) (cells : t.cells = s.cells) (plan : t.plan = s.plan) (lamps : t.lamps = s.lamps)
    (part : t.rest.part = s.rest.part) : s.marks t := fun n => by
  have lane : t.lane n = s.lane n := by rw [State.lane, lanes]; rfl
  exact ⟨false, by rw [lane, Bool.or_false], fun differ => absurd (laneDrive_part n cells plan lamps part).symm differ⟩

/-- Marked lanes at the end of their event: changed drives are loaded or marked, and the lanes are steady. -/
theorem finish_marks (h : s.marks u) : s.drivesFollow u.finish ∧ s.lanesSteady u.finish := by
  refine ⟨fun n differ => ?_, fun n => ?_⟩
  all_goals obtain ⟨b, lane, marked⟩ := h n
  · rw [finish_laneDrive] at differ ⊢
    have stale : (u.lane n).stale = true := by simp [lane, marked differ]
    have same : (u.lane n).state = (s.lane n).state := by rw [lane]
    rw [finish_lane, ← same]
    exact grant_stale stale
  · refine steady_trans ?_ (finish_steady u n)
    simp [lane, LaneUnit.steady]

/-! ### Unchanged blocks -/

theorem sameBut_trans {l : List Component} (h : s.sameBut t l) (k : t.sameBut u l) : s.sameBut u l := fun c hc => by
  have first := h c hc
  have second := k c hc
  cases c <;> exact Eq.trans second first

theorem sameBut_mono {l m : List Component} (h : s.sameBut t l) (sub : ∀ c ∈ l, c ∈ m) : s.sameBut t m :=
  fun c hc => h c fun hl => hc (sub c hl)

/-! ### GUARD notices (R140) -/

/-- An event at the lamps tells nothing, but may queue a GUARD notice. -/
theorem lampEvent_filed {f : State → State} (notices : (f s).notices = s.notices) (epoch : (f s).epoch = s.epoch)
    (clock : (f s).play.clock = s.play.clock) : s.filed (s.lampEvent f) [] := by
  have told : ∀ g, s.filed ((State.markStale s (f s)).guardTo g) [] := fun g => by
    have made := guardTo_notices (s := State.markStale s (f s)) g
    split at made
    · exact filed_guard rfl (made.trans (notify_notices_congr _ (by simp [notices]) (by simp [epoch]) (by simp [clock])))
    · exact filed_nil (made.trans (by simp [notices]))
  unfold State.lampEvent
  dsimp only
  split
  · exact filed_nil (by simp [notices])
  · exact told _

/-! ### Steps of the Quest Engine -/

/-- From `s` to `t` quests, scores, quest lamps and cues changed, the notices `told` were made, and activity was reported or not (R122 to R128). -/
structure State.questEvent (s t : State) (told : List NoticeBody) : Prop where
  marks : s.marks t
  filed : s.filed t told
  same : s.sameBut t [.quests, .play, .lamps, .notices, .lanes, .rest]
  play : t.play = { s.play with scores := t.play.scores }
  lamps : t.lamps =
    { s.lamps with
      hints := t.lamps.hints, flashes := t.lamps.flashes, cues := t.lamps.cues, sounder := t.lamps.sounder
      guard := t.lamps.guard }
  rest : t.rest = s.rest ∨ t.rest = s.reportActivity.rest

/-- The epoch and the clock stand. -/
theorem State.questEvent.stamp {told : List NoticeBody} (h : s.questEvent t told) :
    t.epoch = s.epoch ∧ t.play.clock = s.play.clock :=
  ⟨h.same .epoch (by simp), by rw [h.play]⟩

/-- Two steps in a row. -/
theorem State.questEvent.trans {xs ys : List NoticeBody} (h : s.questEvent t xs) (k : t.questEvent u ys) :
    s.questEvent u (xs ++ ys) where
  marks := marks_trans h.marks k.marks
  filed := filed_trans h.filed k.filed h.stamp.1 h.stamp.2
  same := sameBut_trans h.same k.same
  play := by rw [k.play, h.play]
  lamps := by rw [k.lamps, h.lamps]
  rest := by
    have again : ∀ {w : State}, w.rest = s.reportActivity.rest → w.reportActivity.rest = s.reportActivity.rest := fun e =>
      (reportActivity_rest_congr e).trans (reportActivity_rest_idem s)
    rcases h.rest with first | first <;> rcases k.rest with second | second
    · exact .inl (second.trans first)
    · exact .inr (second.trans (reportActivity_rest_congr first))
    · exact .inr (second.trans first)
    · exact .inr (second.trans (again first))

/-- A step that changes neither lanes, lamps, play, notices nor the activity. -/
theorem questEvent_quests {e : QuestEngine} : s.questEvent { s with quests := e } [] where
  marks := marks_same rfl rfl rfl rfl rfl
  filed := filed_nil rfl
  same := fun k hk => by cases k <;> simp [Component.same] at hk ⊢
  play := rfl
  lamps := rfl
  rest := .inl rfl

/-- Points credited. -/
theorem questEvent_credit (o : Player) (points : Nat) : s.questEvent (s.credit o points) [] where
  marks := marks_same rfl rfl rfl rfl rfl
  filed := filed_nil rfl
  same := fun k hk => by cases k <;> simp [Component.same, State.credit] at hk ⊢
  play := rfl
  lamps := rfl
  rest := .inl rfl

/-- A notice made. -/
theorem questEvent_notify {b : NoticeBody} (told : b.isGuard = false) : s.questEvent (s.notify b) [b] where
  marks := marks_same (by simp) (by simp) (by simp) (by simp) (by simp)
  filed := filed_one told rfl
  same := fun k hk => by cases k <;> simp [Component.same] at hk ⊢
  play := by simp
  lamps := by simp
  rest := .inl (by simp)

/-- Activity reported. -/
theorem questEvent_reportActivity : s.questEvent s.reportActivity [] where
  marks := marks_same (by simp) (by simp) (by simp) (by simp) (by simp)
  filed := filed_nil (by simp)
  same := fun k hk => by cases k <;> simp [Component.same] at hk ⊢
  play := by simp
  lamps := by simp
  rest := .inr rfl

/-- An event at the quest lamps or the sounder. -/
theorem questEvent_lamps (f : LampUnit → LampUnit)
    (only : f s.lamps =
      { s.lamps with
        hints := (f s.lamps).hints, flashes := (f s.lamps).flashes, cues := (f s.lamps).cues
        sounder := (f s.lamps).sounder }) :
    s.questEvent (s.lampEvent fun s => { s with lamps := f s.lamps }) [] where
  marks := lampStep_marks (lampEvent_lampStep (fun _ => rfl) (by rw [only]) rfl)
  filed := lampEvent_filed rfl rfl rfl
  same := fun k hk => by cases k <;> simp [Component.same] at hk ⊢
  play := by simp
  lamps := by
    obtain ⟨g, lamps⟩ := lampEvent_lamps s fun s => { s with lamps := f s.lamps }
    rw [lamps]
    dsimp only
    rw [only]
  rest := .inl (by simp)

/-- The cue queue alone replaced. -/
theorem questEvent_withCues (cues : List (Fin 16)) : s.questEvent (s.withCues cues) [] where
  marks := lampStep_marks (withCues_cueStep cues).step
  filed := filed_nil rfl
  same := fun k hk => by cases k <;> simp [Component.same, State.withCues] at hk ⊢
  play := rfl
  lamps := rfl
  rest := .inl rfl

/-! ### Cues offered (R127, R144) -/

/-- The cue queue and the sounder after a cue was offered. -/
def offered (x : List (Fin 16) × Option Nat) (c : Fin 16) : List (Fin 16) × Option Nat :=
  if 8 ≤ x.1.length then x else (x.1 ++ [c], if x.1 = [] then some (cueTicks c) else x.2)

/-- The cue queue and the sounder. -/
def LampUnit.sounding (u : LampUnit) : List (Fin 16) × Option Nat := (u.cues, u.sounder)

theorem enqueueCue_questEvent (c : Fin 16) : s.questEvent (s.enqueueCue c) [] := by
  by_cases silent : s.lamps.cues = []
  case pos =>
    rw [enqueueCue_starts silent]
    have sounds : (s.withCues (s.lamps.cues ++ [c])).questEvent
        ((s.withCues (s.lamps.cues ++ [c])).soundCues (·.cues) (·.cues.head?.map cueTicks)) [] :=
      questEvent_lamps (fun l => { l with sounder := l.cues.head?.map cueTicks }) rfl
    exact ((questEvent_withCues (s.lamps.cues ++ [c])).trans sounds).trans questEvent_reportActivity
  case neg =>
    rw [enqueueCue_waits silent]
    exact questEvent_withCues _

theorem offerCue_questEvent (c : Fin 16) : s.questEvent (s.offerCue c) [] := by
  unfold State.offerCue
  split
  · exact enqueueCue_questEvent c
  · exact questEvent_quests

/-- A cue offered is taken if there is room (R144). -/
theorem offerCue_sounding (c : Fin 16) : (s.offerCue c).lamps.sounding = offered s.lamps.sounding c := by
  unfold State.offerCue offered LampUnit.sounding cueRoom
  dsimp only
  split
  case isTrue room =>
    obtain ⟨cues, sounder, -⟩ := enqueueCue_cues (s := s) c
    rw [if_neg (by omega), cues, sounder]
  case isFalse full => rw [if_pos (by omega)]

/-! ### An advance in its steps (R122, R127) -/

/-- A stage's cue offered, if it has one. -/
def State.cueOffered (s : State) (c : Option (Fin 16)) : State := match c with | some c => s.offerCue c | none => s

/-- A stage's flash posted, if it has a hint region. -/
def State.flashPosted (s : State) (q : QuestId) (g : Option Region) : State :=
  match g with | some g => s.postFlash q g | none => s

/-- The points of a stage met now (R122, R123). -/
def State.pointsOf (s : State) (q : QuestId) (st : Stage) : Nat :=
  st.reward + timeBonus st.reward st.limit (s.quest q).progress.deadline s.play.clock

/-- The notice of an advance (R122 step 3). -/
def State.advanceBody (s : State) (q : QuestId) (st : Stage) (byTick : Bool) (epoch : BitVec 16) : NoticeBody :=
  let r := s.quest q
  if r.progress.stage + 1 = r.stages.length then
    .questDone q r.progress.stage (s.pointsOf q st) r.owner byTick epoch
  else .stageDone q r.progress.stage (s.pointsOf q st) r.owner byTick epoch

/-- The hint region a quest shows after its advance: that of its next stage, if there is one. -/
def Quest.nextHint (r : Quest) : Option Region := (r.stages[r.progress.stage + 1]?).bind (·.hint)

/-- What an advance does before its quest's record is written: points, notice, cue and flash. -/
def State.rewarded (s : State) (q : QuestId) (st : Stage) (byTick : Bool) (epoch : BitVec 16) : State :=
  (((s.credit (s.quest q).owner (s.pointsOf q st)).notify (s.advanceBody q st byTick epoch)).cueOffered st.cue).flashPosted q
    st.hint

/-- An advance: the reward, the record, the hint of the next stage, a pass wanted and activity. -/
theorem advance_eq (q : QuestId) (st : Stage) (byTick : Bool) (epoch : BitVec 16) :
    s.advance q st byTick epoch =
      ((((s.rewarded q st byTick epoch).setQuest q ((s.quest q).advanced (s.pointsOf q st) s.play.clock)).leaveSet q).setHint q
        (s.quest q).nextHint).wantPass.reportActivity := by
  have hint : (if decide ((s.quest q).progress.stage + 1 = (s.quest q).stages.length) = true then none
      else (s.quest q).hintOf ((s.quest q).progress.stage + 1)) = (s.quest q).nextHint := by
    split
    case isTrue last =>
      rw [Quest.nextHint, List.getElem?_eq_none (by rw [← of_decide_eq_true last])]
      rfl
    case isFalse => rfl
  have told : s.advanceBody q st byTick epoch =
      if decide ((s.quest q).progress.stage + 1 = (s.quest q).stages.length) = true then
        .questDone q (s.quest q).progress.stage (s.pointsOf q st) (s.quest q).owner byTick epoch
      else .stageDone q (s.quest q).progress.stage (s.pointsOf q st) (s.quest q).owner byTick epoch := by
    simp [State.advanceBody]
  unfold State.advance State.rewarded
  rw [told, ← hint]
  rfl

theorem cueOffered_questEvent (c : Option (Fin 16)) : s.questEvent (s.cueOffered c) [] := by
  cases c with
  | none => exact questEvent_quests
  | some c => exact offerCue_questEvent c

theorem flashPosted_questEvent (q : QuestId) (g : Option Region) : s.questEvent (s.flashPosted q g) [] := by
  cases g with
  | none => exact questEvent_quests
  | some g =>
    exact questEvent_lamps
      (fun l => { l with flashes := Table.put l.flashes q (some { region := g, left := 8 }) }) rfl

theorem setHint_questEvent (q : QuestId) (g : Option Region) : s.questEvent (s.setHint q g) [] :=
  questEvent_lamps (fun l => { l with hints := Table.put l.hints q g }) rfl

/-- The reward makes the advance's notice. -/
theorem rewarded_questEvent (q : QuestId) (st : Stage) (byTick : Bool) (epoch : BitVec 16) :
    s.questEvent (s.rewarded q st byTick epoch) [s.advanceBody q st byTick epoch] := by
  have body : (s.advanceBody q st byTick epoch).isGuard = false := by
    unfold State.advanceBody
    dsimp only
    split <;> rfl
  exact (((questEvent_credit _ _).trans (questEvent_notify body)).trans (cueOffered_questEvent st.cue)).trans
    (flashPosted_questEvent q st.hint)

/-- An advance makes one notice, beside those of the guard. -/
theorem advance_questEvent (q : QuestId) (st : Stage) (byTick : Bool) (epoch : BitVec 16) :
    s.questEvent (s.advance q st byTick epoch) [s.advanceBody q st byTick epoch] := by
  rw [advance_eq]
  have record : (s.rewarded q st byTick epoch).questEvent
      (((s.rewarded q st byTick epoch).setQuest q ((s.quest q).advanced (s.pointsOf q st) s.play.clock)).leaveSet q) [] :=
    questEvent_quests
  have wants : ∀ v : State, v.questEvent v.wantPass [] := fun _ => questEvent_quests
  exact ((((rewarded_questEvent q st byTick epoch).trans record).trans (setHint_questEvent q _)).trans (wants _)).trans
    questEvent_reportActivity

/-! ### What each step leaves of the quest lamps -/

@[simp] theorem enqueueCue_flashes (c : Fin 16) : (s.enqueueCue c).lamps.flashes = s.lamps.flashes := by
  unfold State.enqueueCue
  dsimp only
  split <;> simp [lampEvent_lamps_frame, LampUnit.startHead]

@[simp] theorem cueOffered_leaves (c : Option (Fin 16)) :
    (s.cueOffered c).quests = s.quests ∧ (s.cueOffered c).play = s.play ∧ (s.cueOffered c).lamps.hints = s.lamps.hints ∧
      (s.cueOffered c).lamps.flashes = s.lamps.flashes := by
  cases c with
  | none => exact ⟨rfl, rfl, rfl, rfl⟩
  | some c =>
    show (s.offerCue c).quests = _ ∧ (s.offerCue c).play = _ ∧ (s.offerCue c).lamps.hints = _ ∧ (s.offerCue c).lamps.flashes = _
    refine ⟨by simp, by simp, by simp, ?_⟩
    unfold State.offerCue
    split <;> simp

/-- The queue after a stage's cue was offered. -/
theorem cueOffered_sounding (c : Option (Fin 16)) :
    (s.cueOffered c).lamps.sounding = c.toList.foldl offered s.lamps.sounding := by
  cases c with
  | none => rfl
  | some c => exact offerCue_sounding c

@[simp] theorem flashPosted_leaves (q : QuestId) (g : Option Region) :
    (s.flashPosted q g).quests = s.quests ∧ (s.flashPosted q g).play = s.play ∧
      (s.flashPosted q g).lamps.hints = s.lamps.hints ∧ (s.flashPosted q g).lamps.sounding = s.lamps.sounding := by
  cases g with
  | none => exact ⟨rfl, rfl, rfl, rfl⟩
  | some g =>
    show (s.postFlash q g).quests = _ ∧ (s.postFlash q g).play = _ ∧ (s.postFlash q g).lamps.hints = _ ∧
      (s.postFlash q g).lamps.sounding = _
    refine ⟨by simp, by simp, by simp, ?_⟩
    simp [LampUnit.sounding, State.postFlash, lampEvent_lamps_frame]

/-- The flashes after one was posted, or not. -/
theorem flashPosted_flashes (q : QuestId) (g : Option Region) (k : QuestId) :
    Table.read (s.flashPosted q g).lamps.flashes k =
      if k = q then (g.map fun g => { region := g, left := 8 }).or (Table.read s.lamps.flashes k)
      else Table.read s.lamps.flashes k := by
  cases g with
  | none => simp [State.flashPosted]
  | some g =>
    have flashes : (s.flashPosted q (some g)).lamps.flashes =
        Table.put s.lamps.flashes q (some { region := g, left := 8 }) := by
      show (s.postFlash q g).lamps.flashes = _
      simp [State.postFlash, lampEvent_lamps_frame]
    rw [flashes, Table.read_put]
    rfl

@[simp] theorem setHint_leaves (q : QuestId) (g : Option Region) :
    (s.setHint q g).lamps.flashes = s.lamps.flashes ∧ (s.setHint q g).lamps.sounding = s.lamps.sounding := by
  unfold LampUnit.sounding State.setHint
  simp [lampEvent_lamps_frame]

/-- What the reward leaves of the Quest Engine, the counters and the lamps. -/
theorem rewarded_leaves (q : QuestId) (st : Stage) (byTick : Bool) (epoch : BitVec 16) :
    let t := s.rewarded q st byTick epoch
    t.quests = s.quests ∧
      t.play.scores =
        Table.put s.play.scores (s.quest q).owner
          (min scoreMax (Table.read s.play.scores (s.quest q).owner + s.pointsOf q st)) ∧
      t.lamps.hints = s.lamps.hints ∧ t.lamps.sounding = st.cue.toList.foldl offered s.lamps.sounding ∧
      ∀ k, Table.read t.lamps.flashes k =
        if k = q then (st.hint.map fun g => { region := g, left := 8 }).or (Table.read s.lamps.flashes k)
        else Table.read s.lamps.flashes k := by
  have sounding := cueOffered_sounding (s := (s.credit (s.quest q).owner (s.pointsOf q st)).notify
    (s.advanceBody q st byTick epoch)) st.cue
  unfold State.rewarded
  refine ⟨by simp [State.credit], by simp [State.credit], by simp [State.credit], ?_, fun k => ?_⟩
  · rw [(flashPosted_leaves q st.hint).2.2.2, sounding]
    simp [State.credit]
  · rw [flashPosted_flashes]
    simp [State.credit]

/-! ### What an advance leaves (R122) -/

/-- The record of the advanced quest, and the others as they were. -/
theorem advance_quest (q k : QuestId) (st : Stage) (byTick : Bool) (epoch : BitVec 16) :
    (s.advance q st byTick epoch).quest k =
      if k = q then (s.quest q).advanced (s.pointsOf q st) s.play.clock else s.quest k := by
  obtain ⟨quests, -⟩ := rewarded_leaves (s := s) q st byTick epoch
  have quest : ∀ k, (s.rewarded q st byTick epoch).quest k = s.quest k := fun k => by rw [State.quest, quests]; rfl
  rw [advance_eq]
  simp [setQuest_quest, quest]

/-- The advanced quest leaves the evaluated set, and a pass is wanted. -/
theorem advance_pass (q : QuestId) (st : Stage) (byTick : Bool) (epoch : BitVec 16) :
    (s.advance q st byTick epoch).quests.pass = (s.leaveSet q).quests.pass ∧
      (s.advance q st byTick epoch).quests.passWanted = true := by
  obtain ⟨quests, -⟩ := rewarded_leaves (s := s) q st byTick epoch
  rw [advance_eq]
  simp [State.leaveSet, quests]

/-- The counters, the hints, the flashes and the cues after an advance. -/
theorem advance_leaves (q : QuestId) (st : Stage) (byTick : Bool) (epoch : BitVec 16) :
    let t := s.advance q st byTick epoch
    t.play.scores =
        Table.put s.play.scores (s.quest q).owner
          (min scoreMax (Table.read s.play.scores (s.quest q).owner + s.pointsOf q st)) ∧
      t.lamps.hints = Table.put s.lamps.hints q (s.quest q).nextHint ∧
      t.lamps.sounding = st.cue.toList.foldl offered s.lamps.sounding ∧
      ∀ k, Table.read t.lamps.flashes k =
        if k = q then (st.hint.map fun g => { region := g, left := 8 }).or (Table.read s.lamps.flashes k)
        else Table.read s.lamps.flashes k := by
  obtain ⟨-, scores, hints, sounding, flashes⟩ := rewarded_leaves (s := s) q st byTick epoch
  rw [advance_eq]
  refine ⟨?_, ?_, ?_, fun k => ?_⟩
  · rw [← scores]
    simp
  · rw [← hints]
    simp
  · rw [← sounding]
    simp
  · rw [← flashes]
    simp

/-- An advance is activity (R128). -/
theorem advance_rest (q : QuestId) (st : Stage) (byTick : Bool) (epoch : BitVec 16) :
    (s.advance q st byTick epoch).rest = s.reportActivity.rest := by
  have before := (rewarded_questEvent (s := s) q st byTick epoch).rest
  rw [advance_eq]
  rcases before with still | heard
  · exact reportActivity_rest_congr (by simp [still])
  · exact (reportActivity_rest_congr (by simp [heard])).trans (reportActivity_rest_idem s)

/-- The record of an advanced quest with another stage to come. -/
theorem advanced_next {r : Quest} {next : Stage} (points clock : Nat) (h : r.stages[r.progress.stage + 1]? = some next) :
    r.advanced points clock =
      { r with
        progress :=
          { r.progress with
            stage := r.progress.stage + 1, earned := min 1500 (r.progress.earned + points), started := some clock
            holdSince := none
            deadline := if next.limit = 0 then none else some (min 16777215 (clock + next.limit)) } } := by
  obtain ⟨more, -⟩ := List.getElem?_eq_some_iff.1 h
  have limit : r.limitOf (r.progress.stage + 1) = next.limit := by simp [Quest.limitOf, h]
  rw [Quest.advanced]
  dsimp only
  rw [if_neg (by omega), limit]
  rfl

/-- The record of a quest advanced from its last stage. -/
theorem advanced_last {r : Quest} (points clock : Nat) (h : r.stages.length = r.progress.stage + 1) :
    r.advanced points clock =
      { r with
        state := .done
        progress :=
          { r.progress with
            stage := r.progress.stage + 1, earned := min 1500 (r.progress.earned + points), deadline := none
            remaining := none, holdSince := none } } := by
  rw [Quest.advanced]
  dsimp only
  rw [if_pos h.symm]

/-- The hint of the next stage, or none after the last. -/
theorem nextHint_next {r : Quest} {next : Stage} (h : r.stages[r.progress.stage + 1]? = some next) : r.nextHint = next.hint := by
  rw [Quest.nextHint, h]
  rfl

theorem nextHint_last {r : Quest} (h : r.stages.length = r.progress.stage + 1) : r.nextHint = none := by
  rw [Quest.nextHint, List.getElem?_eq_none (by omega)]
  rfl

/-! ### A failure as a step of the Quest Engine -/

/-- A failure makes its notice, beside those of the guard. -/
theorem failQuest_questEvent (q : QuestId) (why : FailReason) :
    s.questEvent (s.failQuest q why) [.questFailed q (s.quest q).progress.stage why (s.quest q).progress.earned] := by
  have record : s.questEvent (s.setQuest q ((s.quest q).failed why)) [] := questEvent_quests
  have left : ∀ v : State, v.questEvent (v.leaveSet q) [] := fun _ => questEvent_quests
  exact (((record.trans (questEvent_notify rfl)).trans (setHint_questEvent q none)).trans (left _)).trans
    questEvent_reportActivity

end Sys2Proof.Machine
end

section
/-!
HOLD_COMPLETE and DEADLINE_EXPIRY: the two tick duties as events of their own (R124).
-/

namespace Sys2Proof.Machine

open Sys2Proof

variable {s t u : State}

/-! ### The end of an event of the Quest Engine -/

/-- While a pass is in flight the end of an event leaves the Quest Engine as it is. -/
theorem finish_quests_inFlight (h : s.quests.pass.isSome = true) : s.finish.quests = s.quests := by
  unfold State.finish State.startPass
  rw [if_neg]
  · simp
  · rintro ⟨-, free⟩
    rw [show s.grantAll.quests = s.quests by simp] at free
    rw [free] at h
    cases h

/-- A pass wanted with none in flight starts at the end of the event (R119). -/
theorem finish_startsPass (wanted : s.quests.passWanted = true) (free : s.quests.pass = none) :
    s.finish.quests.passWanted = false ∧ s.finish.quests.pass.isSome = true := by
  unfold State.finish State.startPass
  rw [if_pos (by simp [wanted, free])]
  exact ⟨rfl, rfl⟩

/-- The pass in flight after a quest left its evaluated set, at the end of the event (R120). -/
theorem finish_leftPass {q : QuestId} {p : Pass} (flight : s.quests.pass = some p)
    (left : u.quests.pass = (s.leaveSet q).quests.pass) :
    u.finish.quests.passWanted = u.quests.passWanted ∧
      u.finish.quests.pass = some { p with evaluated := p.evaluated.filter fun e => decide (e.1 ≠ q) } := by
  have pass : u.quests.pass = some { p with evaluated := p.evaluated.filter fun e => decide (e.1 ≠ q) } := by
    rw [left, State.leaveSet]
    simp [flight]
  rw [finish_quests_inFlight (by rw [pass]; rfl)]
  exact ⟨rfl, pass⟩

/-- The end of a quest event: the notices, the lanes and the blocks it leaves alone. -/
theorem State.questEvent.finish {told : List NoticeBody} (h : s.questEvent t told) :
    s.filed t.finish told ∧ s.drivesFollow t.finish ∧ s.lanesSteady t.finish ∧
      s.sameBut t.finish [.quests, .play, .lamps, .notices, .lanes, .rest] := by
  obtain ⟨follow, steady⟩ := finish_marks h.marks
  obtain ⟨bs, made, told⟩ := h.filed
  exact ⟨⟨bs, (by simp : t.finish.notices = t.notices).trans made, told⟩, follow, steady,
    finish_sameBut h.same (by simp) (by simp)⟩

/-! ### The duties (R124) -/

/-- The hold of a quest has lasted its ticks. -/
theorem holdDue_eq_some {q : QuestId} {st : Stage} {k : Fin 32} {m d since : Nat} (running : (s.quest q).state = .running)
    (current : (s.quest q).stages[(s.quest q).progress.stage]? = some st) (hold : st.test = .hold k m d)
    (held : (s.quest q).progress.holdSince = some since) (started : since ≤ s.play.clock) (lasted : d ≤ s.play.clock - since) :
    s.holdDue q = some st := by
  unfold State.holdDue Quest.current
  dsimp only
  rw [running, current, held]
  dsimp only
  rw [hold]
  exact if_pos ⟨started, lasted⟩

/-- A hold that is due is one that has lasted its ticks. -/
theorem holdDue_spec {q : QuestId} {st : Stage} (h : s.holdDue q = some st) :
    (s.quest q).state = .running ∧ (s.quest q).stages[(s.quest q).progress.stage]? = some st ∧
      ∃ k m d since, st.test = .hold k m d ∧ (s.quest q).progress.holdSince = some since ∧ since ≤ s.play.clock ∧
        d ≤ s.play.clock - since := by
  unfold State.holdDue at h
  dsimp only at h
  split at h
  case h_2 => cases h
  case h_1 st' since running current held =>
    split at h
    case h_2 => cases h
    case h_1 k m d hold =>
      split at h
      case isFalse => cases h
      case isTrue lasted =>
        obtain rfl : st' = st := Option.some.inj h
        exact ⟨running, current, k, m, d, since, hold, held, lasted⟩

end Sys2Proof.Machine

open Sys2Proof Sys2Proof.Machine

/-- Settles O45: the advance and the failure, each from what it leaves at the end of its event. -/
theorem tickDutiesAdvanceOrFail : Obligations.TickDutiesAdvanceOrFail := by
  intro q st k m d since s live ticking r clock points completes running current
  refine ⟨fun hold done => ?_, fun undone due deadline reached => ?_⟩
  · obtain ⟨held, started, lasted⟩ := done
    have due : s.holdDue q = some st := holdDue_eq_some running current hold held started lasted
    have event := advance_questEvent (s := s) q st true s.epoch
    have quest := fun k => advance_quest (s := s) q k st true s.epoch
    obtain ⟨pass, wanted⟩ := advance_pass (s := s) q st true s.epoch
    obtain ⟨scores, hints, sounding, flashes⟩ := advance_leaves (s := s) q st true s.epoch
    obtain ⟨filed, follow, steady, same⟩ := event.finish
    have rest := advance_rest (s := s) q st true s.epoch
    have play := event.play
    have step : exec (.holdComplete q) s = .next (s.advance q st true s.epoch).finish := by
      rw [exec_live (fun s => match s.play.clockRunning, s.holdDue q with
        | true, some st => (s.advance q st true s.epoch).finish
        | _, _ => s) rfl live, ticking, due]
    have body : s.advanceBody q st true s.epoch = if r.stages.length = r.progress.stage + 1 then
        .questDone q r.progress.stage points r.owner true s.epoch
        else .stageDone q r.progress.stage points r.owner true s.epoch := by
      unfold State.advanceBody
      simp only [eq_comm (a := r.stages.length)]
      rfl
    generalize s.advance q st true s.epoch = t at *
    have lamps : t.finish.lamps = t.lamps := by simp
    have played : t.finish.play = t.play := by simp
    have read : ∀ k, t.finish.quest k = t.quest k := fun k => by rw [State.quest, finish_records]; rfl
    rw [LampUnit.sounding, LampUnit.sounding] at sounding
    refine ⟨t.finish, step, ?_, fun j other => ?_, ?_, fun next more => ⟨?_, ?_⟩, fun last => ⟨?_, ?_⟩, fun g hint => ?_,
      fun c cue room => ?_, fun silent => ?_, fun j other => ?_, body ▸ filed, fun free => ?_, fun p flight => ?_, follow, steady,
      ?_, same⟩
    · rw [played, scores, Table.read_put_same]
      rfl
    · rw [played, scores, Table.read_put_ne _ _ other]
    · rw [played]
      exact play
    · rw [read, quest, if_pos rfl]
      exact advanced_next _ _ more
    · rw [lamps, hints, Table.read_put_same]
      exact nextHint_next more
    · rw [read, quest, if_pos rfl]
      exact advanced_last _ _ last
    · rw [lamps, hints, Table.read_put_same]
      exact nextHint_last last
    · rw [lamps, flashes, if_pos rfl, hint]
      rfl
    · rw [lamps]
      rw [cue] at sounding
      exact (congrArg Prod.fst sounding).trans (congrArg Prod.fst (if_neg (Nat.not_le.2 room)))
    · rw [lamps]
      rw [silent] at sounding
      exact congrArg Prod.fst sounding
    · rw [read, quest, if_neg other]
    · refine finish_startsPass wanted ?_
      rw [pass, State.leaveSet, free]
      rfl
    · obtain ⟨wants, left⟩ := finish_leftPass flight pass
      exact ⟨wants.trans wanted, left⟩
    · exact (finish_frame t).2.1.trans rest
  · have idle : s.holdDue q = none := by
      cases h : s.holdDue q with
      | none => rfl
      | some st' =>
        obtain ⟨-, current', k, m, d, since, hold, held⟩ := holdDue_spec h
        obtain rfl : st' = st := Option.some.inj (current'.symm.trans current)
        exact absurd ⟨k, m, d, since, hold, held⟩ undone
    have ends : s.deadlineDue q = true := by
      unfold State.deadlineDue
      dsimp only
      rw [show (s.quest q).state = .running from running, show (s.quest q).progress.deadline = some due from deadline]
      exact decide_eq_true reached
    obtain ⟨filed, follow, steady, -⟩ := (failQuest_questEvent (s := s) q .time).finish
    obtain ⟨pass, wanted⟩ := failQuest_pass (s := s) q .time
    have read : ∀ k, (s.failQuest q .time).finish.quest k = (s.failQuest q .time).quest k := fun k => by
      rw [State.quest, finish_records]
      rfl
    refine ⟨(s.failQuest q .time).finish, ?_, ?_, fun files still => failQuest_told q .time still files, ?_, fun j other => ?_,
      filed, fun p flight => ?_, follow, steady, ?_, failQuest_sameBut q .time⟩
    · rw [exec_live (fun s => if s.play.clockRunning ∧ s.holdDue q = none ∧ s.deadlineDue q then (s.failQuest q .time).finish
        else s) rfl live, if_pos ⟨ticking, idle, ends⟩]
    · rw [read, failQuest_quest, if_pos rfl]
      rfl
    · rw [show (s.failQuest q .time).finish.lamps = (s.failQuest q .time).lamps by simp]
      exact failQuest_lamps q .time
    · rw [read, failQuest_quest, if_neg other]
    · obtain ⟨wants, left⟩ := finish_leftPass flight pass
      exact ⟨wants.trans wanted, left⟩
    · exact (finish_frame _).2.1.trans (failQuest_rest q .time)

end

section
/-!
NEW_GAME: the blocks it resets, as one step at the lamps, and the notice queue it empties last (R93, R129, R131, R145, R155).
-/

namespace Sys2Proof.Machine

open Sys2Proof

variable {s : State}

/-- The frame's activity reported, the quests and the play record renewed. -/
def State.replayed (s : State) : State := { s.reportActivity with quests := s.quests.renewed, play := s.play.renewed }

/-- The lamps renewed. -/
def State.darkened (s : State) : State := { s with lamps := s.lamps.renewed }

/-- The renewal of the lamps touches them alone. -/
@[simp] theorem darkened_frame :
    s.darkened.chip = s.chip ∧ s.darkened.rest = s.rest ∧ s.darkened.plan = s.plan ∧ s.darkened.lanes = s.lanes ∧
      s.darkened.cells = s.cells ∧ s.darkened.epoch = s.epoch ∧ s.darkened.sensing = s.sensing ∧
      s.darkened.firstFault = s.firstFault ∧ s.darkened.watch = s.watch ∧ s.darkened.roster = s.roster ∧
      s.darkened.patterns = s.patterns ∧ s.darkened.quests = s.quests ∧ s.darkened.play = s.play ∧
      s.darkened.lamps = s.lamps.renewed ∧ s.darkened.notices = s.notices ∧ s.darkened.link = s.link ∧
      s.darkened.pending = s.pending := by
  simp [State.darkened]

/-- It is a step at the lamps. -/
theorem darkened_lampStep : s.lampStep (s.lampEvent State.darkened) :=
  lampEvent_lampStep (fun _ => rfl) rfl rfl

/-- What it leaves of the lamps. -/
theorem darkened_lamps :
    ∃ g, (s.lampEvent State.darkened).lamps =
      { s.lamps with
        hints := Table.full 24 none, flashes := Table.full 24 none, cues := [], sounder := none, guard := g } := by
  obtain ⟨g, lamps⟩ := lampEvent_lamps s State.darkened
  exact ⟨g, lamps⟩

/-- The lamps renewed too, as one load change. -/
def State.relit (s : State) : State := s.replayed.lampEvent State.darkened

/-- The Notice Unit renewed. -/
def State.silenced (s : State) : State := { s with notices := s.notices.renewed }

/-- The renewal of the Notice Unit touches it alone. -/
@[simp] theorem silenced_frame :
    s.silenced.chip = s.chip ∧ s.silenced.rest = s.rest ∧ s.silenced.plan = s.plan ∧ s.silenced.lanes = s.lanes ∧
      s.silenced.cells = s.cells ∧ s.silenced.epoch = s.epoch ∧ s.silenced.sensing = s.sensing ∧
      s.silenced.firstFault = s.firstFault ∧ s.silenced.watch = s.watch ∧ s.silenced.roster = s.roster ∧
      s.silenced.patterns = s.patterns ∧ s.silenced.quests = s.quests ∧ s.silenced.play = s.play ∧
      s.silenced.lamps = s.lamps ∧ s.silenced.notices = s.notices.renewed ∧ s.silenced.link = s.link ∧
      s.silenced.pending = s.pending := by
  simp [State.silenced]

/-- The arbiters end a step at the lamps in the same way when the Notice Unit is renewed after it. -/
theorem silenced_finish {u : State} (step : s.lampStep u) :
    s.drivesFollow u.silenced.finish ∧ s.drivesAlone u.silenced.finish ∧ s.lanesSteady u.silenced.finish :=
  finish_lampStep_from (w := { s with notices := u.notices.renewed }) rfl (fun _ => rfl) rfl ⟨step.1, fun _ => rfl⟩

/-- What NEW_GAME leaves of a part that does not wait to rest, before the end of its event. -/
def State.renewed (s : State) : State := s.relit.silenced

/-- The renewal in a part that does not wait to rest (assumption 36). -/
theorem newGame_renewed (awake : s.reportActivity.rest.activity ≠ .expired) : s.reportActivity.newGame = s.renewed := by
  have stays : s.relit.restIfDue = s.relit := restIfDue_idle (.inl (by simpa [State.relit, State.replayed] using awake))
  have blocks : s.reportActivity.quests = s.quests ∧ s.reportActivity.play = s.play := by simp
  unfold State.newGame State.renewed
  rw [blocks.1, blocks.2, ← stays]
  rfl

/-- The quests and the play record renewed leave what the lanes, the lamps and the notices are made of. -/
theorem replayed_lampsAlike : s.lampsAlike s.replayed := by
  simp [State.lampsAlike, State.replayed]

/-- The lamps renewed are a step at the lamps. -/
theorem relit_lampStep : s.lampStep s.relit :=
  lampStep_congr replayed_lampsAlike lampsAlike_refl darkened_lampStep

/-- The lanes at the end of a new game. -/
theorem renewed_drives :
    s.drivesFollow s.renewed.finish ∧ s.drivesAlone s.renewed.finish ∧ s.lanesSteady s.renewed.finish :=
  silenced_finish relit_lampStep

/-- The renewal of the Notice Unit comes after that of the lamps. -/
theorem renewed_blocks : s.renewed.lamps = s.relit.lamps ∧ s.renewed.notices = s.relit.notices.renewed := by
  simp [State.renewed]

/-- The lamps after a new game: the quest layer and the cues empty, and the guard. -/
theorem renewed_lamps :
    ∃ g, s.renewed.lamps =
      { s.lamps with
        hints := Table.full 24 none, flashes := Table.full 24 none, cues := [], sounder := none, guard := g } := by
  obtain ⟨g, lamps⟩ := darkened_lamps (s := s.replayed)
  have lit : s.replayed.lamps = s.lamps := by simp [State.replayed]
  rw [lit] at lamps
  exact ⟨g, by rw [renewed_blocks.1, State.relit, lamps]⟩

/-- The Notice Unit after a new game: empty, its modes and numbers kept (R155). -/
theorem renewed_notices :
    s.renewed.notices.queue = [] ∧ s.renewed.notices.dropped = 0 ∧ s.renewed.notices.modes = s.notices.modes ∧
      s.renewed.notices.opened = s.notices.opened ∧
      (s.renewed.lamps.guard = s.lamps.guard → s.renewed.notices.next = s.notices.next) := by
  obtain ⟨opened, modes⟩ := lampEvent_unit (s := s.replayed) State.darkened
  have before : s.replayed.darkened.notices = s.notices := by simp [State.replayed]
  rw [renewed_blocks.1, renewed_blocks.2]
  rw [before] at opened modes
  refine ⟨by rw [NoticeUnit.renewed], by rw [NoticeUnit.renewed], ?_, ?_, fun still => ?_⟩
  · rw [NoticeUnit.renewed, State.relit, modes]
  · rw [NoticeUnit.renewed, State.relit, opened]
  · rw [NoticeUnit.renewed, relit_lampStep.2 still]

/-- NEW_GAME wants no pass, so none starts (R129). -/
theorem renewed_finish_quests : s.renewed.finish.quests = s.quests.renewed := by
  have renewed : s.renewed.quests = s.quests.renewed := by simp [State.renewed, State.relit, State.replayed]
  unfold State.finish State.startPass
  rw [if_neg]
  · simp [renewed]
  · rintro ⟨wanted, -⟩
    rw [show s.renewed.grantAll.quests = s.renewed.quests by simp, renewed] at wanted
    cases wanted

end Sys2Proof.Machine

open Sys2Proof Sys2Proof.Machine

/-- Settles O54: each block's reset, and the step at the lamps. -/
theorem newGameResetsTheGame : Obligations.NewGameResetsTheGame := by
  intro s listening due
  have awake := reportActivity_notExpired listening.2 due
  obtain ⟨follow, alone, steady⟩ := renewed_drives (s := s)
  obtain ⟨g, lamps⟩ := renewed_lamps (s := s)
  obtain ⟨queue, dropped, modes, opened, next⟩ := renewed_notices (s := s)
  have quests := renewed_finish_quests (s := s)
  have finished : s.renewed.finish.lamps = s.renewed.lamps ∧ s.renewed.finish.notices = s.renewed.notices := by simp
  obtain ⟨lit, filed⟩ := finished
  have play : s.renewed.finish.play = s.play.renewed := by simp [State.renewed, State.relit, State.replayed]
  refine ⟨s.renewed.finish, ?_, fun q => ?_, ?_, ?_, ?_, fun k => ?_, ?_, fun q => ?_, ?_, ?_, ?_, ?_, fun still => ?_, ?_, follow,
    alone, steady, ?_, fun k changed => ?_⟩
  · refine exec_answered takeNewGame rfl listening ?_
    rw [takeNewGame, newGame_renewed awake]
    rfl
  · have quest : s.renewed.finish.quest q = (s.quest q).renewed := by
      rw [State.quest, quests]
      exact Table.read_each ..
    rw [quest, Quest.renewed]
    exact ⟨fun empty => if_pos empty, fun known => if_neg known⟩
  · rw [quests]
    rfl
  · rw [quests]
    rfl
  · rw [play]
    rfl
  · rw [play]
    exact Table.read_full ..
  · rw [lit, lamps]
  · rw [lit, lamps]
    exact ⟨Table.read_full .., Table.read_full ..⟩
  · rw [filed, queue]
  · rw [filed, dropped]
  · rw [filed, modes]
  · rw [filed, opened]
  · rw [filed, next (by rw [← lit, still])]
  · simp [State.attn, queue]
  · simp [State.renewed, State.relit, State.replayed]
  · cases k <;> simp [Component.same, State.renewed, State.relit, State.replayed] at changed ⊢

end

section
/-!
The part comes to rest: what `State.enterRest` leaves of the play record, the notices and the lanes, and SET_REST (R31, R169).
-/

namespace Sys2Proof.Machine

open Sys2Proof

variable {s u : State} {n : Lane}

/-! ### Room in the notice queue -/

/-- An offer takes at most one place of the queue. -/
theorem offer_length (q : NoticeUnit) (k : Notice) : (q.offer k).queue.length ≤ q.queue.length + 1 := by
  rcases offer_cases q k with ⟨-, e⟩ | ⟨⟨-, lower⟩, e⟩ | ⟨-, e⟩
  · simp [e]
  · have evicts := dropYoungest_length _ _ (lowestRank_mem q.queue (by have := rank_le k.body.class; omega))
    simp only [e, List.length_append, List.length_singleton]
    omega
  · simp [e]

/-- So does a notice made. -/
theorem notify_length (b : NoticeBody) : (s.notify b).notices.queue.length ≤ s.notices.queue.length + 1 := by
  rcases notify_cases s b with ⟨-, same⟩ | ⟨-, made⟩
  · rw [same]
    omega
  · rw [made]
    exact offer_length ..

/-- An event at the lamps makes at most one notice. -/
theorem lampEvent_length {f : State → State} (notices : (f s).notices = s.notices) :
    (s.lampEvent f).notices.queue.length ≤ s.notices.queue.length + 1 := by
  unfold State.lampEvent State.evalGuard State.guardTo
  dsimp only
  split
  · simp [notices]
  · split
    · simp [notices]
    · split
      · exact (notify_length _).trans (by simp [notices])
      · simp [notices]

/-- A notice of a class that is filed is the last of a queue with room for it. -/
theorem notify_last {b : NoticeBody} (opened : s.notices.opened = true) (on : s.notices.modes.of b.class ≠ .off)
    (room : s.notices.queue.length < noticeRoom) : (s.notify b).lastNotice b := by
  rcases notify_cases s b with ⟨closed | off, -⟩ | ⟨-, made⟩
  · simp [opened] at closed
  · exact absurd off on
  · rw [State.lastNotice, made, offer_room]
    · simp
    · exact room

/-! ### Entering RESTING (R169) -/

/-- Rest pauses a running clock where auto-pause is on. -/
theorem enterRest_play :
    s.enterRest.play = { s.play with clockRunning := s.play.clockRunning && !(s.rest.autoPause && s.play.clockRunning) } := by
  have pauses : s.goDark.allSweep.restPauses = (s.rest.autoPause && s.play.clockRunning) := by
    simp [State.restPauses, State.goDark, State.allSweep]
  have play : s.goDark.allSweep.play = s.play := by simp [State.goDark, State.allSweep]
  unfold State.enterRest State.pauseForRest
  dsimp only
  rw [pauses]
  split
  case isTrue stops => simp [State.setClockRunning, stops]
  case isFalse goes =>
    rw [Bool.not_eq_true] at goes
    simp only [goes, Bool.not_false, Bool.and_true, notify_frame, play]

/-- Of the lamps it may move the guard. -/
theorem enterRest_lamps : ∃ g, s.enterRest.lamps = { s.lamps with guard := g } := by
  obtain ⟨g, lamps⟩ := lampEvent_lamps s fun s => { s with rest := { s.rest with part := .resting, activity := .stopped } }
  refine ⟨g, Eq.trans ?_ lamps⟩
  unfold State.enterRest State.pauseForRest State.setClockRunning
  dsimp only
  split <;> simp [State.allSweep, State.goDark]

/-- REST is the last notice, after one of the guard and one of the clock at most. -/
theorem enterRest_lastNotice (opened : s.notices.opened = true) (on : s.notices.modes.play ≠ .off)
    (room : s.notices.queue.length + 3 ≤ 32) :
    s.enterRest.lastNotice (.rest s.rest.delay s.rest.autoPause (s.rest.autoPause && s.play.clockRunning)) := by
  have rest : s.goDark.allSweep.rest = { s.rest with part := .resting, activity := .stopped } := by
    simp [State.goDark, State.allSweep]
  have play : s.goDark.allSweep.play = s.play := by simp [State.goDark, State.allSweep]
  have unit : s.goDark.allSweep.notices = s.goDark.notices := by simp [State.allSweep]
  have dark : s.goDark.notices.queue.length ≤ s.notices.queue.length + 1 := lampEvent_length rfl
  have paused : s.goDark.allSweep.pauseForRest.notices.queue.length ≤ s.goDark.notices.queue.length + 1 := by
    unfold State.pauseForRest
    split
    · exact (notify_length _).trans (by simp)
    · rw [unit]
      omega
  have filed : s.goDark.allSweep.pauseForRest.notices.opened = s.notices.opened ∧
      s.goDark.allSweep.pauseForRest.notices.modes = s.notices.modes := by
    unfold State.pauseForRest State.setClockRunning
    split <;> simp [State.goDark]
  have told : s.enterRest = s.goDark.allSweep.pauseForRest.notify
      (.rest s.rest.delay s.rest.autoPause (s.rest.autoPause && s.play.clockRunning)) := by
    unfold State.enterRest State.restPauses
    dsimp only
    rw [rest, play]
  rw [told]
  exact notify_last (filed.1.trans opened) (filed.2 ▸ on) (by have : noticeRoom = 32 := rfl; omega)

/-- A lane of a part that comes to rest after events at the lamps that moved at most the guard and the scan's marks: it changes to SWEEP, and is marked where the whole changed a drive (R31, R32). -/
theorem enterRest_lane_after
    (lane : u.lane n = { s.lane n with stale := (s.lane n).stale || decide (s.laneDrive n ≠ u.laneDrive n) })
    (dark : u.laneDrive n = Table.full 12 .off ↔ s.laneDrive n = Table.full 12 .off) :
    u.enterRest.lane n =
      { (s.lane n).toSweep with stale := (s.lane n).stale || decide (s.laneDrive n ≠ u.enterRest.laneDrive n) } := by
  have off : u.enterRest.laneDrive n = Table.full 12 .off := laneDrive_resting _ n (by rw [enterRest_rest])
  rw [enterRest_lane, off, lane]
  by_cases lit : s.laneDrive n = Table.full 12 .off
  · have still := dark.2 lit
    simp [LaneUnit.toSweep, lit, still]
  · have still := mt dark.1 lit
    simp [LaneUnit.toSweep, lit, still]

/-- The end of the event in which the part came to rest. -/
theorem enterRest_finish_lane
    (lane : ∀ n, u.lane n = { s.lane n with stale := (s.lane n).stale || decide (s.laneDrive n ≠ u.laneDrive n) })
    (dark : ∀ n, u.laneDrive n = Table.full 12 .off ↔ s.laneDrive n = Table.full 12 .off) :
    s.drivesFollow u.enterRest.finish ∧
      u.enterRest.finish.laneGoes n
        { (s.lane n).toSweep with
          stale := (s.lane n).stale || decide (s.laneDrive n ≠ u.enterRest.finish.laneDrive n) } := by
  refine ⟨fun m differ => ?_, ?_⟩
  · rw [finish_laneDrive] at differ ⊢
    have marked := enterRest_lane_after (lane m) (dark m)
    have stale : (u.enterRest.lane m).stale = true := by simp [marked, differ]
    have same : (u.enterRest.lane m).state = (s.lane m).state := by rw [marked]; rfl
    rw [finish_lane, ← same]
    exact grant_stale stale
  · rw [finish_laneDrive, ← enterRest_lane_after (lane n) (dark n)]
    exact finish_laneGoes ..

/-- The activity timer at a value. -/
def State.timed (s : State) (a : ActivityTimer) : State := { s with rest := { s.rest with activity := a } }

/-- A report of activity sets the activity timer or changes nothing. -/
theorem reportActivity_timed : ∃ a, s.reportActivity = s.timed a := by
  unfold State.reportActivity
  split
  · exact ⟨_, rfl⟩
  · exact ⟨s.rest.activity, rfl⟩

/-- The activity timer is no matter of the lanes. -/
theorem timed_lane (a : ActivityTimer) :
    (s.timed a).laneDrive n = s.laneDrive n ∧
      (s.timed a).lane n = { s.lane n with stale := (s.lane n).stale || decide (s.laneDrive n ≠ (s.timed a).laneDrive n) } := by
  have drive : (s.timed a).laneDrive n = s.laneDrive n := laneDrive_part n rfl rfl rfl rfl
  refine ⟨drive, ?_⟩
  rw [drive]
  simp [State.timed, State.lane]

/-- Every lamp of a RESTING part is off (R135). -/
theorem effective_resting {c : CellId} (resting : s.rest.part = .resting) : s.effective c = .off := by
  simp [State.effective, resting]

/-- A READY part whose timer has run out rests where its sounder is idle. -/
theorem restIfDue_due (ready : s.rest.part = .ready) (expired : s.rest.activity = .expired) (silent : s.lamps.sounder = none) :
    s.restIfDue = s.enterRest := if_pos ⟨ready, expired, silent⟩

/-- The last cue of a part that waits to rest. -/
theorem endCue_rests {c : Fin 16} (plays : s.lamps.cues = [c]) (ready : s.rest.part = .ready)
    (expired : s.rest.activity = .expired) :
    s.endCue = (s.soundCues (·.cues.tail) (·.cues.tail.head?.map cueTicks)).enterRest := by
  obtain ⟨-, sounder, rest⟩ := soundCues_cues (s := s) (·.cues.tail) (·.cues.tail.head?.map cueTicks)
  rw [plays] at sounder
  have next : s.nextCue = s.soundCues (·.cues.tail) (·.cues.tail.head?.map cueTicks) :=
    if_neg (c := (s.soundCues (·.cues.tail) (·.cues.tail.head?.map cueTicks)).lamps.sounder.isSome = true)
      (by rw [sounder]; nofun)
  rw [State.endCue, next]
  exact restIfDue_due (rest ▸ ready) (rest ▸ expired) sounder

/-- The cue queue changed as one load change: a lane is marked where the guard's move changed a drive, and no lane is lit or darkened. -/
theorem soundCues_lane (f : LampUnit → List (Fin 16)) (g : LampUnit → Option Nat) :
    ((s.soundCues f g).laneDrive n = Table.full 12 .off ↔ s.laneDrive n = Table.full 12 .off) ∧
      (s.soundCues f g).lane n =
        { s.lane n with stale := (s.lane n).stale || decide (s.laneDrive n ≠ (s.soundCues f g).laneDrive n) } := by
  let set : State → State := fun s => { s with lamps := { s.lamps with cues := f s.lamps, sounder := g s.lamps } }
  obtain ⟨guard, lamps⟩ := lampEvent_lamps s set
  have same : (set s).laneDrive n = s.laneDrive n := rfl
  have lane := lampEvent_lane_stale s n set
  rw [same] at lane
  have dark : (s.lampEvent set).laneDrive n = Table.full 12 .off ↔ (set s).laneDrive n = Table.full 12 .off :=
    laneDrive_dark n (by simp) (by simp) (by simp) lamps
  rw [same] at dark
  simp only [ne_eq, not_true, decide_false, Bool.or_false] at lane
  exact ⟨dark, lane⟩

/-- What the rest leaves after the last cue. -/
theorem lastCue_rests {c : Fin 16} (plays : s.lamps.cues = [c]) :
    let t := (s.soundCues (·.cues.tail) (·.cues.tail.head?.map cueTicks)).enterRest.finish
    t.lamps.cues = [] ∧ t.lamps.sounder = none ∧ s.drivesFollow t ∧
      t.laneGoes n
        { (s.lane n).toSweep with stale := (s.lane n).stale || decide (s.laneDrive n ≠ t.laneDrive n) } := by
  obtain ⟨cues, sounder, -⟩ := soundCues_cues (s := s) (·.cues.tail) (·.cues.tail.head?.map cueTicks)
  have lanes := fun m => soundCues_lane (s := s) (n := m) (·.cues.tail) (·.cues.tail.head?.map cueTicks)
  rw [plays] at cues sounder
  generalize s.soundCues (·.cues.tail) (·.cues.tail.head?.map cueTicks) = w at cues sounder lanes ⊢
  obtain ⟨g, lamps⟩ := enterRest_lamps (s := w)
  have lit : w.enterRest.finish.lamps = w.enterRest.lamps := by simp
  dsimp only
  rw [lit, lamps]
  exact ⟨cues, sounder, enterRest_finish_lane (fun m => (lanes m).2) (fun m => (lanes m).1)⟩

end Sys2Proof.Machine

open Sys2Proof Sys2Proof.Machine

/-- Settles O51: the request, and the rest after the timer alone changed or the last cue ended. -/
theorem setRestAndRest : Obligations.SetRestAndRest := by
  refine ⟨fun delay a on s listening => ?_, ?_⟩
  · intro d
    refine ⟨fun high => ?_, ?_⟩
    · exact exec_badValue (block := takeSetRest delay a) rfl listening (by rw [takeSetRest, below_eq_none (by omega)])
    · refine exec_answered (takeSetRest delay (flag on)) rfl listening ?_
      have clamped : restDelay delay.toNat = d := by
        unfold restDelay clamp
        simp only [d]
        (repeat' split) <;> omega
      obtain ⟨i, read, one⟩ := below_flag on
      obtain ⟨kept, heard⟩ := reportActivity_timed (s := s)
      rw [takeSetRest, read, heard]
      dsimp only
      rw [clamped, one, if_pos (show (s.timed kept).rest.part = .ready from listening.2)]
      simp [success, State.timed, RestController.settings, fullActivity]
  intro n c k s running ready u pauses sweeps rests
  have sweep : ∀ w : State, (∀ m, (w.laneDrive m = Table.full 12 .off ↔ s.laneDrive m = Table.full 12 .off) ∧
      w.lane m = { s.lane m with stale := (s.lane m).stale || decide (s.laneDrive m ≠ w.laneDrive m) }) →
      sweeps w.enterRest.finish := fun w h => enterRest_finish_lane (fun m => (h m).2) (fun m => (h m).1)
  have rested : ∀ a, rests (s.timed a).enterRest.finish := fun a => by
    have swept := sweep (s.timed a) fun m => ⟨by rw [(timed_lane a).1], (timed_lane a).2⟩
    have rest : (s.timed a).enterRest.finish.rest =
        { s.rest with part := .resting, activity := .stopped, autoPaused := pauses || s.rest.autoPaused } :=
      (finish_frame _).2.1.trans (enterRest_rest _)
    have play : (s.timed a).enterRest.finish.play = { s.play with clockRunning := s.play.clockRunning && !pauses } :=
      Eq.trans (by simp) (enterRest_play (s := s.timed a))
    have steady := finish_steady (s.timed a).enterRest n
    rw [enterRest_lane] at steady
    obtain ⟨state, -, -, -, mode, timer, -⟩ := steady
    refine ⟨by rw [rest], by rw [rest], by rw [rest], by rw [rest], fun on => by rw [rest, on]; rfl,
      fun on => by rw [rest, on]; rfl,
      play, ?_, mode, state, fun runs => timer.trans (if_pos runs), swept, fun opened on room => ?_, ?_, fun b changed => ?_⟩
    · exact effective_resting (by rw [rest])
    · exact lastNotice_congr (s := (s.timed a).enterRest) (by simp) (enterRest_lastNotice opened on room)
    · rw [finish_records]
      simp [State.timed]
    · cases b <;> simp [Component.same, State.timed] at changed ⊢
  have expiry : s.rest.activity = .running k →
      exec .activityTimerExpiry s = .next (s.timed .expired).restIfDue.finish := fun runs => by
    rw [exec_live (fun s => if s.rest.activity.runs then (s.timed .expired).restIfDue.finish else s) rfl running,
      if_pos (by rw [runs]; rfl)]
  refine ⟨fun runs silent => ⟨_, expiry runs, ?_⟩, fun runs sounds => ⟨_, expiry runs, ?_⟩, fun expired silent => ?_,
    fun expired sounds one => ?_⟩
  · rw [restIfDue_due (s := s.timed .expired) ready rfl silent]
    exact rested .expired
  · have plays : s.lamps.sounder ≠ none := fun silent => by simp [silent] at sounds
    rw [restIfDue_idle (s := s.timed .expired) (.inr plays)]
    refine ⟨by simp [State.timed], fun m => finish_steady (s.timed .expired) m, by rw [finish_records]; rfl, fun b changed => ?_⟩
    cases b <;> simp [Component.same, State.timed] at changed ⊢
  · refine ⟨(s.timed s.rest.activity).enterRest.finish, ?_, rested _⟩
    rw [exec_live (fun s => s.restIfDue.finish) rfl running, restIfDue_due ready expired silent]
    rfl
  · obtain ⟨played, plays⟩ := List.length_eq_one_iff.1 one
    obtain ⟨cues, silent, swept⟩ := lastCue_rests (n := n) plays
    refine ⟨s.endCue.finish, ?_, ?_⟩
    · rw [exec_live (fun s => match s.lamps.sounder with
        | some n => if n ≤ 1 then s.endCue.finish else s
        | none => s) rfl running, sounds]
      exact congrArg Host.Outcome.next (if_pos (Nat.le_refl 1))
    · rw [endCue_rests plays ready expired]
      exact ⟨by rw [finish_frame _ |>.2.1, enterRest_rest], cues, silent, swept⟩

end

section
/-!
Quests acted on one by one: what an action leaves of its quest, and what a list of actions in a row leaves of all of them (R121, R124).
-/

namespace Sys2Proof.Machine

open Sys2Proof

variable {s t u : State}

/-! ### One quest acted on -/

/-- What an action leaves of its quest, and what it gives to the rest of the part. -/
structure QuestOutcome where
  record : Quest
  told : Option NoticeBody := none
  hint : Option (Option Region) := none
  flash : Option Flash := none
  credit : Option (Player × Nat) := none
  cue : Option (Fin 16) := none
  active : Bool := false
  wants : Bool := false
  leaves : Bool := false

/-- Points credited in a row to the counter of player `k`, which stood at `v` (R104). -/
def credited (credits : List (Player × Nat)) (k : Player) (v : Nat) : Nat :=
  ((credits.filter fun c => decide (c.1 = k)).map (·.2)).foldl (fun v x => min 9999 (v + x)) v

/-- A pass that the quests given have left (R120). -/
def Pass.without (p : Pass) (gone : QuestId → Bool) : Pass :=
  { p with evaluated := p.evaluated.filter fun e => !gone e.1 }

/-- From `s` to `t` quest `q` was acted on with the outcome given. -/
structure State.duty (s t : State) (q : QuestId) (o : QuestOutcome) : Prop where
  event : s.questEvent t o.told.toList
  quest : ∀ k, t.quest k = if k = q then o.record else s.quest k
  hints : ∀ k, Table.read t.lamps.hints k =
    if k = q then o.hint.getD (Table.read s.lamps.hints k) else Table.read s.lamps.hints k
  flashes : ∀ k, Table.read t.lamps.flashes k =
    if k = q then o.flash.or (Table.read s.lamps.flashes k) else Table.read s.lamps.flashes k
  scores : ∀ k, Table.read t.play.scores k = credited o.credit.toList k (Table.read s.play.scores k)
  sounding : t.lamps.sounding = o.cue.toList.foldl offered s.lamps.sounding
  rest : t.rest = if o.active = true then s.reportActivity.rest else s.rest
  wanted : t.quests.passWanted = (s.quests.passWanted || o.wants)
  pass : t.quests.pass = s.quests.pass.map fun p => p.without fun k => decide (k = q) && o.leaves

/-- From `s` to `t` the quests of `l` were acted on with the outcomes given, and no other. -/
structure State.duties (s t : State) (l : List QuestId) (o : QuestId → QuestOutcome) : Prop where
  event : s.questEvent t (l.filterMap fun q => (o q).told)
  quest : ∀ k, t.quest k = if k ∈ l then (o k).record else s.quest k
  hints : ∀ k, Table.read t.lamps.hints k =
    if k ∈ l then (o k).hint.getD (Table.read s.lamps.hints k) else Table.read s.lamps.hints k
  flashes : ∀ k, Table.read t.lamps.flashes k =
    if k ∈ l then (o k).flash.or (Table.read s.lamps.flashes k) else Table.read s.lamps.flashes k
  scores : ∀ k, Table.read t.play.scores k = credited (l.filterMap fun q => (o q).credit) k (Table.read s.play.scores k)
  sounding : t.lamps.sounding = (l.filterMap fun q => (o q).cue).foldl offered s.lamps.sounding
  rest : t.rest = if l.any (fun q => (o q).active) = true then s.reportActivity.rest else s.rest
  wanted : t.quests.passWanted = (s.quests.passWanted || l.any fun q => (o q).wants)
  pass : t.quests.pass = s.quests.pass.map fun p => p.without fun k => decide (k ∈ l) && (o k).leaves

/-- A pass that no quest has left. -/
theorem without_none {p : Pass} {gone : QuestId → Bool} (h : ∀ k, gone k = false) : p.without gone = p := by
  simp [Pass.without, h]

/-- No quest acted on. -/
theorem duties_nil (o : QuestId → QuestOutcome) : s.duties s [] o where
  event := questEvent_quests
  quest := fun k => by simp
  hints := fun k => by simp
  flashes := fun k => by simp
  scores := fun k => rfl
  sounding := rfl
  rest := by simp
  wanted := by simp
  pass := by cases s.quests.pass <;> simp [Pass.without]

/-- An entry of a list added before those of its tail. -/
theorem filterMap_cons_toList {α β : Type} (f : α → Option β) (a : α) (l : List α) :
    (a :: l).filterMap f = (f a).toList ++ l.filterMap f := by
  rw [List.filterMap_cons]
  cases f a <;> rfl

theorem credited_append (xs ys : List (Player × Nat)) (k : Player) (v : Nat) :
    credited (xs ++ ys) k v = credited ys k (credited xs k v) := by
  simp [credited]

/-- One more quest acted on, before the others. -/
theorem duties_cons {q : QuestId} {l : List QuestId} {o : QuestId → QuestOutcome} (new : q ∉ l) (h : s.duty t q (o q))
    (k : t.duties u l o) : s.duties u (q :: l) o where
  event := by
    rw [filterMap_cons_toList]
    exact h.event.trans k.event
  quest := fun j => by
    rw [k.quest, h.quest]
    by_cases e : j = q
    · simp [e, new]
    · simp [e]
  hints := fun j => by
    rw [k.hints, h.hints]
    by_cases e : j = q
    · simp [e, new]
    · simp [e]
  flashes := fun j => by
    rw [k.flashes, h.flashes]
    by_cases e : j = q
    · simp [e, new]
    · simp [e]
  scores := fun j => by rw [k.scores, h.scores, filterMap_cons_toList, credited_append]
  sounding := by rw [k.sounding, h.sounding, filterMap_cons_toList, List.foldl_append]
  rest := by
    have first := h.rest
    rw [k.rest, List.any_cons]
    split at first
    case isTrue acts =>
      rw [first, (reportActivity_rest_congr first).trans (reportActivity_rest_idem s), acts]
      simp
    case isFalse acts =>
      rw [Bool.not_eq_true] at acts
      rw [first, reportActivity_rest_congr first, acts, Bool.false_or]
  wanted := by rw [k.wanted, h.wanted, List.any_cons, Bool.or_assoc]
  pass := by
    rw [k.pass, h.pass]
    cases s.quests.pass with
    | none => rfl
    | some p =>
      simp only [Option.map_some, Pass.without, List.filter_filter, Option.some.injEq, Pass.mk.injEq, true_and, and_true]
      refine List.filter_congr fun e _ => ?_
      by_cases same : e.1 = q
      · simp [same, new]
      · simp [same]

/-- Quests acted on one by one, each as it stood before the first. -/
theorem duties_foldl {step : State → QuestId → State} {o : QuestId → QuestOutcome} {r : QuestId → Quest} {clock : Nat}
    {epoch : BitVec 16}
    (acts : ∀ (v : State) q, v.quest q = r q → v.play.clock = clock → v.epoch = epoch → v.duty (step v q) q (o q)) :
    ∀ {l : List QuestId} (s : State), l.Nodup → (∀ q ∈ l, s.quest q = r q) → s.play.clock = clock → s.epoch = epoch →
      s.duties (l.foldl step s) l o
  | [], _, _, _, _, _ => duties_nil o
  | q :: l, s, distinct, records, atClock, atEpoch => by
    obtain ⟨new, distinct⟩ := List.nodup_cons.1 distinct
    have first := acts s q (records q (by simp)) atClock atEpoch
    obtain ⟨epochs, clocks⟩ := first.event.stamp
    refine duties_cons new first (duties_foldl acts _ distinct (fun k hk => ?_) (clocks.trans atClock) (epochs.trans atEpoch))
    rw [first.quest, if_neg (show ¬k = q from fun e => new (e ▸ hk))]
    exact records k (by simp [hk])

/-! ### The actions -/

/-- A quest left as it is. -/
theorem duty_stays (q : QuestId) : s.duty s q { record := s.quest q } where
  event := questEvent_quests
  quest := fun k => by
    by_cases e : k = q
    · simp [e]
    · simp [e]
  hints := fun k => by simp
  flashes := fun k => by simp
  scores := fun k => rfl
  sounding := rfl
  rest := rfl
  wanted := by simp
  pass := by
    cases s.quests.pass with
    | none => rfl
    | some p => rw [Option.map_some, without_none fun k => by simp]

/-- The outcome of a hold that starts or is lost, with its notice if it has one (R121). -/
def QuestOutcome.holds (r : Quest) (since : Option Nat) (told : Option NoticeBody) : QuestOutcome where
  record := { r with progress := { r.progress with holdSince := since } }
  told := told

/-- A hold that starts or is lost. -/
theorem duty_holds (q : QuestId) (since : Option Nat) (told : Option NoticeBody) (plain : ∀ b ∈ told, b.isGuard = false) :
    s.duty (told.toList.foldl State.notify (s.setHoldSince q since)) q (.holds (s.quest q) since told) := by
  have record : s.questEvent (s.setHoldSince q since) [] := questEvent_quests
  have quest : ∀ k, (s.setHoldSince q since).quest k =
      if k = q then (QuestOutcome.holds (s.quest q) since told).record else s.quest k := fun k => setQuest_quest ..
  have left : s.quests.pass = s.quests.pass.map fun p =>
      p.without fun k => decide (k = q) && (QuestOutcome.holds (s.quest q) since told).leaves := by
    cases s.quests.pass with
    | none => rfl
    | some p => rw [Option.map_some, without_none fun k => by simp [QuestOutcome.holds]]
  have same : (s.setHoldSince q since).quests.passWanted = (s.quests.passWanted || false) := by simp [State.setHoldSince]
  cases told with
  | none =>
    exact ⟨record, quest, fun k => by simp [QuestOutcome.holds, State.setHoldSince],
      fun k => by simp [QuestOutcome.holds, State.setHoldSince], fun k => rfl, rfl, rfl, same, left⟩
  | some b =>
    have event := record.trans (questEvent_notify (s := s.setHoldSince q since) (plain b rfl))
    exact ⟨event, fun k => by simpa using quest k, fun k => by simp [QuestOutcome.holds, State.setHoldSince],
      fun k => by simp [QuestOutcome.holds, State.setHoldSince], fun k => by simp [QuestOutcome.holds, State.setHoldSince, credited],
      by simp [QuestOutcome.holds, State.setHoldSince], by simp [QuestOutcome.holds, State.setHoldSince], by simpa [QuestOutcome.holds] using same,
      by simpa [State.setHoldSince] using left⟩

/-- The outcome of an advance from stage `st` (R122). -/
def State.advanceOutcome (s : State) (q : QuestId) (st : Stage) (byTick : Bool) (epoch : BitVec 16) : QuestOutcome where
  record := (s.quest q).advanced (s.pointsOf q st) s.play.clock
  told := some (s.advanceBody q st byTick epoch)
  hint := some (s.quest q).nextHint
  flash := st.hint.map fun g => { region := g, left := 8 }
  credit := some ((s.quest q).owner, s.pointsOf q st)
  cue := st.cue
  active := true
  wants := true
  leaves := true

/-- A quest out of the evaluated set (R120). -/
theorem leaveSet_without (q : QuestId) :
    (s.leaveSet q).quests.pass = s.quests.pass.map fun p => p.without fun k => decide (k = q) && true := by
  unfold State.leaveSet Pass.without
  cases s.quests.pass <;> simp

/-- An advance. -/
theorem duty_advance (q : QuestId) (st : Stage) (byTick : Bool) (epoch : BitVec 16) :
    s.duty (s.advance q st byTick epoch) q (s.advanceOutcome q st byTick epoch) := by
  obtain ⟨scores, hints, sounding, flashes⟩ := advance_leaves (s := s) q st byTick epoch
  obtain ⟨pass, wanted⟩ := advance_pass (s := s) q st byTick epoch
  refine ⟨advance_questEvent q st byTick epoch, fun k => advance_quest q k st byTick epoch, fun k => ?_, flashes, fun k => ?_,
    sounding, advance_rest q st byTick epoch, ?_, pass.trans (leaveSet_without q)⟩
  · rw [hints, Table.read_put]
    rfl
  · rw [scores, Table.read_put]
    by_cases e : k = (s.quest q).owner
    · simp [e, credited, State.advanceOutcome, scoreMax]
    · simp [e, Ne.symm e, credited, State.advanceOutcome]
  · rw [wanted]
    simp [State.advanceOutcome]

/-- The outcome of a failure (R115, R124). -/
def State.failOutcome (s : State) (q : QuestId) (why : FailReason) : QuestOutcome where
  record := (s.quest q).failed why
  told := some (.questFailed q (s.quest q).progress.stage why (s.quest q).progress.earned)
  hint := some none
  active := true
  leaves := true

/-- A failure. -/
theorem duty_fail (q : QuestId) (why : FailReason) : s.duty (s.failQuest q why) q (s.failOutcome q why) := by
  obtain ⟨pass, wanted⟩ := failQuest_pass (s := s) q why
  refine ⟨failQuest_questEvent q why, fun k => failQuest_quest .., fun k => ?_, fun k => ?_, fun k => ?_, ?_,
    failQuest_rest q why, ?_, pass.trans (leaveSet_without q)⟩
  · rw [failQuest_lamps, Table.read_put]
    rfl
  · rw [failQuest_lamps]
    simp [State.failOutcome]
  · simp [State.failOutcome, credited]
  · rw [failQuest_lamps]
    rfl
  · rw [wanted]
    simp [State.failOutcome]

end Sys2Proof.Machine
end

section
/-!
PASS_COMMIT: the results of a pass applied quest by quest, and the snapshot of the pass that starts after it (R119 to R122).
-/

namespace Sys2Proof.Machine

open Sys2Proof

variable {s t u : State}

/-! ### The stages that advance -/

/-- The quests of a list that advance, each with the stage it advances from. -/
def advancesOf (l : List QuestId) (adv : QuestId → Option Stage) : List (QuestId × Stage) :=
  l.filterMap fun q => (adv q).map fun st => (q, st)

/-- Each advance credits its points to the owner's counter. -/
theorem advancesOf_credits (l : List QuestId) (adv : QuestId → Option Stage) (owner : QuestId → Player)
    (points : QuestId → Stage → Nat) (k : Player) (v : Nat) :
    credited (l.filterMap fun q => (adv q).map fun st => (owner q, points q st)) k v =
      (((advancesOf l adv).filter fun a => decide (owner a.1 = k)).map fun a => points a.1 a.2).foldl
        (fun v x => min 9999 (v + x)) v := by
  have made : (l.filterMap fun q => (adv q).map fun st => (owner q, points q st)) =
      (advancesOf l adv).map fun a => (owner a.1, points a.1 a.2) := by
    simp [advancesOf, List.map_filterMap, Function.comp_def]
  rw [made]
  simp [credited, List.filter_map, Function.comp_def]

/-- Each advance offers its stage's cue. -/
theorem advancesOf_cues (l : List QuestId) (adv : QuestId → Option Stage) :
    (l.filterMap fun q => (adv q).bind (·.cue)) = (advancesOf l adv).filterMap fun a => a.2.cue := by
  rw [advancesOf, List.filterMap_filterMap]
  refine List.filterMap_congr fun q _ => ?_
  cases adv q <;> rfl

/-- Whether there is an advance. -/
theorem advancesOf_any (l : List QuestId) (adv : QuestId → Option Stage) :
    (l.any fun q => (adv q).isSome) = !(advancesOf l adv).isEmpty := by
  induction l with
  | nil => rfl
  | cons q l ih =>
    rw [List.any_cons, ih, advancesOf, advancesOf, filterMap_cons_toList]
    cases adv q <;> rfl

/-- A quest advances when it is in the list and has a stage to advance from. -/
theorem mem_advancesOf {l : List QuestId} {adv : QuestId → Option Stage} {q : QuestId} {st : Stage} :
    (q, st) ∈ advancesOf l adv ↔ q ∈ l ∧ adv q = some st := by
  simp only [advancesOf, List.mem_filterMap, Option.map_eq_some_iff, Prod.mk.injEq]
  constructor
  · rintro ⟨k, mem, st', adv, rfl, rfl⟩
    exact ⟨mem, adv⟩
  · rintro ⟨mem, adv⟩
    exact ⟨q, mem, st, adv, rfl, rfl⟩

/-! ### The result of one quest (R121) -/

/-- The stage a quest advances from at the commit of a pass, if its test is met. -/
def State.advancing (s : State) (p : Pass) (q : QuestId) : Option Stage :=
  (s.quest q).current.bind fun st =>
    match st.test with
    | .hold _ _ _ => none
    | _ => if st.holds (s.quest q).owner p.view p.patterns = true then some st else none

/-- What the commit of a pass makes of a quest. -/
def State.resultOf (s : State) (p : Pass) (q : QuestId) : QuestOutcome :=
  match (s.quest q).current with
  | none => { record := s.quest q }
  | some st =>
    match st.test, (s.quest q).progress.holdSince, st.holds (s.quest q).owner p.view p.patterns with
    | .hold _ _ _, none, true => .holds (s.quest q) (some s.play.clock) none
    | .hold _ _ _, some since, false =>
      .holds (s.quest q) none
        (some (.holdBroken q (s.quest q).progress.stage (min 65535 (s.play.clock - since)) p.epoch))
    | .hold _ _ _, _, _ => { record := s.quest q }
    | _, _, true => s.advanceOutcome q st false p.epoch
    | _, _, false => { record := s.quest q }

section Results

variable {p : Pass} {q : QuestId} {st : Stage}

/-- A HOLD stage: the record after the commit. -/
theorem resultOf_hold {k : Fin 32} {m d : Nat} (current : (s.quest q).current = some st) (hold : st.test = .hold k m d) :
    (s.resultOf p q).record =
      { s.quest q with
        progress :=
          { (s.quest q).progress with
            holdSince :=
              if st.holds (s.quest q).owner p.view p.patterns = true then
                some ((s.quest q).progress.holdSince.getD s.play.clock)
              else none } } := by
  unfold State.resultOf
  rw [current]
  dsimp only
  rw [hold]
  cases since : (s.quest q).progress.holdSince <;> cases met : st.holds (s.quest q).owner p.view p.patterns
  · simp [← since]
  · rfl
  · rfl
  · dsimp only
    rw [if_pos rfl, Option.getD_some, ← since]

/-- Another stage: it advances or stays. -/
theorem resultOf_other (current : (s.quest q).current = some st) (other : ∀ k m d, st.test ≠ .hold k m d) :
    s.resultOf p q =
        (if st.holds (s.quest q).owner p.view p.patterns = true then s.advanceOutcome q st false p.epoch
        else { record := s.quest q }) ∧
      s.advancing p q = if st.holds (s.quest q).owner p.view p.patterns = true then some st else none := by
  unfold State.resultOf State.advancing
  rw [current, Option.bind_some]
  dsimp only
  cases test : st.test with
  | hold k m d => exact absurd test (other k m d)
  | _ => cases st.holds (s.quest q).owner p.view p.patterns <;> exact ⟨rfl, rfl⟩

end Results

/-- The result depends on the quest's record and the clock. -/
theorem resultOf_congr {p : Pass} {q : QuestId} (quest : t.quest q = s.quest q) (clock : t.play.clock = s.play.clock) :
    t.resultOf p q = s.resultOf p q := by
  unfold State.resultOf State.advanceOutcome State.advanceBody State.pointsOf
  rw [quest, clock]

/-- The result applied is an action with that outcome. -/
theorem applyResult_duty (p : Pass) (e : QuestId × Nat) : s.duty (State.applyResult p s e) e.1 (s.resultOf p e.1) := by
  unfold State.applyResult State.resultOf
  dsimp only
  cases (s.quest e.1).current with
  | none => exact duty_stays e.1
  | some st =>
    dsimp only
    cases st.test with
    | hold k m d =>
      cases (s.quest e.1).progress.holdSince <;> cases st.holds (s.quest e.1).owner p.view p.patterns
      · exact duty_stays e.1
      · exact duty_holds e.1 _ none nofun
      · exact duty_holds e.1 none (some _) fun b is => by cases is; rfl
      · exact duty_stays e.1
    | _ =>
      cases st.holds (s.quest e.1).owner p.view p.patterns
      · exact duty_stays e.1
      · exact duty_advance e.1 st false p.epoch

/-- What an outcome gives to counters, cues and passes is that of the quest's advance, if it advances. -/
theorem resultOf_gives (p : Pass) (q : QuestId) :
    (s.resultOf p q).credit = ((s.advancing p q).map fun st => ((s.quest q).owner, s.pointsOf q st)) ∧
      (s.resultOf p q).cue = (s.advancing p q).bind (·.cue) ∧ (s.resultOf p q).active = (s.advancing p q).isSome ∧
      (s.resultOf p q).wants = (s.advancing p q).isSome ∧
      (s.resultOf p q).hint = ((s.advancing p q).map fun _ => (s.quest q).nextHint) ∧
      (s.resultOf p q).flash = (s.advancing p q).bind fun st => st.hint.map fun g => { region := g, left := 8 } := by
  unfold State.resultOf State.advancing
  cases (s.quest q).current with
  | none => exact ⟨rfl, rfl, rfl, rfl, rfl, rfl⟩
  | some st =>
    dsimp only [Option.bind_some]
    cases st.test with
    | hold k m d =>
      cases (s.quest q).progress.holdSince <;> cases st.holds (s.quest q).owner p.view p.patterns <;>
        exact ⟨rfl, rfl, rfl, rfl, rfl, rfl⟩
    | _ => cases st.holds (s.quest q).owner p.view p.patterns <;> exact ⟨rfl, rfl, rfl, rfl, rfl, rfl⟩

/-- The commit acts on the quests of the evaluated set, with no pass in flight. -/
theorem commitPass_duties {p : Pass} (flight : s.quests.pass = some p) (distinct : (p.evaluated.map (·.1)).Nodup) :
    State.duties { s with quests := { s.quests with pass := none } } s.commitPass (p.evaluated.map (·.1)) (s.resultOf p) := by
  have commits : s.commitPass =
      (p.evaluated.map (·.1)).foldl (fun v q => State.applyResult p v (q, 0)) { s with quests := { s.quests with pass := none } } := by
    rw [State.commitPass, flight, List.foldl_map]
    rfl
  rw [commits]
  refine duties_foldl (r := s.quest) (clock := s.play.clock) (epoch := s.epoch) (fun v q quest clock _ => ?_) _ distinct
    (fun _ _ => rfl) rfl rfl
  rw [← resultOf_congr quest clock]
  exact applyResult_duty p (q, 0)

/-! ### The snapshot (R119) -/

/-- What a snapshot taken now holds. -/
def State.snapshot (s : State) : Pass :=
  { epoch := s.epoch, view := s.view, evaluated := s.runningSet, patterns := s.copiedPatterns s.runningSet }

/-- With no pass in flight the end of an event starts the one that is wanted. -/
theorem finish_pass (free : s.quests.pass = none) :
    s.finish.quests.passWanted = false ∧
      s.finish.quests.pass = if s.quests.passWanted = true then some s.snapshot else none := by
  have same : s.grantAll.snapshot = s.snapshot := by
    unfold State.snapshot State.view State.copiedPatterns State.runningSet
    simp
  unfold State.finish State.startPass
  simp only [show s.grantAll.quests = s.quests by simp, free, and_true]
  split
  case isTrue wanted => exact ⟨rfl, congrArg some same⟩
  case isFalse idle => simp [free, idle]

/-- The patterns a snapshot copies are those that the current stages of its quests name. -/
theorem copiedPatterns_eq :
    s.copiedPatterns s.runningSet =
      Table.each s.patterns fun k d =>
        if (s.runningSet.any fun e =>
          match ((s.quest e.1).stages[e.2]?).map Stage.test with
          | some (.form j _) => decide (j = k)
          | some (.hold j _ _) => decide (j = k)
          | _ => false) = true then d else none := by
  unfold State.copiedPatterns
  refine congrArg (Table.each s.patterns) (funext fun k => funext fun d => ?_)
  have same : (s.runningSet.any fun e => decide (((s.quest e.1).current.bind fun st => st.test.pattern?) = some k)) =
      s.runningSet.any fun e =>
        match ((s.quest e.1).stages[e.2]?).map Stage.test with
        | some (.form j _) => decide (j = k)
        | some (.hold j _ _) => decide (j = k)
        | _ => false := by
    refine Bool.eq_iff_iff.2 ?_
    simp only [List.any_eq_true]
    refine exists_congr fun e => and_congr_right fun mem => ?_
    obtain ⟨q, -, is⟩ := List.mem_filterMap.1 mem
    split at is
    case isFalse => cases is
    case isTrue =>
      cases is
      unfold Quest.current
      dsimp only
      cases (s.quest q).stages[(s.quest q).progress.stage]? with
      | none => simp
      | some st => cases h : st.test <;> simp [h, StageTest.pattern?]
  rw [same]

end Sys2Proof.Machine

open Sys2Proof Sys2Proof.Machine

/-- Settles O43: the fold of the quests' outcomes, and the stage tests. -/
theorem passCommitAppliesItsResults : Obligations.PassCommitAppliesItsResults := by
  refine ⟨fun p s running flight distinct => ?_, fun st o v patterns => ?_⟩
  · intro clock ticks offer stage met points advances told
    have acted := commitPass_duties flight distinct
    have step : exec .passCommit s = .next s.commitPass.finish := by
      rw [exec_live (fun s => if s.quests.pass.isSome then s.commitPass.finish else s) rfl running, if_pos (by rw [flight]; rfl)]
    have advs : advances = advancesOf (p.evaluated.map (·.1)) (s.advancing p) := by
      rw [advancesOf, List.filterMap_map]
      refine List.filterMap_congr fun e _ => ?_
      simp only [stage, met, Function.comp_apply, State.advancing, Quest.current]
      cases (s.quest e.1).stages[(s.quest e.1).progress.stage]? with
      | none => rfl
      | some st =>
        simp only [Option.bind_some]
        cases st.test with
        | hold k m d => rfl
        | _ =>
          dsimp only
          split <;> rfl
    have tells : told = (p.evaluated.map (·.1)).filterMap fun q => (s.resultOf p q).told := by
      rw [List.filterMap_map]
      refine List.filterMap_congr fun e _ => ?_
      simp only [stage, met, Function.comp_apply, State.resultOf, Quest.current]
      cases (s.quest e.1).stages[(s.quest e.1).progress.stage]? with
      | none => rfl
      | some st =>
        simp only [Option.bind_some]
        cases st.test with
        | hold k m d =>
          cases (s.quest e.1).progress.holdSince <;> cases st.holds (s.quest e.1).owner p.view p.patterns <;> rfl
        | _ => cases st.holds (s.quest e.1).owner p.view p.patterns <;> rfl
    have event := (questEvent_quests (s := s) (e := { s.quests with pass := none })).trans acted.event
    have quest : ∀ k, s.commitPass.quest k = if k ∈ p.evaluated.map (·.1) then (s.resultOf p k).record else s.quest k :=
      acted.quest
    have hints : ∀ k, Table.read s.commitPass.lamps.hints k =
        if k ∈ p.evaluated.map (·.1) then (s.resultOf p k).hint.getD (Table.read s.lamps.hints k)
        else Table.read s.lamps.hints k := acted.hints
    have flashes : ∀ k, Table.read s.commitPass.lamps.flashes k =
        if k ∈ p.evaluated.map (·.1) then (s.resultOf p k).flash.or (Table.read s.lamps.flashes k)
        else Table.read s.lamps.flashes k := acted.flashes
    have scores := acted.scores
    have sounding := acted.sounding
    have rest := acted.rest
    have wanted := acted.wanted
    have free : s.commitPass.quests.pass = none := acted.pass
    rw [List.nil_append, ← tells] at event
    obtain ⟨filed, follow, steady, same⟩ := event.finish
    have lamps : s.commitPass.finish.lamps = s.commitPass.lamps := by simp
    have played : s.commitPass.finish.play = s.commitPass.play := by simp
    have read : ∀ k, s.commitPass.finish.quest k = s.commitPass.quest k := fun k => by rw [State.quest, finish_records]; rfl
    obtain ⟨idle, snapshot⟩ := finish_pass free
    have gives := resultOf_gives (s := s) p
    have acts : ((p.evaluated.map (·.1)).any fun q => (s.resultOf p q).active) = !advances.isEmpty ∧
        ((p.evaluated.map (·.1)).any fun q => (s.resultOf p q).wants) = !advances.isEmpty := by
      rw [advs, ← advancesOf_any]
      exact ⟨congrArg _ (funext fun q => (gives q).2.2.1), congrArg _ (funext fun q => (gives q).2.2.2.1)⟩
    have member : ∀ e ∈ p.evaluated, e.1 ∈ p.evaluated.map (·.1) := fun e mem => List.mem_map.2 ⟨e, mem, rfl⟩
    refine ⟨s.commitPass.finish, step, by simp, by simp, by simp, ?_, follow, steady, fun q out => ?_,
      fun e mem st current => ⟨fun hold => ⟨fun ok new => ?_, fun ok held => ?_, fun broken => ?_⟩, fun other => ⟨fun unmet => ?_,
        fun ok => ⟨fun next more => ?_, fun last => ?_, ?_, fun g hint => ?_⟩⟩⟩, fun q out => ?_, fun q dark => ?_, fun k => ?_, ?_,
      ?_, filed, ?_, idle, ?_, same⟩
    · rw [played]
      exact event.play
    · rw [read, quest, if_neg fun mem => by obtain ⟨e, mem, is⟩ := List.mem_map.1 mem; exact out e mem is]
    · obtain ⟨k, m, d, hold⟩ := hold
      rw [read, quest, if_pos (member e mem), resultOf_hold current hold, if_pos ok, new]
      rfl
    · obtain ⟨k, m, d, hold⟩ := hold
      obtain ⟨since, held⟩ := Option.isSome_iff_exists.1 held
      rw [read, quest, if_pos (member e mem), resultOf_hold current hold, if_pos ok, held, Option.getD_some, ← held]
    · obtain ⟨k, m, d, hold⟩ := hold
      rw [read, quest, if_pos (member e mem), resultOf_hold current hold, if_neg (Bool.eq_false_iff.1 broken)]
    · rw [read, quest, if_pos (member e mem), (resultOf_other current other).1, if_neg (Bool.eq_false_iff.1 unmet)]
    · rw [read, quest, if_pos (member e mem), (resultOf_other current other).1, if_pos ok]
      exact advanced_next _ _ more
    · rw [read, quest, if_pos (member e mem), (resultOf_other current other).1, if_pos ok]
      exact advanced_last _ _ last
    · rw [lamps, hints, if_pos (member e mem), (resultOf_other current other).1, if_pos ok]
      rfl
    · rw [lamps, flashes, if_pos (member e mem), (resultOf_other current other).1, if_pos ok, State.advanceOutcome, hint]
      rfl
    · rw [lamps, hints, (gives q).2.2.2.2.1]
      cases adv : s.advancing p q with
      | none => simp
      | some st =>
        rw [if_neg fun mem => out (q, st) (advs ▸ mem_advancesOf.2 ⟨mem, adv⟩) rfl]
    · rw [lamps, flashes, (gives q).2.2.2.2.2]
      cases adv : s.advancing p q with
      | none => simp
      | some st =>
        by_cases mem : q ∈ p.evaluated.map (·.1)
        · rw [if_pos mem, Option.bind_some, dark (q, st) (advs ▸ mem_advancesOf.2 ⟨mem, adv⟩) rfl]
          rfl
        · rw [if_neg mem]
    · rw [played, scores, advs]
      exact (congrArg (credited · k _) (List.filterMap_congr fun q _ => (gives q).1)).trans
        (advancesOf_credits _ _ (fun q => (s.quest q).owner) s.pointsOf k _)
    · have given : (p.evaluated.map (·.1)).filterMap (fun q => (s.resultOf p q).cue) = advances.filterMap fun a => a.2.cue := by
        rw [advs, ← advancesOf_cues]
        exact List.filterMap_congr fun q _ => (gives q).2.1
      have offers : offered = offer := funext fun x => funext fun c => by simp only [offered, offer, ticks, cueTicks_eq]
      rw [lamps, ← offers, ← given]
      exact sounding
    · rw [lamps]
      exact event.lamps
    · rw [acts.1] at rest
      rw [show s.commitPass.finish.rest = s.commitPass.rest by simp, rest]
      cases advances with
      | nil => rfl
      | cons a l => exact reportActivity_rest_congr rfl
    · rw [acts.2] at wanted
      have wants : s.commitPass.quests.passWanted = true ↔ s.quests.passWanted = true ∨ advances ≠ [] := by
        rw [wanted]
        cases advances <;> simp
      have view : s.commitPass.view = s.view := by simp [State.view]
      have blocks : s.commitPass.epoch = s.epoch ∧ s.commitPass.patterns = s.patterns := by simp
      simp only [read, snapshot, State.snapshot, copiedPatterns_eq, view, blocks, ← wants]
      rfl
  · unfold Stage.holds
    dsimp only
    have counted : ∀ (k : TileTest) (f : OwnerFilter), collectedCount v k f = allPositions.countP fun b =>
        match v.look b with
        | some (_, some i) => i.counting && f.passes i && k.passes i.kind
        | _ => false := fun k f => by
      rw [collectedCount, View.occupied, List.countP_filterMap]
      refine List.countP_congr fun b _ => ?_
      rcases v.look b with _ | ⟨c, _ | i⟩ <;> rfl
    cases st.test with
    | form k m => rfl
    | hold k m d => rfl
    | collect k m =>
      dsimp only
      rw [counted]
      cases st.filter <;> cases k <;> rfl
    | clear k m =>
      dsimp only
      rw [counted]
      cases st.filter <;> cases k <;> rfl

end

section
/-!
TICK: its two paths, the game clock with its duties and the lamps with their flashes, blink and cue, and the two of them in either order (R100, R103, R124, R133, R136, R143).
-/

namespace Sys2Proof.Machine

open Sys2Proof

variable {s t u : State}

/-! ### Lanes lit or darkened, through a rest or not -/

/-- From `s` to `t` no lane changed its state or lost its stale mark, and those whose drives changed are marked. -/
def State.relights (s t : State) : Prop :=
  ∀ n, (t.lane n).state = (s.lane n).state ∧ ((s.lane n).stale = true → (t.lane n).stale = true) ∧
    (s.laneDrive n ≠ t.laneDrive n → (t.lane n).stale = true)

theorem marks_relights (h : s.marks t) : s.relights t := fun n => by
  obtain ⟨b, lane, marked⟩ := h n
  exact ⟨by rw [lane], fun stale => by simp [lane, stale], fun differ => by simp [lane, marked differ]⟩

theorem relights_trans (h : s.relights t) (k : t.relights u) : s.relights u := fun n => by
  obtain ⟨state, keeps, marked⟩ := h n
  obtain ⟨state', keeps', marked'⟩ := k n
  refine ⟨state'.trans state, fun stale => keeps' (keeps stale), fun differ => ?_⟩
  by_cases e : s.laneDrive n = t.laneDrive n
  · exact marked' (e ▸ differ)
  · exact keeps' (marked e)

/-- Coming to rest marks the lanes that were lit. -/
theorem enterRest_relights : s.relights s.enterRest := fun n => by
  have lane := enterRest_lane s n
  exact ⟨by rw [lane]; rfl, fun stale => by simp [lane, stale], fun differ => by simp [lane, differ]⟩

theorem finish_relights (h : s.relights u) : s.drivesFollow u.finish := fun n differ => by
  obtain ⟨state, -, marked⟩ := h n
  rw [finish_laneDrive] at differ ⊢
  rw [finish_lane, ← state]
  exact grant_stale (marked differ)

/-! ### The lamps' tick (R133, R136, R143) -/

/-- The head cue takes a tick. -/
def playTick (x : List (Fin 16) × Option Nat) : List (Fin 16) × Option Nat :=
  match x.2 with
  | none => x
  | some k => if k ≤ 1 then (x.1.drop 1, (x.1.drop 1).head?.map cueTicks) else (x.1, some (k - 1))

/-- The lamps after a tick, under guard state `g`. -/
def LampUnit.ticked (u : LampUnit) (g : Guard) : LampUnit :=
  { u with
    flashes := Table.each u.flashes fun _ f => f.bind Flash.step
    phaseOn := if 1 ≤ u.blinkCount then !u.phaseOn else u.phaseOn
    blinkCount := if 1 ≤ u.blinkCount then 0 else u.blinkCount + 1
    cues := (playTick u.sounding).1
    sounder := (playTick u.sounding).2
    guard := g }

/-- From `s` to `t` the lamps changed in events that made no notice but those of the guard, and activity was reported or not. -/
structure State.quietEvent (s t : State) : Prop where
  marks : s.marks t
  filed : s.filed t []
  same : s.sameBut t [.lamps, .notices, .lanes, .rest]
  rest : t.rest = s.rest ∨ t.rest = s.reportActivity.rest

theorem State.quietEvent.trans (h : s.quietEvent t) (k : t.quietEvent u) : s.quietEvent u where
  marks := marks_trans h.marks k.marks
  filed := by
    have play : t.play = s.play := h.same .play (by simp)
    exact filed_trans h.filed k.filed (h.same .epoch (by simp)) (congrArg PlayRecord.clock play)
  same := sameBut_trans h.same k.same
  rest := by
    rcases h.rest with first | first <;> rcases k.rest with second | second
    · exact .inl (second.trans first)
    · exact .inr (second.trans (reportActivity_rest_congr first))
    · exact .inr (second.trans first)
    · exact .inr (second.trans ((reportActivity_rest_congr first).trans (reportActivity_rest_idem s)))

/-- An event at the lamps that leaves the guard to its evaluation. -/
theorem quietEvent_lamps (f : LampUnit → LampUnit) (guard : (f s.lamps).guard = s.lamps.guard) :
    s.quietEvent (s.lampEvent fun s => { s with lamps := f s.lamps }) where
  marks := lampStep_marks (lampEvent_lampStep (fun _ => rfl) guard rfl)
  filed := lampEvent_filed rfl rfl rfl
  same := fun k hk => by cases k <;> simp [Component.same] at hk ⊢
  rest := .inl (by simp)

/-- The lamps' counters written, no drive read from them. -/
theorem quietEvent_counters (blink : Nat) (sounder : Option Nat) :
    s.quietEvent { s with lamps := { s.lamps with blinkCount := blink, sounder := sounder } } where
  marks := fun n => ⟨false, by simp [State.lane], fun differ => absurd rfl differ⟩
  filed := filed_nil rfl
  same := fun k hk => by cases k <;> simp [Component.same] at hk ⊢
  rest := .inl rfl

theorem quietEvent_reportActivity : s.quietEvent s.reportActivity where
  marks := marks_same (by simp) (by simp) (by simp) (by simp) (by simp)
  filed := filed_nil (by simp)
  same := fun k hk => by cases k <;> simp [Component.same] at hk ⊢
  rest := .inr rfl

/-- An activity timer that has not expired does not expire by a report of activity. -/
theorem State.quietEvent.awake (h : s.quietEvent t) (awake : s.rest.activity ≠ .expired) : t.rest.activity ≠ .expired := by
  rcases h.rest with rest | rest
  · rwa [rest]
  · rw [rest]
    unfold State.reportActivity
    split
    · nofun
    · exact awake

/-- The flashes and the blink take the tick. -/
theorem tickBlink_quiet :
    s.quietEvent s.tickFlashes.tickBlink ∧
      ∃ g, s.tickFlashes.tickBlink.lamps =
        { s.lamps with
          flashes := Table.each s.lamps.flashes fun _ f => f.bind Flash.step
          phaseOn := if 1 ≤ s.lamps.blinkCount then !s.lamps.phaseOn else s.lamps.phaseOn
          blinkCount := if 1 ≤ s.lamps.blinkCount then 0 else s.lamps.blinkCount + 1
          guard := g } := by
  have flashes : s.quietEvent s.tickFlashes :=
    quietEvent_lamps (fun l => { l with flashes := Table.each l.flashes fun _ f => f.bind Flash.step }) rfl
  obtain ⟨g, faded⟩ := lampEvent_lamps s fun s =>
    { s with lamps := { s.lamps with flashes := Table.each s.lamps.flashes fun _ f => f.bind Flash.step } }
  rw [show s.lampEvent _ = s.tickFlashes from rfl] at faded
  have count : s.tickFlashes.lamps.blinkCount = s.lamps.blinkCount := by rw [faded]
  unfold State.tickBlink
  rw [count]
  split
  case isTrue due =>
    obtain ⟨g', turned⟩ := lampEvent_lamps s.tickFlashes fun s =>
      { s with lamps := { s.lamps with phaseOn := !s.lamps.phaseOn, blinkCount := 0 } }
    refine ⟨flashes.trans (quietEvent_lamps (fun l => { l with phaseOn := !l.phaseOn, blinkCount := 0 }) rfl), g', ?_⟩
    rw [if_pos (by omega), if_pos (by omega), State.toggleBlink, turned, faded]
  case isFalse early =>
    refine ⟨flashes.trans (quietEvent_counters _ s.tickFlashes.lamps.sounder), g, ?_⟩
    rw [if_neg (by omega), if_neg (by omega), faded]

/-- The cue queue changed, as one load change. -/
theorem soundCues_quiet (f : LampUnit → List (Fin 16)) (g : LampUnit → Option Nat) :
    s.quietEvent (s.soundCues f g) ∧
      ∃ h, (s.soundCues f g).lamps = { s.lamps with cues := f s.lamps, sounder := g s.lamps, guard := h } := by
  obtain ⟨h, lamps⟩ := lampEvent_lamps s fun s => { s with lamps := { s.lamps with cues := f s.lamps, sounder := g s.lamps } }
  exact ⟨quietEvent_lamps (fun l => { l with cues := f l, sounder := g l }) rfl, h, lamps⟩

/-- The next cue starts, or the sounder falls silent (R143). -/
theorem nextCue_quiet :
    s.quietEvent s.nextCue ∧
      ∃ g, s.nextCue.lamps =
        { s.lamps with cues := s.lamps.cues.tail, sounder := s.lamps.cues.tail.head?.map cueTicks, guard := g } := by
  obtain ⟨sounds, g, lamps⟩ := soundCues_quiet (s := s) (·.cues.tail) (·.cues.tail.head?.map cueTicks)
  have next : s.nextCue =
      if (s.soundCues (·.cues.tail) (·.cues.tail.head?.map cueTicks)).lamps.sounder.isSome = true then
        (s.soundCues (·.cues.tail) (·.cues.tail.head?.map cueTicks)).reportActivity
      else s.soundCues (·.cues.tail) (·.cues.tail.head?.map cueTicks) := rfl
  rw [next]
  generalize s.soundCues (·.cues.tail) (·.cues.tail.head?.map cueTicks) = w at sounds lamps ⊢
  split
  case isTrue => exact ⟨sounds.trans quietEvent_reportActivity, g, by simpa using lamps⟩
  case isFalse => exact ⟨sounds, g, lamps⟩

/-- The cue's tick, before the part that waited for the sounder rests. -/
theorem tickCue_quiet :
    ∃ w, s.quietEvent w ∧
      (∃ g, w.lamps =
        { s.lamps with cues := (playTick s.lamps.sounding).1, sounder := (playTick s.lamps.sounding).2, guard := g }) ∧
      (s.tickCue = w ∨ s.tickCue = w.restIfDue) := by
  unfold State.tickCue playTick LampUnit.sounding
  dsimp only
  cases sounder : s.lamps.sounder with
  | none => exact ⟨s, ⟨marks_same rfl rfl rfl rfl rfl, filed_nil rfl, fun k _ => by cases k <;> rfl, .inl rfl⟩,
      ⟨s.lamps.guard, by dsimp only; rw [← sounder]⟩, .inl rfl⟩
  | some k =>
    dsimp only
    split
    case isTrue ends =>
      obtain ⟨quiet, g, lamps⟩ := nextCue_quiet (s := s)
      exact ⟨s.nextCue, quiet, ⟨g, by rw [lamps, List.drop_one]⟩, .inr rfl⟩
    case isFalse => exact ⟨_, quietEvent_counters s.lamps.blinkCount (some (k - 1)), ⟨s.lamps.guard, rfl⟩, .inl rfl⟩

/-- What a tick at the lamps leaves. -/
structure State.lampsTick (s t : State) : Prop where
  lamps : ∃ g, t.lamps = s.lamps.ticked g
  relights : s.relights t
  same : s.sameBut t [.lamps, .notices, .lanes, .rest, .play]
  play : t.play = s.play ∨
    s.play.clockRunning = true ∧ s.rest.activity = .expired ∧ t.play = { s.play with clockRunning := false }
  quiet : s.rest.activity ≠ .expired → s.quietEvent t

/-- A tick at the lamps, and the rest that may follow it. -/
theorem tickLamps_lampsTick : s.lampsTick s.tickLamps := by
  obtain ⟨blinked, g, turned⟩ := tickBlink_quiet (s := s)
  obtain ⟨w, cued, ⟨g', played⟩, goes⟩ := tickCue_quiet (s := s.tickFlashes.tickBlink)
  have quiet := blinked.trans cued
  have lamps : w.lamps = s.lamps.ticked g' := by
    have sounding : s.tickFlashes.tickBlink.lamps.sounding = s.lamps.sounding := by rw [turned, LampUnit.sounding]; rfl
    rw [played, sounding, turned, LampUnit.ticked]
  have play : w.play = s.play := quiet.same .play (by simp)
  have stays : s.lampsTick w := ⟨⟨g', lamps⟩, marks_relights quiet.marks, sameBut_mono quiet.same (by simp), .inl play,
    fun _ => quiet⟩
  have ticks : s.tickLamps = s.tickFlashes.tickBlink.tickCue := rfl
  rw [ticks]
  generalize s.tickFlashes.tickBlink = v at goes
  rcases goes with now | now
  · exact now ▸ stays
  · rw [now, State.restIfDue]
    split
    case isFalse => exact stays
    case isTrue due =>
      have expired : s.rest.activity = .expired := by
        by_contra awake
        exact quiet.awake awake due.2.1
      obtain ⟨h, rested⟩ := enterRest_lamps (s := w)
      refine ⟨⟨h, by rw [rested, lamps, LampUnit.ticked, LampUnit.ticked]⟩, relights_trans stays.relights enterRest_relights, fun k hk => ?_, ?_,
        fun awake => absurd expired awake⟩
      · have same := stays.same k hk
        cases k <;> simp [Component.same] at hk same ⊢ <;> exact same
      · rw [enterRest_play, play]
        cases runs : s.play.clockRunning
        · exact .inl (by rw [Bool.false_and, ← runs])
        · cases w.rest.autoPause
          · exact .inl (by rw [Bool.false_and, Bool.not_false, Bool.and_true, ← runs])
          · exact .inr ⟨rfl, expired, rfl⟩

end Sys2Proof.Machine
end

section
/-!
TICK at the game clock, the duties of every quest (R103, R124), and the two orders of the paths.
-/

namespace Sys2Proof.Machine

open Sys2Proof

variable {s t u : State} {q : QuestId}

/-! ### The duties of one quest (R124) -/

/-- The clock after a tick (R103). -/
def State.nextClock (s : State) : Nat := if s.play.clockRunning = true then min clockMax (s.play.clock + 1) else s.play.clock

/-- The clock ticked, before its duties. -/
def State.clocked (s : State) : State := { s with play := { s.play with clock := s.nextClock } }

/-- The stage of a quest whose hold completes at the tick. -/
def State.completes (s : State) (q : QuestId) : Option Stage :=
  if s.play.clockRunning = true then s.clocked.holdDue q else none

/-- A quest that fails at the tick. -/
def State.fails (s : State) (q : QuestId) : Bool :=
  s.play.clockRunning && (s.completes q).isNone && s.clocked.deadlineDue q

/-- What the tick makes of a quest. -/
def State.dutyOutcome (s : State) (q : QuestId) : QuestOutcome :=
  match s.completes q with
  | some st => s.clocked.advanceOutcome q st true s.epoch
  | none => if s.fails q = true then s.clocked.failOutcome q .time else { record := s.quest q }

/-- A quest's duties depend on its record and the clock. -/
theorem duties_congr (quest : t.quest q = s.quest q) (clock : t.play.clock = s.play.clock) :
    t.holdDue q = s.holdDue q ∧ t.deadlineDue q = s.deadlineDue q ∧
      (∀ st e, t.advanceOutcome q st true e = s.advanceOutcome q st true e) ∧ t.failOutcome q .time = s.failOutcome q .time := by
  unfold State.holdDue State.deadlineDue State.advanceOutcome State.failOutcome State.advanceBody State.pointsOf
  rw [quest, clock]
  exact ⟨rfl, rfl, fun _ _ => rfl, rfl⟩

/-- The duties of one quest at a running tick. -/
theorem dutiesOf_duty (running : s.play.clockRunning = true) (quest : t.quest q = s.quest q)
    (clock : t.play.clock = s.nextClock) (epoch : t.epoch = s.epoch) : t.duty (t.dutiesOf q) q (s.dutyOutcome q) := by
  obtain ⟨holds, ends, advances, fails⟩ := duties_congr (s := s.clocked) (t := t) quest clock
  unfold State.dutiesOf State.dutyOutcome State.fails
  rw [State.completes, if_pos running, running, ← holds, ← ends, ← epoch]
  cases t.holdDue q with
  | some st =>
    dsimp only
    rw [← advances]
    exact duty_advance q st true t.epoch
  | none =>
    simp only [Option.isNone_none, Bool.true_and]
    split
    case isTrue =>
      rw [← fails]
      exact duty_fail q .time
    case isFalse =>
      rw [← quest]
      exact duty_stays q

/-- The tick of the game clock acts on every quest. -/
theorem tickClock_duties : s.clocked.duties s.tickClock (List.finRange 24) s.dutyOutcome := by
  have acts : s.tickClock =
      (List.finRange 24).foldl (fun v q => if s.play.clockRunning = true then v.dutiesOf q else v) s.clocked := by
    unfold State.tickClock State.tickDuties State.clocked State.nextClock
    cases s.play.clockRunning with
    | true => rfl
    | false => simp
  rw [acts]
  refine duties_foldl (r := s.quest) (clock := s.nextClock) (epoch := s.epoch) (fun v q quest clock epoch => ?_) _
    (List.nodup_finRange 24) (fun _ _ => rfl) rfl rfl
  split
  case isTrue running => exact dutiesOf_duty running quest clock epoch
  case isFalse paused =>
    have stays : s.dutyOutcome q = { record := v.quest q } := by
      rw [Bool.not_eq_true] at paused
      simp [State.dutyOutcome, State.completes, State.fails, paused, quest]
    rw [stays]
    exact duty_stays q

/-- A paused clock ticks nothing. -/
theorem tickClock_paused (paused : s.play.clockRunning = false) : s.tickClock = s := by simp [State.tickClock, paused]

/-- The outcomes depend on the quests, the play record and the epoch. -/
theorem dutyOutcome_congr (quests : t.quests = s.quests) (clock : t.play.clock = s.play.clock)
    (runs : t.play.clockRunning = s.play.clockRunning) (epoch : t.epoch = s.epoch) : t.dutyOutcome = s.dutyOutcome := by
  have next : t.nextClock = s.nextClock := by rw [State.nextClock, runs, clock, State.nextClock]
  have quest : ∀ q, t.quest q = s.quest q := fun q => by rw [State.quest, quests, State.quest]
  funext q
  obtain ⟨holds, ends, advances, fails⟩ := duties_congr (s := s.clocked) (t := t.clocked) (quest q) next
  have completes : t.completes q = s.completes q := by rw [State.completes, State.completes, runs, holds]
  unfold State.dutyOutcome State.fails
  rw [completes, runs, ends, epoch, fails, quest q]
  simp only [advances]

/-! ### The two paths -/

/-- A flash takes a tick. -/
def fade (f : Option Flash) : Option Flash := f.bind Flash.step

/-- What a TICK leaves before the end of its event. -/
structure State.tickEvent (s t : State) : Prop where
  timer : t.play.tickTimer = s.play.tickTimer
  phase : t.lamps.phaseOn = (if 1 ≤ s.lamps.blinkCount then !s.lamps.phaseOn else s.lamps.phaseOn) ∧
    t.lamps.blinkCount = if 1 ≤ s.lamps.blinkCount then 0 else s.lamps.blinkCount + 1
  lamps : t.lamps.host = s.lamps.host ∧ t.lamps.settle = s.lamps.settle ∧ t.lamps.limit = s.lamps.limit
  relights : s.relights t
  same : s.sameBut t [.play, .quests, .lamps, .notices, .lanes, .rest]
  paused : s.play.clockRunning = false → t.play = s.play ∧ t.quests = s.quests

/-- What it leaves of the quests, where the part does not rest before the clock has ticked, the quests having had the outcomes `o`. -/
structure State.tickDone (s t : State) (order : TickOrder) (o : QuestId → QuestOutcome) : Prop where
  clock : t.play.clock = s.nextClock
  quest : ∀ k, t.quest k = (o k).record
  hints : ∀ k, Table.read t.lamps.hints k = (o k).hint.getD (Table.read s.lamps.hints k)
  flashes : ∀ k, Table.read t.lamps.flashes k =
    match order with
    | .clockFirst => fade ((o k).flash.or (Table.read s.lamps.flashes k))
    | .lampsFirst => (o k).flash.or (fade (Table.read s.lamps.flashes k))
  scores : ∀ k, Table.read t.play.scores k =
    credited ((List.finRange 24).filterMap fun q => (o q).credit) k (Table.read s.play.scores k)
  sounding : t.lamps.sounding =
    match order with
    | .clockFirst => playTick (((List.finRange 24).filterMap fun q => (o q).cue).foldl offered s.lamps.sounding)
    | .lampsFirst => ((List.finRange 24).filterMap fun q => (o q).cue).foldl offered (playTick s.lamps.sounding)
  wanted : t.quests.passWanted = (s.quests.passWanted || (List.finRange 24).any fun q => (o q).wants)
  pass : t.quests.pass = s.quests.pass.map fun p => p.without fun k => (o k).leaves

/-- What it leaves of a part that does not wait to rest. -/
structure State.tickAwake (s t : State) (o : QuestId → QuestOutcome) : Prop where
  play : t.play = { s.play with clock := s.nextClock, scores := t.play.scores }
  rest : t.rest = s.rest ∨ t.rest = s.reportActivity.rest
  active : ((List.finRange 24).any fun q => (o q).active) = true → t.rest = s.reportActivity.rest
  marks : s.marks t
  filed : ∃ u : NoticeUnit, s.filed { s with notices := u } [] ∧
    State.filed { s.clocked with notices := u } t ((List.finRange 24).filterMap fun q => (o q).told)

/-- A tick of the game clock: what it leaves of the lamps and the lanes. -/
theorem clocked_leaves {l : List QuestId} {o : QuestId → QuestOutcome} (h : s.clocked.duties t l o) :
    t.play.tickTimer = s.play.tickTimer ∧
      t.lamps =
        { s.lamps with
          hints := t.lamps.hints, flashes := t.lamps.flashes, cues := t.lamps.cues, sounder := t.lamps.sounder
          guard := t.lamps.guard } ∧
      s.marks t ∧ s.sameBut t [.play, .quests, .lamps, .notices, .lanes, .rest] := by
  have play := h.event.play
  exact ⟨by rw [play]; rfl, h.event.lamps, marks_trans (t := s.clocked) (marks_same rfl rfl rfl rfl rfl) h.event.marks,
    sameBut_trans (t := s.clocked) (fun k hk => by cases k <;> simp [Component.same, State.clocked] at hk ⊢)
      (sameBut_mono h.event.same (by simp))⟩

/-- The flashes after a tick. -/
theorem ticked_flashes (u : LampUnit) (g : Guard) (k : QuestId) :
    Table.read (u.ticked g).flashes k = fade (Table.read u.flashes k) := by
  rw [LampUnit.ticked]
  dsimp only
  rw [Table.read_each, fade]

/-- The blink after a tick, and what a tick leaves. -/
theorem ticked_frame (u : LampUnit) (g : Guard) :
    (u.ticked g).phaseOn = (if 1 ≤ u.blinkCount then !u.phaseOn else u.phaseOn) ∧
      (u.ticked g).blinkCount = (if 1 ≤ u.blinkCount then 0 else u.blinkCount + 1) ∧ (u.ticked g).hints = u.hints ∧
      (u.ticked g).host = u.host ∧ (u.ticked g).settle = u.settle ∧ (u.ticked g).limit = u.limit := by
  rw [LampUnit.ticked]
  exact ⟨rfl, rfl, rfl, rfl, rfl, rfl⟩

/-- The cues after a tick. -/
theorem ticked_sounding (u : LampUnit) (g : Guard) : (u.ticked g).sounding = playTick u.sounding := Prod.mk.eta

/-- A tick at the lamps: what it leaves of the play record and the quest lamps. -/
theorem State.lampsTick.leaves (h : s.lampsTick t) :
    t.quests = s.quests ∧ t.play = { s.play with clockRunning := t.play.clockRunning } ∧ t.lamps.hints = s.lamps.hints ∧
      (∀ k, Table.read t.lamps.flashes k = fade (Table.read s.lamps.flashes k)) ∧
      t.lamps.sounding = playTick s.lamps.sounding := by
  obtain ⟨g, lamps⟩ := h.lamps
  refine ⟨h.same .quests (by simp), ?_, by rw [lamps, (ticked_frame ..).2.2.1], fun k => by rw [lamps, ticked_flashes], by rw [lamps, ticked_sounding]⟩
  · rcases h.play with play | ⟨-, -, play⟩
    · rw [play]
    · rw [play]

/-- A timer that has not expired does not expire by a report of activity. -/
theorem reportActivity_awake (awake : s.rest.activity ≠ .expired) : s.reportActivity.rest.activity ≠ .expired := by
  unfold State.reportActivity
  split
  · nofun
  · exact awake

section ClockFirst

variable {v : State} {o : QuestId → QuestOutcome}

/-- The clock's path first. -/
theorem clockFirst_event (h : s.clocked.duties v (List.finRange 24) o) (paused : s.play.clockRunning = false → v = s)
    (k : v.lampsTick t) : s.tickEvent t := by
  obtain ⟨timer, lamps, marks, same⟩ := clocked_leaves h
  obtain ⟨quests, play, -⟩ := k.leaves
  obtain ⟨g, ticked⟩ := k.lamps
  have count : v.lamps.blinkCount = s.lamps.blinkCount ∧ v.lamps.phaseOn = s.lamps.phaseOn := by rw [lamps]; exact ⟨rfl, rfl⟩
  obtain ⟨phase, blinks, -, host, settle, limit⟩ := ticked_frame v.lamps g
  rw [← ticked] at phase blinks host settle limit
  refine ⟨by rw [play]; exact timer, ?_, ?_, relights_trans (marks_relights marks) k.relights,
    sameBut_trans same (sameBut_mono k.same (by simp)), fun still => ?_⟩
  · rw [← count.1, ← count.2]
    exact ⟨phase, blinks⟩
  · have kept : v.lamps.host = s.lamps.host ∧ v.lamps.settle = s.lamps.settle ∧ v.lamps.limit = s.lamps.limit := by
      rw [lamps]
      exact ⟨rfl, rfl, rfl⟩
    exact ⟨host.trans kept.1, settle.trans kept.2.1, limit.trans kept.2.2⟩
  · rcases k.play with play | ⟨runs, -⟩
    · rw [play, quests, paused still]
      exact ⟨rfl, rfl⟩
    · rw [paused still, still] at runs
      cases runs

theorem clockFirst_done (h : s.clocked.duties v (List.finRange 24) o) (k : v.lampsTick t) : s.tickDone t .clockFirst o := by
  obtain ⟨quests, play, hints, flashes, sounding⟩ := k.leaves
  have clock : v.play.clock = s.nextClock := h.event.stamp.2
  refine ⟨by rw [play]; exact clock, fun q => ?_, fun q => ?_, fun q => ?_, fun q => ?_, ?_, ?_, ?_⟩
  · rw [State.quest, quests]
    exact (h.quest q).trans (if_pos (List.mem_finRange q))
  · rw [hints]
    exact (h.hints q).trans (if_pos (List.mem_finRange q))
  · rw [flashes]
    exact congrArg fade ((h.flashes q).trans (if_pos (List.mem_finRange q)))
  · rw [play]
    exact h.scores q
  · rw [sounding]
    exact congrArg playTick h.sounding
  · rw [quests]
    exact h.wanted
  · rw [quests, h.pass]
    simp [State.clocked]

theorem clockFirst_awake (h : s.clocked.duties v (List.finRange 24) o) (k : v.lampsTick t)
    (awake : s.rest.activity ≠ .expired) : s.tickAwake t o := by
  obtain ⟨-, -, marks, -⟩ := clocked_leaves h
  have rest : v.rest = s.rest ∨ v.rest = s.reportActivity.rest := h.event.rest.imp_right fun e => e.trans (reportActivity_rest_congr rfl)
  obtain ⟨marks', filed, same, rest'⟩ := k.quiet fun expired => by
    rcases rest with rest | rest
    · exact awake (by rw [← rest, expired])
    · exact reportActivity_awake awake (by rw [← rest, expired])
  have play : t.play = v.play := same .play (by simp)
  refine ⟨?_, ?_, fun acts => ?_, marks_trans marks marks', s.notices, filed_nil rfl, ?_⟩
  · rw [play]
    exact h.event.play
  · rcases rest with rest | rest <;> rcases rest' with rest' | rest'
    · exact .inl (rest'.trans rest)
    · exact .inr (rest'.trans (reportActivity_rest_congr rest))
    · exact .inr (rest'.trans rest)
    · exact .inr (rest'.trans ((reportActivity_rest_congr rest).trans (reportActivity_rest_idem s)))
  · have active : v.rest = s.reportActivity.rest :=
      (h.rest.trans (if_pos acts)).trans (reportActivity_rest_congr rfl)
    rcases rest' with rest' | rest'
    · exact rest'.trans active
    · exact rest'.trans ((reportActivity_rest_congr active).trans (reportActivity_rest_idem s))
  · have told := filed_trans h.event.filed filed h.event.stamp.1 h.event.stamp.2
    rwa [List.append_nil] at told

end ClockFirst

section LampsFirst

variable {v : State}

/-- The lamps' path first. -/
theorem lampsFirst_event (k : s.lampsTick v) (h : v.clocked.duties t (List.finRange 24) v.dutyOutcome)
    (paused : v.play.clockRunning = false → t = v) : s.tickEvent t := by
  obtain ⟨timer, lamps, marks, same⟩ := clocked_leaves h
  obtain ⟨quests, play, -⟩ := k.leaves
  obtain ⟨g, ticked⟩ := k.lamps
  obtain ⟨phase, count, -, host, settle, limit⟩ := ticked_frame s.lamps g
  rw [← ticked] at phase count host settle limit
  refine ⟨by rw [timer, play], ?_, ?_, relights_trans k.relights (marks_relights marks),
    sameBut_trans (sameBut_mono k.same (by simp)) same, fun still => ?_⟩
  · rw [lamps]
    exact ⟨phase, count⟩
  · rw [lamps]
    exact ⟨host, settle, limit⟩
  · rcases k.play with play | ⟨runs, -⟩
    · rw [paused (by rw [play, still]), play, quests]
      exact ⟨rfl, rfl⟩
    · rw [still] at runs
      cases runs

/-- The outcomes are those of the state before, where the lamps' path does not pause the clock. -/
theorem lampsFirst_outcome (k : s.lampsTick v) (play : v.play = s.play) :
    v.dutyOutcome = s.dutyOutcome ∧ v.nextClock = s.nextClock := by
  have epoch : v.epoch = s.epoch := k.same .epoch (by simp)
  refine ⟨dutyOutcome_congr k.leaves.1 (by rw [play]) (by rw [play]) epoch, ?_⟩
  rw [State.nextClock, play, State.nextClock]

theorem lampsFirst_done (k : s.lampsTick v) (h : v.clocked.duties t (List.finRange 24) v.dutyOutcome)
    (play : v.play = s.play) : s.tickDone t .lampsFirst s.dutyOutcome := by
  obtain ⟨outcome, next⟩ := lampsFirst_outcome k play
  obtain ⟨quests, -, hints, flashes, sounding⟩ := k.leaves
  rw [outcome] at h
  have clock : t.play.clock = v.nextClock := h.event.stamp.2
  refine ⟨clock.trans next, fun q => ?_, fun q => ?_, fun q => ?_, fun q => ?_, ?_, ?_, ?_⟩
  · exact (h.quest q).trans (if_pos (List.mem_finRange q))
  · rw [← hints]
    exact (h.hints q).trans (if_pos (List.mem_finRange q))
  · dsimp only
    rw [← flashes]
    exact (h.flashes q).trans (if_pos (List.mem_finRange q))
  · rw [← play]
    exact h.scores q
  · dsimp only
    rw [← sounding]
    exact h.sounding
  · rw [← quests]
    exact h.wanted
  · rw [h.pass, ← quests]
    simp [State.clocked]

theorem lampsFirst_awake (k : s.lampsTick v) (h : v.clocked.duties t (List.finRange 24) v.dutyOutcome)
    (awake : s.rest.activity ≠ .expired) : s.tickAwake t s.dutyOutcome := by
  obtain ⟨marks, filed, same, rest⟩ := k.quiet awake
  have play : v.play = s.play := same .play (by simp)
  obtain ⟨outcome, next⟩ := lampsFirst_outcome k play
  rw [outcome] at h
  obtain ⟨-, -, marks', -⟩ := clocked_leaves h
  have rest' : t.rest = v.rest ∨ t.rest = v.reportActivity.rest :=
    h.event.rest.imp_right fun e => e.trans (reportActivity_rest_congr rfl)
  refine ⟨?_, ?_, fun acts => ?_, marks_trans marks marks', v.notices, ?_, ?_⟩
  · have made := h.event.play
    rw [State.clocked, next, play] at made
    exact made
  · rcases rest with rest | rest <;> rcases rest' with rest' | rest'
    · exact .inl (rest'.trans rest)
    · exact .inr (rest'.trans (reportActivity_rest_congr rest))
    · exact .inr (rest'.trans rest)
    · exact .inr (rest'.trans ((reportActivity_rest_congr rest).trans (reportActivity_rest_idem s)))
  · have active : t.rest = v.reportActivity.rest := (h.rest.trans (if_pos acts)).trans (reportActivity_rest_congr rfl)
    rcases rest with rest | rest
    · exact active.trans (reportActivity_rest_congr rest)
    · exact active.trans ((reportActivity_rest_congr rest).trans (reportActivity_rest_idem s))
  · obtain ⟨bs, made, told⟩ := filed
    exact ⟨bs, made, told⟩
  · obtain ⟨bs, made, told⟩ := h.event.filed
    refine ⟨bs, made.trans (foldl_notify_congr bs rfl ?_ next), told⟩
    exact same .epoch (by simp)

end LampsFirst

end Sys2Proof.Machine
end

section
/-!
BLINK_PHASE_CHANGE, FLASH_EXPIRY and TICK settled from what the paths of a tick leave (R100, R103, R124, R133, R136, R143).
-/

namespace Sys2Proof.Machine

open Sys2Proof

variable {s t u : State} {q : QuestId}

/-- What an outcome gives to counters, cues and passes is that of the quest's advance or failure. -/
theorem dutyOutcome_gives (q : QuestId) :
    (s.dutyOutcome q).credit = ((s.completes q).map fun st => ((s.quest q).owner, s.clocked.pointsOf q st)) ∧
      (s.dutyOutcome q).cue = (s.completes q).bind (·.cue) ∧ (s.dutyOutcome q).wants = (s.completes q).isSome ∧
      (s.dutyOutcome q).active = ((s.completes q).isSome || s.fails q) ∧
      (s.dutyOutcome q).leaves = ((s.completes q).isSome || s.fails q) ∧
      (s.dutyOutcome q).flash = (s.completes q).bind fun st => st.hint.map fun g => { region := g, left := 8 } := by
  unfold State.dutyOutcome
  cases s.completes q with
  | some st => exact ⟨rfl, rfl, rfl, rfl, rfl, rfl⟩
  | none => cases s.fails q <;> exact ⟨rfl, rfl, rfl, rfl, rfl, rfl⟩

/-- The outcome of a quest whose hold completes. -/
theorem dutyOutcome_completes {st : Stage} (h : s.completes q = some st) :
    s.dutyOutcome q = s.clocked.advanceOutcome q st true s.epoch := by
  rw [State.dutyOutcome, h]

/-- The outcome of a quest that fails. -/
theorem dutyOutcome_fails (h : s.fails q = true) : s.dutyOutcome q = s.clocked.failOutcome q .time := by
  have undone : s.completes q = none := by
    cases completes : s.completes q with
    | none => rfl
    | some st => simp [State.fails, completes] at h
  rw [State.dutyOutcome, undone]
  exact if_pos h

/-- The outcome of any other quest. -/
theorem dutyOutcome_stays (undone : s.completes q = none) (h : s.fails q = false) :
    s.dutyOutcome q = { record := s.quest q } := by
  rw [State.dutyOutcome, undone]
  exact if_neg (by simp [h])

/-- A TICK and what it leaves before the end of its event. -/
theorem exec_tick (order : TickOrder) (running : s.chip = .running) :
    ∃ w, exec (.tick order) s = .next w.finish ∧ s.restartTick.tickEvent w ∧
      (s.play.clockRunning = false ∨ s.rest.activity ≠ .expired ∨ order = .clockFirst →
        s.restartTick.tickDone w order s.restartTick.dutyOutcome) ∧
      (s.rest.activity ≠ .expired → s.restartTick.tickAwake w s.restartTick.dutyOutcome) := by
  have step := exec_live (fun s => match order with
    | .clockFirst => s.restartTick.tickClock.tickLamps.finish
    | .lampsFirst => s.restartTick.tickLamps.tickClock.finish) (i := .tick order) rfl running
  have clock := tickClock_duties (s := s.restartTick)
  have lamps := tickLamps_lampsTick (s := s.restartTick)
  cases order with
  | clockFirst =>
    have after := tickLamps_lampsTick (s := s.restartTick.tickClock)
    exact ⟨_, step, clockFirst_event clock tickClock_paused after, fun _ => clockFirst_done clock after,
      fun awake => clockFirst_awake clock after awake⟩
  | lampsFirst =>
    have after := tickClock_duties (s := s.restartTick.tickLamps)
    refine ⟨_, step, lampsFirst_event lamps after tickClock_paused, fun due => lampsFirst_done lamps after ?_,
      fun awake => lampsFirst_awake lamps after awake⟩
    rcases lamps.play with play | ⟨runs, expired, -⟩
    · exact play
    · rcases due with paused | awake | other
      · rw [show s.restartTick.play.clockRunning = s.play.clockRunning from rfl, paused] at runs
        cases runs
      · exact absurd expired awake
      · cases other

/-- The lamps from the parts that a tick leaves alone. -/
theorem lamps_of_fields {l m : LampUnit} (h : l.host = m.host ∧ l.settle = m.settle ∧ l.limit = m.limit) :
    l =
      { m with
        hints := l.hints, flashes := l.flashes, phaseOn := l.phaseOn, blinkCount := l.blinkCount, guard := l.guard
        cues := l.cues, sounder := l.sounder } := by
  obtain ⟨host, settle, limit⟩ := h
  rw [← host, ← settle, ← limit]

/-- One event at the lamps and the end of its event. -/
theorem lampEvent_finish {w : State} (f : LampUnit → LampUnit) (guard : (f s.lamps).guard = s.lamps.guard)
    (is : w = s.lampEvent fun s => { s with lamps := f s.lamps }) :
    w.finish.lamps = { f s.lamps with guard := w.finish.lamps.guard } ∧
      (w.finish.lamps.guard = s.lamps.guard → w.finish.notices = s.notices) ∧ s.lanesSteady w.finish ∧
      w.finish.quests.records = s.quests.records ∧ s.drivesFollow w.finish ∧ s.drivesAlone w.finish ∧
      s.sameBut w.finish [.lamps, .notices, .lanes, .quests] := by
  have step : s.lampStep (s.lampEvent fun s => { s with lamps := f s.lamps }) := lampEvent_lampStep (fun _ => rfl) guard rfl
  obtain ⟨g, lamps⟩ := lampEvent_lamps s fun s => { s with lamps := f s.lamps }
  have quests : (s.lampEvent fun s => { s with lamps := f s.lamps }).quests = s.quests := by simp
  have same : s.sameBut (s.lampEvent fun s => { s with lamps := f s.lamps }) [.lamps, .notices, .lanes, .quests] :=
    fun k hk => by cases k <;> simp [Component.same] at hk ⊢
  rw [← is] at step lamps quests same
  obtain ⟨follow, alone, steady⟩ := finish_lampStep step
  have finished : w.finish.lamps = w.lamps ∧ w.finish.notices = w.notices := by simp
  rw [finished.1, finished.2, finish_records, quests]
  exact ⟨by rw [lamps], step.2, steady, rfl, follow, alone, finish_sameBut same (by simp) (by simp)⟩

end Sys2Proof.Machine

open Sys2Proof Sys2Proof.Machine

/-- Settles O50: one event at the lamps, and the tick's two paths. -/
theorem ticksFlashesAndBlink : Obligations.TicksFlashesAndBlink := by
  refine ⟨fun q f s running => ?_, fun order s running => ?_⟩
  · intro frame
    refine ⟨fun count => ?_, fun flash last => ?_⟩
    · obtain ⟨lamps, done⟩ := lampEvent_finish (s := s) (fun l => { l with phaseOn := !l.phaseOn, blinkCount := 0 }) rfl
        (w := s.toggleBlink) rfl
      refine ⟨s.toggleBlink.finish, ?_, lamps, done⟩
      rw [exec_live (fun s => if 2 ≤ s.lamps.blinkCount + 1 then s.toggleBlink.finish else s) rfl running, if_pos (by omega)]
    · obtain ⟨lamps, done⟩ := lampEvent_finish (s := s) (fun l => { l with flashes := Table.put l.flashes q none }) rfl
        (w := s.removeFlash q) rfl
      refine ⟨(s.removeFlash q).finish, ?_, lamps, done⟩
      have due : s.flashDue q = true := by simp [State.flashDue, flash, last]
      rw [exec_live (fun s => if s.flashDue q then (s.removeFlash q).finish else s) rfl running, if_pos due]
  · intro clock ticks offer play fade' completes fails points advances told acts
    obtain ⟨w, step, event, done, awake⟩ := exec_tick order running
    have next : s.restartTick.nextClock = clock := rfl
    have completing : ∀ q, completes q = s.restartTick.completes q := fun q => by
      have running : s.restartTick.play.clockRunning = s.play.clockRunning := rfl
      have quest : s.restartTick.clocked.quest q = s.quest q := rfl
      have now : s.restartTick.clocked.play.clock = clock := rfl
      simp only [completes, State.completes, State.holdDue, Quest.current, running, quest, now]
      generalize clock = now
      cases s.play.clockRunning with
      | false => rfl
      | true =>
        cases (s.quest q).state <;> cases (s.quest q).stages[(s.quest q).progress.stage]? <;>
          cases (s.quest q).progress.holdSince <;> rfl
    have failing : ∀ q, fails q = s.restartTick.fails q := fun q => by
      have quest : s.restartTick.clocked.quest q = s.quest q := rfl
      have now : s.restartTick.clocked.play.clock = clock := rfl
      have runs : s.restartTick.play.clockRunning = s.play.clockRunning := rfl
      simp only [fails, completing, State.fails, State.deadlineDue, quest, now, runs]
      cases (s.quest q).state <;> cases (s.quest q).progress.deadline <;> simp
    have advs : advances = advancesOf (List.finRange 24) s.restartTick.completes :=
      List.filterMap_congr fun q _ => by rw [completing]
    have gives := fun q => dutyOutcome_gives (s := s.restartTick) q
    have wants : ((List.finRange 24).any fun q => (s.restartTick.dutyOutcome q).wants) = !advances.isEmpty := by
      rw [advs, ← advancesOf_any]
      exact congrArg _ (funext fun q => (gives q).2.2.1)
    have lit : w.finish.lamps = w.lamps := by simp
    have played : w.finish.play = w.play := by simp
    have read : ∀ k, w.finish.quest k = w.quest k := fun k => by rw [State.quest, finish_records]; rfl
    have follow : s.drivesFollow w.finish := finish_relights (s := s) event.relights
    have same : s.sameBut w.finish [.play, .quests, .lamps, .notices, .lanes, .rest] :=
      finish_sameBut (sameBut_trans (t := s.restartTick) (fun k hk => by cases k <;> simp [Component.same, State.restartTick] at hk ⊢)
        event.same) (by simp) (by simp)
    refine ⟨w.finish, step, ?_, ?_, ?_, fun still => ?_, fun due => ?_, fun live => ?_, ?_, same .epoch (by simp),
      same .cells (by simp), same .plan (by simp), follow, same⟩
    · rw [played]
      exact event.timer
    · rw [lit]
      exact event.phase.1
    · rw [lit]
      exact event.phase.2
    · obtain ⟨play, quests⟩ := event.paused still
      rw [played, finish_records, play, quests]
      exact ⟨rfl, rfl⟩
    · obtain ⟨ticked, quest, hints, flashes, scores, sounding, wanted, pass⟩ := done due
      refine ⟨by rw [played]; exact ticked, fun q => ?_, fun k => ?_, ?_, fun free => ?_, fun p flight => ?_⟩
      · intro r at_ posted
        refine ⟨fun st ends => ⟨fun next more => ?_, fun last => ?_, ?_⟩, fun out => ⟨?_, ?_⟩, fun undone stays => ⟨?_, ?_⟩, ?_⟩
        · rw [read, quest, dutyOutcome_completes (completing q ▸ ends)]
          exact advanced_next _ _ more
        · rw [read, quest, dutyOutcome_completes (completing q ▸ ends)]
          exact advanced_last _ _ last
        · rw [lit, hints, dutyOutcome_completes (completing q ▸ ends)]
          rfl
        · rw [read, quest, dutyOutcome_fails (failing q ▸ out)]
          rfl
        · rw [lit, hints, dutyOutcome_fails (failing q ▸ out)]
          rfl
        · rw [read, quest, dutyOutcome_stays (completing q ▸ undone) (failing q ▸ stays)]
          rfl
        · rw [lit, hints, dutyOutcome_stays (completing q ▸ undone) (failing q ▸ stays)]
          rfl
        · rw [lit, flashes, (gives q).2.2.2.2.2, ← completing] <;> cases order <;> rfl
      · rw [played, scores, advs]
        exact (congrArg (credited · k _) (List.filterMap_congr fun q _ => (gives q).1)).trans
          (advancesOf_credits _ _ (fun q => (s.quest q).owner) s.restartTick.clocked.pointsOf k _)
      · have given : (List.finRange 24).filterMap (fun q => (s.restartTick.dutyOutcome q).cue) =
            advances.filterMap fun a => a.2.cue := by
          rw [advs, ← advancesOf_cues]
          exact List.filterMap_congr fun q _ => (gives q).2.1
        have offers : offered = offer := funext fun x => funext fun c => by simp only [offered, offer, ticks, cueTicks_eq]
        have plays : playTick = play := funext fun x => by
          simp only [playTick, play, funext cueTicks_eq, ticks] <;> cases x.2 <;> rfl
        rw [given, offers, plays] at sounding
        rw [lit]
        cases order <;> exact sounding
      · have idle : w.quests.pass = none := by rw [pass, show s.restartTick.quests.pass = none from free]; rfl
        obtain ⟨unwanted, starts⟩ := finish_pass idle
        refine ⟨unwanted, ?_⟩
        rw [starts, wanted, wants, show s.restartTick.quests.passWanted = s.quests.passWanted from rfl]
        cases s.quests.passWanted <;> cases advances <;> simp
      · have goes : w.quests.pass = some (p.without fun k => (s.restartTick.dutyOutcome k).leaves) := by
          rw [pass, show s.restartTick.quests.pass = some p from flight]
          rfl
        rw [finish_quests_inFlight (by rw [goes]; rfl), wanted, wants, goes]
        refine ⟨rfl, congrArg some (congrArg (fun l => { p with evaluated := l }) (List.filter_congr fun e _ => ?_))⟩
        show (!(s.restartTick.dutyOutcome e.1).leaves) = _
        rw [(gives e.1).2.2.2.2.1, completing, failing]
        cases s.restartTick.completes e.1 <;> rfl
    · obtain ⟨goes, rest, active, marks, u, guarded, filed⟩ := awake live
      have heard : s.restartTick.reportActivity.rest = s.reportActivity.rest := reportActivity_rest_congr rfl
      have stays : w.finish.rest = w.rest := by simp
      rw [heard] at rest active
      refine ⟨by rw [played]; exact goes, by rw [stays]; exact rest, fun acted => stays.trans (active ?_),
        (finish_marks (s := s) marks).2, u, ?_, ?_⟩
      · rw [List.any_eq_true]
        rcases acted with some_advance | ⟨q, out⟩
        · obtain ⟨⟨q, st⟩, mem⟩ := List.exists_mem_of_ne_nil _ some_advance
          rw [advs] at mem
          refine ⟨q, List.mem_finRange q, ?_⟩
          rw [(gives q).2.2.2.1, (mem_advancesOf.1 mem).2]
          rfl
        · refine ⟨q, List.mem_finRange q, ?_⟩
          rw [(gives q).2.2.2.1, ← failing, out, Bool.or_true]
      · obtain ⟨bs, made, quiet⟩ := guarded
        exact ⟨bs, made.trans (foldl_notify_congr bs rfl rfl rfl), quiet⟩
      · obtain ⟨bs, made, tells⟩ := filed
        refine ⟨bs, ((by simp : w.finish.notices = w.notices).trans made).trans (foldl_notify_congr bs rfl rfl rfl),
          tells.trans (List.filterMap_congr fun q _ => ?_)⟩
        rw [State.dutyOutcome, ← completing, ← failing]
        cases completes q with
        | some st => rfl
        | none => cases fails q <;> rfl
    · rw [lit]
      exact lamps_of_fields event.lamps

end

section
/-!
The slot arbiter, an equation for each of its grants, and the cell that a scan asks for (R27 to R31).
-/

namespace Sys2Proof.Machine

open Sys2Proof

variable {s : State} {n : Lane} {i : Slot}

/-! ### The cell a scan asks for (R30, R31) -/

/-- The first of a row of numbers that passes. -/
theorem find_finRange_iff {m : Nat} {p : Fin m → Bool} {i : Fin m} :
    (List.finRange m).find? p = some i ↔ p i = true ∧ ∀ j, j < i → p j = false := by
  rw [← Fin.find?_eq_find?_finRange, Fin.find?_eq_some_iff]

/-- A sweep asks for the first readable cell from where it stands. -/
theorem sweepFrom_iff {k : Nat} :
    s.sweepFrom n k = some i ↔
      (k ≤ i.val ∧ s.readable n i = true) ∧ ∀ j : Slot, k ≤ j.val → j < i → s.readable n j = false := by
  rw [State.sweepFrom, find_finRange_iff]
  simp only [Bool.and_eq_true, decide_eq_true_eq, Bool.and_eq_false_iff, decide_eq_false_iff_not]
  exact and_congr_right fun _ =>
    ⟨fun before j high low => (before j low).resolve_left (· high), fun before j low => Classical.or_iff_not_imp_left.2 fun high =>
      before j (Classical.not_not.1 high) low⟩

/-- A sweep with no cell left asks for none. -/
theorem sweepFrom_none {k : Nat} (h : ∀ j : Slot, k ≤ j.val → s.readable n j = false) : s.sweepFrom n k = none := by
  refine List.find?_eq_none.2 fun j _ => ?_
  simp only [Bool.and_eq_true, decide_eq_true_eq, not_and, Bool.not_eq_true]
  exact h j

/-- A NORMAL scan asks for the first readable cell from the pointer on, wrapping. -/
theorem scanFrom_eq_some {pointer k : Slot} (is : i = pointer + k) (readable : s.readable n i = true)
    (before : ∀ j, j < k → s.readable n (pointer + j) = false) : s.scanFrom n pointer = some i := by
  rw [State.scanFrom, List.find?_map]
  have first : (List.finRange 12).find? ((fun j => s.readable n j) ∘ fun k => pointer + k) = some k :=
    find_finRange_iff.2 ⟨by rwa [Function.comp_apply, ← is], before⟩
  rw [first, is]
  rfl

/-- The cell a waiting NORMAL scan asks for. -/
theorem scanTarget_normal {k : Slot} (normal : (s.lane n).mode = .normal) (waits : (s.lane n).waiting = true)
    (is : i = (s.lane n).pointer + k) (readable : s.readable n i = true)
    (before : ∀ j, j < k → s.readable n ((s.lane n).pointer + j) = false) : s.scanTarget n = some i := by
  simp [State.scanTarget, waits, normal, scanFrom_eq_some is readable before]

/-- The cell a waiting sweep asks for. -/
theorem scanTarget_sweep {k : Slot} (sweep : (s.lane n).mode = .sweep) (waits : (s.lane n).waiting = true)
    (stands : (s.lane n).sweep = some k) (low : k ≤ i) (readable : s.readable n i = true)
    (before : ∀ j, k ≤ j → j < i → s.readable n j = false) : s.scanTarget n = some i := by
  simp [State.scanTarget, waits, sweep, stands, sweepFrom_iff.2 ⟨⟨low, readable⟩, before⟩]

/-- A scan that does not wait asks for none. -/
theorem scanTarget_quiet (quiet : (s.lane n).waiting = false) : s.scanTarget n = none := by
  simp [State.scanTarget, quiet]

/-! ### The grants (R27, R28, R29) -/

/-- The lane may be granted a slot. -/
theorem grantable_iff {u : LaneUnit} : u.grantable = true ↔ u.state = .running ∧ u.slot = none ∧ u.parkWaiting = false := by
  simp [LaneUnit.grantable, and_assoc]

theorem barred_iff {u : LaneUnit} : u.barred = true ↔ 2 ≤ u.fairness ∧ u.waiting = true := by simp [LaneUnit.barred]

/-- A cell wants its CONFIRM. -/
theorem confirmable_iff :
    s.confirmable n i = true ↔
      (s.cell ⟨n, i⟩).state = .arriving ∨ (s.cell ⟨n, i⟩).state = .shifting ∨ (s.cell ⟨n, i⟩).state = .lifting := by
  unfold State.confirmable
  cases (s.cell ⟨n, i⟩).state <;> simp

/-- A pending check is granted first. -/
theorem grant_checks (open_ : (s.lane n).grantable = true) (pending : (s.lane n).checkPending = true) :
    s.grant n = s.setLane n { s.lane n with slot := some .check } := by
  simp [State.grant, open_, pending]

/-- A lane that may be granted a slot, with no check pending and CONFIRM barred. -/
theorem grant_barred (open_ : (s.lane n).grantable = true) (unchecked : (s.lane n).checkPending = false)
    (barred : (s.lane n).barred = true) : s.grant n = s.grantLower n := by
  simp [State.grant, open_, unchecked, barred]

/-- The same with CONFIRM not barred. -/
theorem grant_unbarred (open_ : (s.lane n).grantable = true) (unchecked : (s.lane n).checkPending = false)
    (free : ¬(s.lane n).barred = true) : s.grant n = s.grantConfirm n := by
  simp [State.grant, open_, unchecked, free]

/-- The first listed cell that still wants its CONFIRM is granted it. -/
theorem grantConfirm_wants {rest : List Slot} (listed : (s.lane n).confirms = i :: rest) (wants : s.confirmable n i = true) :
    s.grantConfirm n =
      s.setLane n
        { s.lane n with
          confirms := rest, slot := some (.confirm i)
          fairness := if (s.lane n).waiting then (s.lane n).fairness + 1 else 0 } := by
  simp [State.grantConfirm, listed, wants]

/-- A listed cell that wants none any more is dropped. -/
theorem grantConfirm_drops {rest : List Slot} (listed : (s.lane n).confirms = i :: rest) (past : ¬s.confirmable n i = true) :
    s.grantConfirm n = (s.setLane n { s.lane n with confirms := rest }).grantConfirm n := by
  have same : (s.setLane n { s.lane n with confirms := rest }).confirmable n = s.confirmable n := rfl
  unfold State.grantConfirm
  dsimp only
  rw [same, setLane_lane_same, listed, List.dropWhile_cons_of_pos (by simpa using past)]
  simp only [setLane_setLane]

/-- With none listed, the grant is the one below CONFIRM. -/
theorem grantConfirm_none (listed : (s.lane n).confirms = []) : s.grantConfirm n = s.grantLower n := by
  have same : s.setLane n { s.lane n with confirms := [] } = s := by
    rw [← listed]
    exact setLane_self s n
  unfold State.grantConfirm
  dsimp only
  rw [listed, List.dropWhile_nil]
  exact congrArg (State.grantLower · n) same

/-- LAMP comes before SCAN while CONFIRM is not barred. -/
theorem grantLower_lamp (stale : (s.lane n).stale = true) (free : ¬(s.lane n).barred = true) :
    s.grantLower n = s.setLane n { s.lane n with slot := some (.lamp (s.laneDrive n)), stale := false } := by
  unfold State.grantLower
  rw [Bool.not_eq_true] at free
  dsimp only
  rw [stale, free]
  split <;> rfl

/-- SCAN, where no LAMP comes before it. -/
theorem grantLower_sense (asks : s.scanTarget n = some i) (first : (s.lane n).stale = false ∨ (s.lane n).barred = true) :
    s.grantLower n = s.setLane n (s.afterSense n i) := by
  unfold State.grantLower
  dsimp only
  rw [asks]
  exact if_neg (by rcases first with e | e <;> simp [e])

/-- Nothing asked for, nothing granted. -/
theorem grantLower_none (asks : s.scanTarget n = none) (unmarked : (s.lane n).stale = false) : s.grantLower n = s := by
  simp [State.grantLower, asks, unmarked]

/-- After the SENSE grant of a sweep the next readable cell, if there is one. -/
theorem afterSense_sweep {next : Option Slot} (sweep : (s.lane n).mode = .sweep) (is : s.sweepFrom n (i.val + 1) = next) :
    s.afterSense n i = { s.lane n with slot := some (.sense i), sweep := next, waiting := next.isSome, fairness := 0 } := by
  unfold State.afterSense
  dsimp only
  rw [sweep, is]

/-- After the SENSE grant of a NORMAL scan. -/
theorem afterSense_normal (normal : (s.lane n).mode = .normal) :
    s.afterSense n i =
      { s.lane n with slot := some (.sense i), pointer := i + 1, waiting := false, pace := some 800, fairness := 0 } := by
  unfold State.afterSense
  dsimp only
  rw [normal]

end Sys2Proof.Machine

open Sys2Proof Sys2Proof.Machine

/-- Settles O25: the arbiter's cases, one equation each. -/
theorem arbiterGrantsInOrder : Obligations.ArbiterGrantsInOrder := by
  intro n i rest s u wants barred lampSlot senseSlot idle scans sweeps sweepSlot
  have opens : idle → (s.lane n).grantable = true := grantable_iff.2
  have bars : barred ↔ (s.lane n).barred = true := barred_iff.symm
  have senses : scans → (s.lane n).stale = false ∨ (s.lane n).barred = true → s.grantLower n = s.setLane n (senseSlot u) := by
    rintro ⟨normal, waits, readable, k, is, before⟩ first
    rw [grantLower_sense (scanTarget_normal normal waits is readable before) first, afterSense_normal normal]
  have swept : sweeps → (s.lane n).stale = false ∨ (s.lane n).barred = true →
      (∀ m, i < m → s.readable n m = true → (∀ j, i < j → j < m → s.readable n j = false) →
        s.grantLower n = s.setLane n (sweepSlot (some m))) ∧
      ((∀ j, i < j → s.readable n j = false) → s.grantLower n = s.setLane n (sweepSlot none)) := by
    rintro ⟨sweep, waits, readable, k, stands, low, before⟩ first
    rw [grantLower_sense (scanTarget_sweep sweep waits stands low readable before) first]
    refine ⟨fun m high reads between => ?_, fun last => ?_⟩
    · rw [afterSense_sweep sweep (sweepFrom_iff.2 ⟨⟨high, reads⟩, between⟩)]
    · rw [afterSense_sweep sweep (sweepFrom_none last)]
  refine ⟨fun busy => grant_idle s ?_, fun open_ check => ?_, fun open_ unchecked => ⟨fun free listed wanted => ?_,
    fun free listed past => ?_, fun free none_listed stale => ?_, fun free none_listed unmarked scan => ?_, fun bar scan => ?_,
    fun free none_listed unmarked sweep => ?_, fun bar sweep => ?_, fun none_listed unmarked quiet => ?_⟩⟩
  · exact Bool.eq_false_iff.2 fun open_ => busy (grantable_iff.1 open_)
  · exact grant_checks (opens open_) check
  · rw [grant_unbarred (opens open_) unchecked (mt bars.2 free), grantConfirm_wants listed (confirmable_iff.2 wanted)]
  · rw [grant_unbarred (opens open_) unchecked (mt bars.2 free), grantConfirm_drops listed (mt confirmable_iff.1 past),
      grant_unbarred]
    · rw [setLane_lane_same]
      exact opens open_
    · rw [setLane_lane_same]
      exact unchecked
    · rw [setLane_lane_same]
      exact mt bars.2 free
  · rw [grant_unbarred (opens open_) unchecked (mt bars.2 free), grantConfirm_none none_listed,
      grantLower_lamp stale (mt bars.2 free)]
  · rw [grant_unbarred (opens open_) unchecked (mt bars.2 free), grantConfirm_none none_listed, senses scan (.inl unmarked)]
  · rw [grant_barred (opens open_) unchecked (bars.1 bar), senses scan (.inr (bars.1 bar))]
  · rw [grant_unbarred (opens open_) unchecked (mt bars.2 free), grantConfirm_none none_listed]
    exact swept sweep (.inl unmarked)
  · rw [grant_barred (opens open_) unchecked (bars.1 bar)]
    exact swept sweep (.inr (bars.1 bar))
  · have free : ¬(s.lane n).barred = true := fun bar => Bool.false_ne_true (quiet.symm.trans (barred_iff.1 bar).2)
    rw [grant_unbarred (opens open_) unchecked free, grantConfirm_none none_listed,
      grantLower_none (scanTarget_quiet quiet) unmarked]

end

section
/-!
Reads: what the end of a read slot comes to where the guard gate discards it, and where the tracker steps the cell (R22, R26, R38 to R40).
-/

namespace Sys2Proof.Machine

open Sys2Proof

variable {s u w : State} {n : Lane} {c : CellId} {k : SlotKind} {raw : RawResult}

/-! ### A cell written -/

/-- A cell written twice holds the later record. -/
@[simp] theorem setCell_setCell (s : State) (c : CellId) (q r : CellRec) : (s.setCell c q).setCell c r = s.setCell c r := by
  have h : ((s.setCell c q).setCell c r).cells = (s.setCell c r).cells := by
    refine cells_ext fun d => ?_
    rw [setCell_cell, setCell_cell, setCell_cell]
    split <;> rfl
  exact congrArg (fun l => { s with cells := l }) h

/-- A cell written as it stands changes nothing. -/
@[simp] theorem setCell_self (s : State) (c : CellId) : s.setCell c (s.cell c) = s := by
  have h : (s.setCell c (s.cell c)).cells = s.cells := by
    refine cells_ext fun d => ?_
    rw [setCell_cell]
    split
    case isTrue e => rw [e]
    case isFalse => rfl
  exact congrArg (fun l => { s with cells := l }) h

/-! ### The end of a read slot -/

/-- A read slot has ended and its outcome is traced, the cell not yet stepped. -/
def State.readEnded (s : State) (c : CellId) (k : SlotKind) (raw : RawResult) : State :=
  (s.setLane c.lane { s.lane c.lane with slot := none }).traceOutcome c k raw

/-- Only the slot and the trace have changed. -/
@[simp] theorem readEnded_frame (s : State) (c : CellId) (k : SlotKind) (raw : RawResult) :
    (s.readEnded c k raw).chip = s.chip ∧ (s.readEnded c k raw).rest = s.rest ∧ (s.readEnded c k raw).plan = s.plan ∧
      (s.readEnded c k raw).cells = s.cells ∧ (s.readEnded c k raw).epoch = s.epoch ∧
      (s.readEnded c k raw).sensing = s.sensing ∧ (s.readEnded c k raw).firstFault = s.firstFault ∧
      (s.readEnded c k raw).roster = s.roster ∧ (s.readEnded c k raw).patterns = s.patterns ∧
      (s.readEnded c k raw).quests = s.quests ∧ (s.readEnded c k raw).play = s.play ∧
      (s.readEnded c k raw).lamps = s.lamps ∧ (s.readEnded c k raw).notices = s.notices ∧
      (s.readEnded c k raw).link = s.link ∧ (s.readEnded c k raw).pending = s.pending ∧
      (∀ x, (s.readEnded c k raw).cell x = s.cell x) := by
  simp [State.readEnded]

theorem readEnded_cell (s : State) (c : CellId) (k : SlotKind) (raw : RawResult) (d : CellId) :
    (s.readEnded c k raw).cell d = s.cell d := by simp

theorem readEnded_lane (s : State) (c : CellId) (k : SlotKind) (raw : RawResult) (m : Lane) :
    (s.readEnded c k raw).lane m = if m = c.lane then { s.lane c.lane with slot := none } else s.lane m := by
  simp [State.readEnded, setLane_lane]

/-- The trace has the entry of R63. -/
theorem readEnded_traces (s : State) (c : CellId) (k : SlotKind) (raw : RawResult) :
    s.traces (s.readEnded c k raw) c k raw :=
  traceOutcome_traces (s.setLane c.lane { s.lane c.lane with slot := none }) c k raw

/-- Whether an outcome is traced is read off the watch alone. -/
theorem traces_congr {t v : State} (watch : v.watch = t.watch) (h : s.traces t c k raw) : s.traces v c k raw := by
  unfold State.traces at h ⊢
  rwa [watch]

/-- The cell stepped by an outcome, its peak first (R38 steps 3 and 4). -/
def State.stepped (s : State) (c : CellId) (k : SlotKind) (o : Outcome) (amplitude : Nat) : State :=
  (s.updatePeak c o amplitude).stepCell c k o amplitude

/-- An outcome taken is traced, and where the gate is open it steps the cell. -/
theorem takeOutcome_eq (s : State) (c : CellId) (k : SlotKind) (raw : RawResult) :
    (s.setLane c.lane { s.lane c.lane with slot := none }).takeOutcome c k raw =
      if s.gateShut then s.readEnded c k raw
      else (s.readEnded c k raw).stepped c k (classify raw (s.threshold c)) raw.amplitude := rfl

/-- What a READ_SLOT_END comes to. -/
theorem exec_readSlotEnd {marks : List Mark} (running : s.chip = .running) (flight : s.readInFlight n = some (c, k)) :
    exec (.readSlotEnd n marks) s = .next (s.endRead c k (hear false marks)).finish := by
  rw [exec_live (fun s =>
    match s.readInFlight n with
    | some (c, k) => (s.endRead c k (hear false marks)).finish
    | none => s) rfl running]
  simp only [flight]

/-- A report of activity leaves the part state. -/
theorem reportActivity_part (s : State) : s.reportActivity.rest.part = s.rest.part := by
  unfold State.reportActivity
  split <;> rfl

/-- The tracker's effects keep the part state. -/
theorem part_trackerKept (p : PartState) : TrackerKept fun s => s.rest.part = p where
  cells _ _ h := h
  commit s b h := by rw [commit_rest]; exact (reportActivity_part s).trans h
  notify _ _ h := by simpa using h
  move s h := by simpa using h
  fault _ _ h := h
  watch _ _ h := h
  confirm _ _ h := by simpa using h
  lamp s c r h := by simpa using h
  dead _ _ h := by simpa using h
  wants _ h := h

/-- An outcome taken leaves the part state. -/
@[simp] theorem takeOutcome_part (s : State) (c : CellId) (k : SlotKind) (raw : RawResult) :
    (s.takeOutcome c k raw).rest.part = s.rest.part :=
  (part_trackerKept s.rest.part).takeOutcome rfl c k raw

/-! ### A read that the gate discards -/

/-- A read leaves lane `n` as `v`, every other lane and the trace as its slot's end left them, before the arbiter grants. -/
structure State.readLeaves (s u : State) (c : CellId) (k : SlotKind) (raw : RawResult) (v : LaneUnit) : Prop where
  lane : u.lane c.lane = v
  others : ∀ m, m ≠ c.lane → u.lane m = s.lane m
  watch : u.watch = (s.readEnded c k raw).watch

/-- A lane whose read slot has ended is steady. -/
theorem slotEnded_steady (v : LaneUnit) (i : Slot) (asks : Bool) : v.steady (v.slotEnded i asks) := by
  simp [LaneUnit.steady, LaneUnit.slotEnded]

/-- The end of a read that leaves its lane steady: the lanes, the arbiter and the trace. -/
theorem State.readLeaves.finish {v : LaneUnit} (h : s.readLeaves u c k raw v) (steady : (s.lane c.lane).steady v) :
    s.lanesSteady (u.grant c.lane).finish ∧ (u.grant c.lane).finish.laneGoes c.lane v ∧
      s.traces (u.grant c.lane).finish c k raw := by
  refine ⟨fun m => ?_, ?_, traces_congr ?_ (readEnded_traces s c k raw)⟩
  · refine steady_trans (v := u.lane m) ?_ (steady_trans (grant_steady u c.lane m) (finish_steady _ m))
    by_cases here : m = c.lane
    · rw [here, h.lane]
      exact steady
    · rw [h.others m here]
      exact steady_refl _
  · rw [← h.lane]
    exact finish_grant_laneGoes u c.lane
  · rw [← h.watch]
    simp

/-- The slot's end itself, with the outcome traced. -/
theorem readEnded_leaves (s : State) (c : CellId) (k : SlotKind) (raw : RawResult) :
    s.readLeaves (s.readEnded c k raw) c k raw ((s.lane c.lane).slotEnded c.slot false) where
  lane := by simp [readEnded_lane, LaneUnit.slotEnded]
  others m other := by rw [readEnded_lane, if_neg other]
  watch := rfl

/-- A shut gate discards the outcome, and nothing wakes (R40). -/
theorem endRead_shut (shut : s.gateShut = true) : s.endRead c k raw = (s.readEnded c k raw).grant c.lane := by
  have taken : (s.setLane c.lane { s.lane c.lane with slot := none }).takeOutcome c k raw = s.readEnded c k raw := by
    rw [takeOutcome_eq, if_pos shut]
  have still : wakes (s.setLane c.lane { s.lane c.lane with slot := none }) (s.readEnded c k raw) c = false := by
    simp [wakes]
  rw [State.endRead, taken, still]
  rfl

/-- An open gate in a part that does not rest: the cell is stepped and the lane's arbiter grants. -/
theorem endRead_open (gate : s.gateShut = false) (awake : s.rest.part ≠ .resting) :
    s.endRead c k raw =
      ((s.readEnded c k raw).stepped c k (classify raw (s.threshold c)) raw.amplitude).grant c.lane := by
  have taken := takeOutcome_eq s c k raw
  rw [if_neg (by simp [gate])] at taken
  have part := takeOutcome_part (s.setLane c.lane { s.lane c.lane with slot := none }) c k raw
  rw [State.endRead, taken]
  rw [taken] at part
  dsimp only
  generalize (s.readEnded c k raw).stepped c k (classify raw (s.threshold c)) raw.amplitude = w at part ⊢
  split
  · refine wake_awake _ _ ?_
    rw [(grant_frame _ _).2.1, part]
    exact awake
  · rfl

/-- Whatever the guard, the trace of a read is that of its slot's end. -/
theorem endRead_watch (s : State) (c : CellId) (k : SlotKind) (raw : RawResult) :
    (s.endRead c k raw).watch = (s.readEnded c k raw).watch := by
  have taken : ((s.setLane c.lane { s.lane c.lane with slot := none }).takeOutcome c k raw).watch =
      (s.readEnded c k raw).watch := by
    rw [takeOutcome_eq]
    split
    · rfl
    · simp [State.stepped]
  unfold State.endRead
  dsimp only
  split <;> simp [taken]

end Sys2Proof.Machine

open Sys2Proof Sys2Proof.Machine

/-- Settles O27: what the shut gate leaves of the read is its slot's end and the trace. -/
theorem guardGateDiscardsOutcomes : Obligations.GuardGateDiscardsOutcomes := by
  refine ⟨fun n c k marks s running shut flight => ?_, fun n c k marks s running flight => ?_⟩
  · obtain ⟨here, -⟩ := readInFlight_running flight
    subst here
    refine ⟨_, exec_readSlotEnd running flight, ?_⟩
    rw [endRead_shut (by simpa [State.gateShut] using shut)]
    obtain ⟨steady, goes, traced⟩ := (readEnded_leaves s c k (hear false marks)).finish (slotEnded_steady _ _ _)
    refine ⟨steady, by rw [finish_records]; simp, goes, traced, fun p hp => ?_⟩
    cases p <;> simp [Component.same] at hp ⊢
  · refine ⟨_, exec_readSlotEnd running flight, traces_congr ?_ (readEnded_traces s c k _)⟩
    rw [(finish_frame _).2.2.2.2.2.2.2.1, endRead_watch]

end

section
/-!
Reads that step their cell short of a board change (R38, R39, R41 to R48, R50): what an outcome is classified as, an equation for each state, and what the event leaves.
-/

namespace Sys2Proof.Machine

open Sys2Proof

variable {s u w : State} {n : Lane} {c : CellId} {k : SlotKind} {raw : RawResult} {o : Outcome} {a threshold : Nat}
  {inc : Incumbent} {cand : Candidate} {code : TagCode} {tile : TileRead}

/-! ### The outcome (R38) -/

/-- The tile that a decoded result reads. -/
def RawResult.tileOf (raw : RawResult) (code : TagCode) : TileRead :=
  { serial := code.serial, kind := code.kind, side := code.side, edition := code.edition, pad := raw.pad.getD 0 }

theorem classify_good (decoded : raw.kind = .decoded code) (strong : threshold ≤ raw.amplitude) :
    classify raw threshold = .good (raw.tileOf code) := by
  simp [classify, decoded, strong, RawResult.tileOf]

theorem classify_absent (absent : raw.kind = .absent) : classify raw threshold = .absent := by
  simp [classify, absent]

/-- A result that is weak, garbled, stalled or fails its parity is FAULTY, of that kind. -/
theorem classify_faulty
    (faulty : raw.kind = .decoded code ∧ raw.amplitude < threshold ∨ raw.kind = .garbled ∨ raw.kind = .stalled ∨
      ∃ j, raw.kind = .parity j) :
    classify raw threshold = .faulty (if raw.kind = .decoded code then .weak else raw.kind.outcome) := by
  rcases faulty with ⟨decoded, weak⟩ | garbled | stalled | ⟨j, parity⟩
  · simp [classify, decoded, Nat.not_le.2 weak]
  · simp [classify, garbled, ResultKind.outcome]
  · simp [classify, stalled, ResultKind.outcome]
  · simp [classify, parity, ResultKind.outcome]

/-! ### The cell stepped, by its state -/

/-- A GOOD outcome moves the peak first. -/
theorem stepped_good (held : (s.cell c).state ≠ .held) (retired : (s.cell c).state ≠ .retired) :
    s.stepped c k (.good tile) a =
      (s.setCell c { s.cell c with peak := nextPeak (s.cell c).peak a }).stepCell c k (.good tile) a := by
  have peak : s.updatePeak c (.good tile) a = s.setCell c { s.cell c with peak := nextPeak (s.cell c).peak a } := by
    unfold State.updatePeak
    split <;> simp_all
  rw [State.stepped, peak]

/-- Any other outcome leaves the peak. -/
theorem stepped_absent : s.stepped c k .absent a = s.stepCell c k .absent a := rfl

theorem stepped_faulty {f : OutcomeKind} : s.stepped c k (.faulty f) a = s.stepCell c k (.faulty f) a := rfl

theorem stepCell_vacant (state : (s.cell c).state = .vacant) : s.stepCell c k o a = s.stepVacant c o := by
  simp [State.stepCell, state]

theorem stepCell_arriving (state : (s.cell c).state = .arriving) (candidate : (s.cell c).candidate = some cand) :
    s.stepCell c k o a = s.stepArriving c cand k o := by
  simp [State.stepCell, state, candidate]

theorem stepCell_seated (state : (s.cell c).state = .seated) (incumbent : (s.cell c).incumbent = some inc) :
    s.stepCell c k o a = s.stepSeated c inc k o a := by
  simp [State.stepCell, state, incumbent]

theorem stepCell_shifting (state : (s.cell c).state = .shifting) (incumbent : (s.cell c).incumbent = some inc)
    (candidate : (s.cell c).candidate = some cand) : s.stepCell c k o a = s.stepShifting c inc cand k o a := by
  simp [State.stepCell, state, incumbent, candidate]

theorem stepCell_lifting (state : (s.cell c).state = .lifting) (incumbent : (s.cell c).incumbent = some inc) :
    s.stepCell c k o a = s.stepLifting c inc k o a := by
  simp [State.stepCell, state, incumbent]

theorem stepCell_twin (state : (s.cell c).state = .twin) (candidate : (s.cell c).candidate = some cand) :
    s.stepCell c k o a = s.stepTwin c cand k o := by
  simp [State.stepCell, state, candidate]

theorem stepCell_suspect (state : (s.cell c).state = .suspect) : s.stepCell c k o a = s.stepSuspect c k o := by
  simp [State.stepCell, state]

/-- HELD and RETIRED cells take no read. -/
theorem stepped_still (state : (s.cell c).state = .held ∨ (s.cell c).state = .retired) : s.stepped c k o a = s := by
  have peak : s.updatePeak c o a = s := by
    rcases state with state | state <;> cases o <;> simp [State.updatePeak, state]
  rw [State.stepped, peak]
  rcases state with state | state <;> simp [State.stepCell, state]

/-! ### Entries short of completion (R43 to R46) -/

/-- A candidate that has to be confirmed (R44). -/
theorem enterArriving_asks (more : 2 ≤ s.sensing.arriveN) :
    s.enterArriving c tile =
      (s.setCell c
        { s.cell c with
          state := .arriving, incumbent := none, candidate := some { tile := tile, arrive := 1 }, lift := 0
          absent := 0 }).requestConfirm c :=
  if_neg (by omega)

/-- A new tile over a seated one, to be confirmed (R46). -/
theorem enterShifting_asks (more : 2 ≤ s.sensing.arriveN) :
    s.enterShifting c inc tile a =
      (s.setCell c
        { s.cell c with state := .shifting, candidate := some { tile := tile, arrive := 1 }, lift := 0 }).requestConfirm c :=
  if_neg (by omega)

/-- A tile found gone, to be confirmed (R47). -/
theorem enterLifting_asks {x : Serial} (more : 2 ≤ s.sensing.liftN) :
    s.enterLifting c x = (s.setCell c { s.cell c with state := .lifting, candidate := none, lift := 1 }).requestConfirm c :=
  if_neg (by omega)

/-- A faulty SENSE read short of SUSPECT raises the score (R41). -/
theorem scoreFault_raises {f : OutcomeKind} (low : min 15 ((s.cell c).score + 2) < 12) :
    s.scoreFault c .sense f = s.setCell c { s.cell c with score := min 15 ((s.cell c).score + 2) } :=
  if_neg (Nat.not_le.2 low)

/-! ### A read that passes the gate -/

/-- A read slot of lane `n` on cell `c` that ends now is taken by the tracker, in a part that does not rest. -/
structure State.reads (s : State) (n : Lane) (c : CellId) (k : SlotKind) : Prop where
  running : s.chip = .running
  awake : s.rest.part ≠ .resting
  gate : s.lamps.guard = .clear ∨ s.lamps.guard = .dimmed
  flight : s.readInFlight n = some (c, k)

/-- The read's slot ends, the cell is stepped, and the arbiters look for grants. -/
theorem State.reads.exec {marks : List Mark} (h : s.reads n c k) :
    exec (.readSlotEnd n marks) s =
      .next
        (((s.readEnded c k (hear false marks)).stepped c k (classify (hear false marks) (s.threshold c))
          (hear false marks).amplitude).grant c.lane).finish := by
  have gate : s.gateShut = false := by
    rcases h.gate with guard | guard <;> simp [State.gateShut, guard]
  rw [exec_readSlotEnd h.running h.flight, endRead_open gate h.awake]

/-- A cell written and, if asked for, a CONFIRM requested. -/
def State.cellStep (s : State) (c : CellId) (asks : Bool) (q : CellRec) : State :=
  if asks then (s.setCell c q).requestConfirm c else s.setCell c q

/-- A write of the cell with or without a CONFIRM leaves everything else but the lane. -/
@[simp] theorem cellStep_frame (s : State) (c : CellId) (asks : Bool) (q : CellRec) :
    (s.cellStep c asks q).chip = s.chip ∧ (s.cellStep c asks q).rest = s.rest ∧ (s.cellStep c asks q).plan = s.plan ∧
      (s.cellStep c asks q).epoch = s.epoch ∧ (s.cellStep c asks q).sensing = s.sensing ∧
      (s.cellStep c asks q).firstFault = s.firstFault ∧ (s.cellStep c asks q).watch = s.watch ∧
      (s.cellStep c asks q).roster = s.roster ∧ (s.cellStep c asks q).patterns = s.patterns ∧
      (s.cellStep c asks q).quests = s.quests ∧ (s.cellStep c asks q).play = s.play ∧
      (s.cellStep c asks q).lamps = s.lamps ∧ (s.cellStep c asks q).notices = s.notices ∧
      (s.cellStep c asks q).link = s.link ∧ (s.cellStep c asks q).pending = s.pending := by
  unfold State.cellStep
  split <;> simp

theorem cellStep_cell (s : State) (c : CellId) (asks : Bool) (q : CellRec) (d : CellId) :
    (s.cellStep c asks q).cell d = if d = c then q else s.cell d := by
  unfold State.cellStep
  split <;> simp [setCell_cell]

/-- A CONFIRM request touches its cell's lane alone. -/
theorem requestConfirm_others {m : Lane} (other : m ≠ c.lane) : (s.requestConfirm c).lane m = s.lane m := by
  unfold State.requestConfirm
  dsimp only
  split
  · exact setLane_lane_ne _ _ other
  · rfl

/-- The lanes after a read that asks for a CONFIRM or not. -/
theorem cellStep_leaves (h : (s.lane c.lane).state = .running) (asks : Bool) (q : CellRec) :
    s.readLeaves ((s.readEnded c k raw).cellStep c asks q) c k raw ((s.lane c.lane).slotEnded c.slot asks) := by
  have ended := readEnded_leaves s c k raw
  cases asks with
  | false => exact ⟨ended.lane, ended.others, rfl⟩
  | true =>
    refine ⟨requestConfirm_slotEnded _ c _ h ?_, fun m other => ?_, by simp [State.cellStep]⟩
    · simp [readEnded_lane]
    · exact (requestConfirm_others other).trans (ended.others m other)

/-- A read that writes its cell and asks for a CONFIRM or not, at the end of its event. -/
theorem State.reads.becomes {marks : List Mark} {asks : Bool} {q : CellRec} (h : s.reads n c k)
    (outcome : classify (hear false marks) (s.threshold c) = o)
    (stepped : ∀ v : State, v.cell c = s.cell c → v.sensing = s.sensing →
      v.stepped c k o (hear false marks).amplitude = v.cellStep c asks q) :
    ∃ t, Machine.exec (.readSlotEnd n marks) s = .next t ∧ t.cell c = q ∧ (∀ d, d ≠ c → t.cell d = s.cell d) ∧
      s.lanesSteady t ∧ t.laneGoes n ((s.lane n).slotEnded c.slot asks) ∧ s.traces t c k (hear false marks) ∧
      t.quests.records = s.quests.records ∧ s.sameBut t [.lanes, .cells, .watch, .quests] := by
  obtain ⟨here, running⟩ := readInFlight_running h.flight
  subst here
  refine ⟨_, h.exec, ?_⟩
  rw [outcome, stepped _ (by simp) (by simp)]
  obtain ⟨steady, goes, traced⟩ :=
    (cellStep_leaves (k := k) (raw := hear false marks) running asks q).finish (slotEnded_steady _ _ _)
  refine ⟨by simp [cellStep_cell], fun d other => by simp [cellStep_cell, other], steady, goes, traced,
    by rw [finish_records]; simp, fun p hp => ?_⟩
  cases p <;> simp [Component.same] at hp ⊢

/-! ### Reads short of a board change, by state and outcome -/

section

variable {r : CellRec} {f : OutcomeKind}

/-- A write of the cell as it stands is no write. -/
theorem cellStep_self (cell : s.cell c = r) : s = s.cellStep c false r := by
  rw [← cell]
  exact (setCell_self s c).symm

/-- A cell whose state scores faults (R41). -/
def CellRec.scores (r : CellRec) : Prop :=
  (r.state = .arriving ∨ r.state = .twin) ∧ r.candidate.isSome = true ∨
    (r.state = .seated ∨ r.state = .lifting) ∧ r.incumbent.isSome = true ∨
    r.state = .shifting ∧ r.incumbent.isSome = true ∧ r.candidate.isSome = true

/-- A faulty outcome in a state that scores faults. -/
theorem stepCell_scores (h : (s.cell c).scores) : s.stepCell c k (.faulty f) a = s.scoreFault c k f := by
  rcases h with ⟨state | state, candidate⟩ | ⟨state | state, incumbent⟩ | ⟨state, incumbent, candidate⟩
  · obtain ⟨cand, candidate⟩ := Option.isSome_iff_exists.1 candidate
    exact stepCell_arriving state candidate
  · obtain ⟨cand, candidate⟩ := Option.isSome_iff_exists.1 candidate
    exact stepCell_twin state candidate
  · obtain ⟨inc, incumbent⟩ := Option.isSome_iff_exists.1 incumbent
    exact stepCell_seated state incumbent
  · obtain ⟨inc, incumbent⟩ := Option.isSome_iff_exists.1 incumbent
    exact stepCell_lifting state incumbent
  · obtain ⟨inc, incumbent⟩ := Option.isSome_iff_exists.1 incumbent
    obtain ⟨cand, candidate⟩ := Option.isSome_iff_exists.1 candidate
    exact stepCell_shifting state incumbent candidate

/-- As CONFIRM a faulty outcome changes nothing. -/
theorem stepped_faulty_confirm (cell : s.cell c = r) (h : r.scores) :
    s.stepped c .confirm (.faulty f) a = s.cellStep c false r := by
  rw [stepped_faulty, stepCell_scores (cell ▸ h)]
  exact cellStep_self cell

/-- As SENSE it raises the score, short of SUSPECT. -/
theorem stepped_faulty_sense (cell : s.cell c = r) (h : r.scores) (low : min 15 (r.score + 2) < 12) :
    s.stepped c .sense (.faulty f) a = s.cellStep c false { r with score := min 15 (r.score + 2) } := by
  subst cell
  rw [stepped_faulty, stepCell_scores h, scoreFault_raises low]
  rfl

/-- A cell on which a tile not yet its candidate makes a new one (R43, R44). -/
def CellRec.unseated (r : CellRec) (tile : TileRead) : Prop :=
  r.state = .vacant ∨ r.state = .arriving ∧ ∃ cand, r.candidate = some cand ∧ tile ≠ cand.tile

/-- A new candidate (R43, R44). -/
theorem stepped_arriving (h : (s.cell c).unseated tile) :
    s.stepped c k (.good tile) a =
      (s.setCell c { s.cell c with peak := nextPeak (s.cell c).peak a }).enterArriving c tile := by
  rcases h with state | ⟨state, cand, candidate, other⟩
  · rw [stepped_good (by simp [state]) (by simp [state]), stepCell_vacant (by simpa using state)]
    rfl
  · rw [stepped_good (by simp [state]) (by simp [state]), stepCell_arriving (by simpa using state) (by simpa using candidate)]
    exact if_neg other

/-- A new candidate that has to be confirmed. -/
theorem stepped_arriving_asks (cell : s.cell c = r) (h : r.unseated tile) (more : 2 ≤ s.sensing.arriveN) :
    s.stepped c k (.good tile) a =
      s.cellStep c true
        { r with
          state := .arriving, incumbent := none, candidate := some { tile := tile, arrive := 1 }, lift := 0, absent := 0
          peak := nextPeak r.peak a } := by
  subst cell
  rw [stepped_arriving h, enterArriving_asks (by exact more)]
  simp [State.cellStep]

/-- A VACANT cell takes nothing but a GOOD outcome (R43). -/
theorem stepped_vacant (cell : s.cell c = r) (state : r.state = .vacant) (bad : o = .absent ∨ o = .faulty f) :
    s.stepped c k o a = s.cellStep c false r := by
  have still : s.stepped c k o a = s := by
    rcases bad with rfl | rfl
    · rw [stepped_absent, stepCell_vacant (cell ▸ state)]; rfl
    · rw [stepped_faulty, stepCell_vacant (cell ▸ state)]; rfl
  rw [still]
  exact cellStep_self cell

/-- A cell with an incumbent on which the tile read is not the candidate (R45 to R47). -/
def CellRec.covered (r : CellRec) (inc : Incumbent) (tile : TileRead) : Prop :=
  r.incumbent = some inc ∧
    (r.state = .seated ∨ r.state = .lifting ∨
      r.state = .shifting ∧ ∃ cand, r.candidate = some cand ∧ tile ≠ cand.tile)

/-- The tile read is the incumbent's, or a new candidate's (R45 to R47). -/
theorem stepped_covered (h : (s.cell c).covered inc tile) :
    let v := s.setCell c { s.cell c with peak := nextPeak (s.cell c).peak a }
    s.stepped c k (.good tile) a = if tile = inc.tile then v.matchIncumbent c k else v.enterShifting c inc tile a := by
  obtain ⟨incumbent, state | state | ⟨state, cand, candidate, other⟩⟩ := h
  · rw [stepped_good (by simp [state]) (by simp [state]), stepCell_seated (by simpa using state) (by simpa using incumbent)]
    rfl
  · rw [stepped_good (by simp [state]) (by simp [state]), stepCell_lifting (by simpa using state) (by simpa using incumbent)]
    rfl
  · rw [stepped_good (by simp [state]) (by simp [state]),
      stepCell_shifting (by simpa using state) (by simpa using incumbent) (by simpa using candidate)]
    exact if_neg other

/-- The seated tile read again. -/
theorem stepped_matches (cell : s.cell c = r) (h : r.covered inc tile) (same : tile = inc.tile) :
    s.stepped c k (.good tile) a =
      s.cellStep c false
        { r with
          state := .seated, candidate := none, lift := 0, peak := nextPeak r.peak a
          score := if k = .sense then r.score - 1 else r.score } := by
  subst cell
  rw [stepped_covered h, if_pos same]
  simp [State.matchIncumbent, State.cellStep]

/-- Another tile, to be confirmed. -/
theorem stepped_shifting_asks (cell : s.cell c = r) (h : r.covered inc tile) (differ : tile ≠ inc.tile)
    (more : 2 ≤ s.sensing.arriveN) :
    s.stepped c k (.good tile) a =
      s.cellStep c true
        { r with
          state := .shifting, candidate := some { tile := tile, arrive := 1 }, lift := 0, peak := nextPeak r.peak a } := by
  subst cell
  rw [stepped_covered h, if_neg differ, enterShifting_asks (by exact more)]
  simp [State.cellStep]

/-- A tile read gone for the first time (R45, R46). -/
theorem stepped_gone
    (h : (s.cell c).state = .seated ∨ (s.cell c).state = .shifting ∧ (s.cell c).candidate.isSome = true)
    (incumbent : (s.cell c).incumbent = some inc) : s.stepped c k .absent a = s.enterLifting c inc.tile.serial := by
  rcases h with state | ⟨state, candidate⟩
  · exact stepCell_seated state incumbent
  · obtain ⟨cand, candidate⟩ := Option.isSome_iff_exists.1 candidate
    exact stepCell_shifting state incumbent candidate

/-- A tile read gone, to be confirmed. -/
theorem stepped_gone_asks (cell : s.cell c = r) (h : r.state = .seated ∨ r.state = .shifting ∧ r.candidate.isSome = true)
    (incumbent : r.incumbent = some inc) (more : 2 ≤ s.sensing.liftN) :
    s.stepped c k .absent a = s.cellStep c true { r with state := .lifting, candidate := none, lift := 1 } := by
  subst cell
  rw [stepped_gone h incumbent, enterLifting_asks more]
  rfl

/-- A tile still gone, short of completion (R47). -/
theorem stepped_lifting_counts (cell : s.cell c = r) (state : r.state = .lifting) (incumbent : r.incumbent = some inc)
    (more : r.lift + 1 < s.sensing.liftN) : s.stepped c k .absent a = s.cellStep c true { r with lift := r.lift + 1 } := by
  subst cell
  rw [stepped_absent, stepCell_lifting state incumbent]
  exact if_neg (Nat.not_le.2 more)

end

end Sys2Proof.Machine

open Sys2Proof Sys2Proof.Machine

/-- Settles O28: each read comes to one write of its cell, with or without a CONFIRM asked for. -/
theorem readsStepTheirCell : Obligations.ReadsStepTheirCell := by
  intro n c k marks code inc s running awake gate flight r raw threshold good faulty tile peak becomes
  have reads : s.reads n c k := ⟨running, awake, gate, flight⟩
  have goodRead : good → classify raw (s.threshold c) = .good tile := fun h => classify_good h.1 h.2
  refine ⟨fun state isGood more => reads.becomes (goodRead isGood) fun v cell sensing =>
      stepped_arriving_asks cell (.inl state) (sensing ▸ more),
    fun state bad => ?_,
    fun state incumbent =>
      ⟨fun absent more => reads.becomes (classify_absent absent) fun v cell sensing =>
          stepped_gone_asks cell (.inl state) incumbent (sensing ▸ more),
        fun isGood same => reads.becomes (goodRead isGood) fun v cell _ =>
          stepped_matches cell ⟨incumbent, .inl state⟩ same,
        fun isGood differ more => reads.becomes (goodRead isGood) fun v cell sensing =>
          stepped_shifting_asks cell ⟨incumbent, .inl state⟩ differ (sensing ▸ more)⟩,
    fun state incumbent absent more => reads.becomes (classify_absent absent) fun v cell sensing =>
      stepped_lifting_counts cell state incumbent (sensing ▸ more),
    fun state incumbent bad => ?_⟩
  · rcases bad with bad | absent
    · exact reads.becomes (classify_faulty bad) fun v cell _ => stepped_vacant cell state (.inr rfl)
    · exact reads.becomes (classify_absent absent) fun v cell _ => stepped_vacant (f := .weak) cell state (.inl rfl)
  · have scores : r.scores := .inr (.inl ⟨state, by simp [incumbent]⟩)
    refine ⟨fun confirm => ?_, fun sense low => ?_⟩
    · subst confirm
      exact reads.becomes (classify_faulty bad) fun v cell _ => stepped_faulty_confirm cell scores
    · subst sense
      exact reads.becomes (classify_faulty bad) fun v cell _ => stepped_faulty_sense cell scores low

end

section
/-!
Board changes in a row: what they leave beside the cells, the holder of a serial and the first TWIN cell in board order, and the end of a read that commits (R44, R46, R47, R53, R57).
-/

namespace Sys2Proof.Machine

open Sys2Proof

variable {s u v w : State} {n : Lane} {c d : CellId} {k : SlotKind} {raw : RawResult} {o : Outcome} {a : Nat}
  {told later : List NoticeBody} {moved more : List CellId} {b : NoticeBody} {x : TileRead} {cand : Candidate}

/-! ### Board order -/

/-- Board order of cells: by lane, then by slot. -/
def CellId.before (e d : CellId) : Prop := e.lane < d.lane ∨ e.lane = d.lane ∧ e.slot < d.slot

theorem allCells_pairwise : allCells.Pairwise CellId.before := by
  unfold allCells laneCells
  rw [List.pairwise_flatMap]
  refine ⟨fun n _ => ?_, ?_⟩
  · rw [List.pairwise_map]
    exact (List.pairwise_lt_finRange 12).imp fun h => .inr ⟨rfl, h⟩
  · refine (List.pairwise_lt_finRange 8).imp fun {n m} h c hc d hd => ?_
    obtain ⟨i, -, rfl⟩ := List.mem_map.1 hc
    obtain ⟨j, -, rfl⟩ := List.mem_map.1 hd
    exact .inl h

theorem CellId.before_asymm (h : c.before d) : ¬d.before c := by
  simp only [CellId.before, Fin.lt_def, Fin.ext_iff] at h ⊢
  omega

/-- The cells listed before a cell are those before it in board order. -/
theorem mem_front {front back : List CellId} (split : allCells = front ++ d :: back) (e : CellId) :
    e ∈ front ↔ e.before d := by
  have order := allCells_pairwise
  have all := mem_allCells e
  rw [split] at order all
  obtain ⟨-, tail, across⟩ := List.pairwise_append.1 order
  refine ⟨fun h => across e h d (by simp), fun h => ?_⟩
  rcases List.mem_append.1 all with front | rest
  · exact front
  · rcases List.mem_cons.1 rest with rfl | back
    · exact absurd h (CellId.before_asymm h)
    · exact absurd h (CellId.before_asymm ((List.pairwise_cons.1 tail).1 e back))

/-- The first cell in board order for which a function gives something. -/
theorem findSome_allCells {α : Type} {f : CellId → Option α} {y : α} :
    allCells.findSome? f = some y ↔ ∃ d, f d = some y ∧ ∀ e, e.before d → f e = none := by
  rw [List.findSome?_eq_some_iff]
  constructor
  · rintro ⟨front, d, back, split, gives, none⟩
    exact ⟨d, gives, fun e h => none e ((mem_front split e).2 h)⟩
  · rintro ⟨d, gives, none⟩
    obtain ⟨front, back, split⟩ := List.append_of_mem (mem_allCells d)
    exact ⟨front, d, back, split, gives, fun e h => none e ((mem_front split e).1 h)⟩

/-- The first cell in board order that passes. -/
theorem find_allCells {p : CellId → Bool} :
    allCells.find? p = some d ↔ p d = true ∧ ∀ e, e.before d → p e = false := by
  rw [List.find?_eq_some_iff_append]
  constructor
  · rintro ⟨passes, front, back, split, none⟩
    exact ⟨passes, fun e h => by simpa using none e ((mem_front split e).2 h)⟩
  · rintro ⟨passes, none⟩
    obtain ⟨front, back, split⟩ := List.append_of_mem (mem_allCells d)
    exact ⟨passes, front, back, split, fun e h => by simpa using none e ((mem_front split e).1 h)⟩

/-- The holder of a serial is the first cell in board order, but the cell itself, with it as incumbent (R44). -/
theorem otherHolder_iff {y : Serial} :
    s.otherHolder c y = some d ↔
      d ≠ c ∧ (s.cell d).holds y = true ∧ ∀ e, e ≠ c → e.before d → (s.cell e).holds y = false := by
  rw [State.otherHolder, find_allCells]
  simp only [Bool.and_eq_true, decide_eq_true_eq, Bool.and_eq_false_iff, decide_eq_false_iff_not, and_assoc]
  refine and_congr_right fun _ => and_congr_right fun _ => ⟨fun h e other before => (h e before).resolve_left fun h => h other,
    fun h e before => ?_⟩
  by_cases here : e = c
  · exact .inl fun h => h here
  · exact .inr (h e here before)

theorem otherHolder_eq_none {y : Serial} (lone : ∀ d, d ≠ c → (s.cell d).holds y = false) : s.otherHolder c y = none := by
  refine List.find?_eq_none.2 fun d _ => ?_
  simp only [Bool.and_eq_true, decide_eq_true_eq, not_and, Bool.not_eq_true]
  exact lone d

/-- A serial that another cell holds has a holder. -/
theorem otherHolder_isSome {y : Serial} (other : d ≠ c) (holds : (s.cell d).holds y = true) :
    ∃ h, s.otherHolder c y = some h := by
  refine Option.ne_none_iff_exists'.1 fun none => ?_
  rw [otherHolder_none none d other] at holds
  cases holds

/-- A record has a twin tile of a serial as its state and candidate say. -/
theorem twinOf_iff {r : CellRec} {y : Serial} {t : TileRead} :
    r.twinOf y = some t ↔ r.state = .twin ∧ ∃ k, r.candidate = some k ∧ k.tile = t ∧ t.serial = y := by
  rw [twinOf_eq_some, Option.map_eq_some_iff]
  exact and_congr_right fun _ => ⟨fun ⟨⟨k, h, e⟩, f⟩ => ⟨k, h, e, f⟩, fun ⟨k, h, e, f⟩ => ⟨⟨k, h, e⟩, f⟩⟩

/-- A record has no twin tile of a serial. -/
theorem twinOf_none_iff {r : CellRec} {y : Serial} :
    r.twinOf y = none ↔ ¬(r.state = .twin ∧ ∃ k, r.candidate = some k ∧ k.tile.serial = y) := by
  rw [Option.eq_none_iff_forall_ne_some]
  simp only [ne_eq, twinOf_iff]
  exact ⟨fun h ⟨state, k, candidate, serial⟩ => h k.tile ⟨state, k, candidate, rfl, serial⟩,
    fun h t ⟨state, k, candidate, tile, serial⟩ => h ⟨state, k, candidate, tile ▸ serial⟩⟩

/-- The first TWIN cell of a serial is the first in board order (R53). -/
theorem firstTwin_iff {y : Serial} {t : TileRead} :
    s.firstTwin y = some (d, t) ↔ (s.cell d).twinOf y = some t ∧ ∀ e, e.before d → (s.cell e).twinOf y = none := by
  rw [firstTwin_eq, findSome_allCells]
  simp only [Option.map_eq_some_iff, Prod.mk.injEq, Option.map_eq_none_iff]
  exact ⟨fun ⟨_, ⟨_, twin, rfl, rfl⟩, first⟩ => ⟨twin, first⟩, fun ⟨twin, first⟩ => ⟨d, ⟨t, twin, rfl, rfl⟩, first⟩⟩

theorem firstTwin_none_iff {y : Serial} : s.firstTwin y = none ↔ ∀ e, (s.cell e).twinOf y = none := by
  rw [firstTwin_eq, List.findSome?_eq_none_iff]
  simp only [Option.map_eq_none_iff]
  exact ⟨fun h e => h e (mem_allCells e), fun h e _ => h e⟩

/-! ### Board changes in a row (R57) -/

/-- No move of the listed cells can end a turn: moves end none, or the cells have no position (R95). -/
def State.movesQuietly (s : State) (moved : List CellId) : Prop := s.movesFreely ∨ ∀ d ∈ moved, s.position d = none

/-- From `s` to `w` board changes were committed with the notices told, and moves of the listed cells reported; the cells, the lanes and the watch apart, that is all. -/
structure State.changes (s w : State) (told : List NoticeBody) (moved : List CellId) : Prop where
  epoch : w.epoch = s.epoch + BitVec.ofNat 16 told.length
  quests : w.quests = if told = [] then s.quests else s.wantPass.quests
  rest : w.rest = if told = [] then s.rest else s.reportActivity.rest
  clock : w.play.clock = s.play.clock
  quiet : s.movesQuietly moved → w.play = s.playMoved moved ∧ w.notices = s.committed told
  same : s.sameBut w [.lanes, .watch, .cells, .epoch, .quests, .rest, .notices, .play]

theorem State.changes.plan (h : s.changes w told moved) : w.plan = s.plan := h.same .plan (by simp)

theorem committed_append (s : State) : ∀ (told later : List NoticeBody) {w : State}, w.notices = s.committed told →
    w.epoch = s.epoch + BitVec.ofNat 16 told.length → w.play.clock = s.play.clock →
      w.committed later = s.committed (told ++ later) := by
  intro told
  induction told generalizing s with
  | nil => exact fun later _ notices epoch clock => committed_congr later notices (by simpa using epoch) clock
  | cons b told ih =>
    intro later w notices epoch clock
    rw [List.cons_append, committed_cons]
    refine ih (s.commit b) later (by rwa [committed_cons] at notices) ?_ (by simpa using clock)
    rw [epoch, (commit_epoch s b).1, List.length_cons, BitVec.add_assoc, Nat.add_comm, BitVec.ofNat_add]
    rfl

/-- Moves on some cells and then on others are the moves on them all. -/
theorem playMoved_append (plan : w.plan = s.plan) (play : w.play = s.playMoved moved) :
    w.playMoved more = s.playMoved (moved ++ more) := by
  have pos : w.position = s.position := by funext c; simp [State.position, plan]
  unfold State.playMoved at play ⊢
  rw [pos, play, List.countP_append]
  generalize (more.countP fun d => (s.position d).isSome) = j
  generalize (moved.countP fun d => (s.position d).isSome) = i
  cases turns : s.play.turns
  case false => simp [turns]
  case true =>
    rcases Nat.eq_zero_or_pos i with rfl | first <;> rcases Nat.eq_zero_or_pos j with rfl | second
    · simp
    · simp [turns]
    · simp [turns, first.ne']
    · simp [turns, first.ne', second.ne']
      omega

/-- Moves of cells without a position count for nothing. -/
theorem playMoved_unplaced (h : ∀ d ∈ moved, s.position d = none) : s.playMoved moved = s.play := by
  have none_counts : moved.countP (fun d => (s.position d).isSome) = 0 :=
    List.countP_eq_zero.2 fun d hd => by simp [h d hd]
  simp [State.playMoved, none_counts]

/-- Nor do moves outside TURNS mode. -/
theorem playMoved_free (h : s.play.turns = false) : s.playMoved moved = s.play := by
  simp [State.playMoved, h]

/-- Board changes after board changes. -/
theorem State.changes.trans (h : s.changes v told moved) (g : v.changes w later more) :
    s.changes w (told ++ later) (moved ++ more) where
  epoch := by rw [g.epoch, h.epoch, List.length_append, BitVec.ofNat_add, BitVec.add_assoc]
  quests := by
    rw [g.quests]
    cases told <;> cases later <;> simp [h.quests, State.wantPass]
  rest := by
    have first := h.rest
    rw [g.rest]
    cases told <;> cases later
    · exact first
    · exact reportActivity_rest_congr first
    · exact first
    · exact (reportActivity_rest_congr first).trans (reportActivity_rest_idem s)
  clock := g.clock.trans h.clock
  quiet free := by
    have pos : v.position = s.position := by funext c; simp [State.position, h.plan]
    obtain ⟨play, notices⟩ := h.quiet (free.imp id fun all d hd => all d (by simp [hd]))
    obtain ⟨turns, limit, -, -⟩ := playMoved_settings s moved
    have free' : v.movesQuietly more := by
      refine free.imp (fun free => ?_) fun all d hd => by rw [pos, all d (by simp [hd])]
      rwa [State.movesFreely, play, turns, limit]
    obtain ⟨play', notices'⟩ := g.quiet free'
    exact ⟨play'.trans (playMoved_append h.plan play), notices'.trans (committed_append s told later notices h.epoch h.clock)⟩
  same := sameBut_trans h.same g.same

/-- A cell written. -/
theorem changes_setCell (s : State) (c : CellId) (q : CellRec) : s.changes (s.setCell c q) [] [] where
  epoch := by simp
  quests := rfl
  rest := rfl
  clock := rfl
  quiet _ := ⟨by simp [State.playMoved], rfl⟩
  same k hk := by cases k <;> simp [Component.same] at hk ⊢

/-- A board change committed. -/
theorem changes_commit (s : State) (b : NoticeBody) : s.changes (s.commit b) [b] [] where
  epoch := by simp
  quests := by simp [State.commit, State.wantPass]
  rest := commit_rest s b
  clock := by simp
  quiet _ := ⟨by simp [State.playMoved], by rw [commit_notices]; rfl⟩
  same k hk := by cases k <;> simp [Component.same] at hk ⊢

/-- A move reported. -/
theorem changes_reportMove (s : State) (c : CellId) : s.changes (s.reportMove c) [] [c] where
  epoch := by simp
  quests := by simp
  rest := by simp
  clock := reportMove_clock s c
  quiet free := by
    rcases free with free | unplaced
    · rw [reportMove_free c free]
      exact ⟨rfl, rfl⟩
    · rw [reportMove_uncounted (.inl (unplaced c (by simp))), playMoved_unplaced unplaced]
      exact ⟨rfl, rfl⟩
  same k hk := by cases k <;> simp [Component.same] at hk ⊢

/-- The ARRIVAL notice of a tile seated on a cell (R44, R53). -/
def State.arrivalOf (s : State) (d : CellId) (x : TileRead) (promoted : Bool) : NoticeBody :=
  .arrival ⟨d, s.position d⟩ x (s.facingOf d.lane x.pad) promoted

/-- A tile seated, with its move (R44, R53). -/
theorem changes_seat (s : State) (d : CellId) (x : TileRead) (promoted : Bool) :
    s.changes (s.seat d x promoted) [s.arrivalOf d x promoted] [d] := by
  let q : CellRec :=
    { s.cell d with state := .seated, incumbent := some (s.seatedTile d x), candidate := none, lift := 0, absent := 0 }
  exact ((changes_setCell s d q).trans (changes_commit (s.setCell d q) _)).trans (changes_reportMove _ d)

/-- A cell that becomes TWIN (R44, R46). -/
theorem changes_becomeTwin (s : State) (c : CellId) (t : Candidate) (h : CellId) :
    s.changes (s.becomeTwin c t h) [.twin ⟨c, s.position c⟩ t.tile.serial h] [] :=
  (changes_setCell s c ((s.cell c).twinned t)).trans (changes_commit _ _)

end Sys2Proof.Machine
end

section
/-!
Reads that commit a board change: the end of their event, a completed arrival and a completed lift (R44, R47, R53, R57).
-/

namespace Sys2Proof.Machine

open Sys2Proof

variable {s t v w : State} {n : Lane} {c d : CellId} {k : SlotKind} {raw : RawResult} {o : Outcome} {a : Nat}
  {told : List NoticeBody} {moved : List CellId} {b : NoticeBody} {x tile : TileRead} {cand : Candidate} {q r : CellRec}
  {asks : Bool}

/-! ### The end of a read that commits -/

/-- What a read whose cell committed the changes told leaves beside the cells, at the end of its event. -/
structure State.readCommits (s t : State) (n : Lane) (c : CellId) (k : SlotKind) (raw : RawResult) (asks : Bool)
    (told : List NoticeBody) (moved : List CellId) : Prop where
  epoch : t.epoch = s.epoch + BitVec.ofNat 16 told.length
  steady : s.lanesSteady t
  goes : t.laneGoes n ((s.lane n).slotEnded c.slot asks)
  traced : s.traces t c k raw
  pass : s.passFollows t
  rest : t.rest = s.reportActivity.rest
  quiet : s.movesQuietly moved → t.play = s.playMoved moved ∧ t.notices = s.committed told
  same : s.sameBut t [.lanes, .cells, .epoch, .watch, .quests, .rest, .notices, .play]

/-- A read's outcome taken up to `w`: its slot ended, its cell written as `q`, the changes told committed. -/
structure State.readTo (s w : State) (c : CellId) (k : SlotKind) (raw : RawResult) (q : CellRec) (told : List NoticeBody)
    (moved : List CellId) : Prop where
  changes : s.changes w told moved
  lanes : ∀ m, w.lane m = (s.readEnded c k raw).lane m
  watch : w.watch = (s.readEnded c k raw).watch
  cells : ∀ d, w.cell d = if d = c then q else s.cell d

/-- The slot ended, the cell as it was. -/
theorem readTo_ended (s : State) (c : CellId) (k : SlotKind) (raw : RawResult) :
    s.readTo (s.readEnded c k raw) c k raw (s.cell c) [] [] where
  changes :=
    { epoch := by simp
      quests := by simp
      rest := by simp
      clock := by simp
      quiet := fun _ => ⟨by simp [State.playMoved], by simp [State.committed]⟩
      same := fun p hp => by cases p <;> simp [Component.same] at hp ⊢ }
  lanes _ := rfl
  watch := rfl
  cells d := by
    rw [readEnded_cell]
    split
    case isTrue here => rw [here]
    case isFalse => rfl

namespace State.readTo

theorem plan (h : s.readTo v c k raw q told moved) : v.plan = s.plan := h.changes.plan

theorem position (h : s.readTo v c k raw q told moved) : v.position = s.position := by
  funext d
  rw [State.position, h.plan]
  rfl

theorem cell (h : s.readTo v c k raw q told moved) : v.cell c = q := by rw [h.cells, if_pos rfl]

/-- Changes that leave the cells, the lanes and the watch follow. -/
theorem step {later : List NoticeBody} {more : List CellId} (h : s.readTo v c k raw q told moved)
    (changes : v.changes w later more) (lanes : ∀ m, w.lane m = v.lane m) (watch : w.watch = v.watch)
    (cells : ∀ d, w.cell d = if d = c then r else v.cell d) : s.readTo w c k raw r (told ++ later) (moved ++ more) where
  changes := h.changes.trans changes
  lanes m := (lanes m).trans (h.lanes m)
  watch := watch.trans h.watch
  cells d := by
    rw [cells, h.cells]
    split <;> rfl

/-- The cell written again. -/
theorem write (h : s.readTo v c k raw q told moved) (r : CellRec) : s.readTo (v.setCell c r) c k raw r told moved := by
  simpa using h.step (r := r) (changes_setCell v c r) (fun _ => by simp) (by simp) fun d => setCell_cell v c d r

/-- A board change committed. -/
theorem commit (h : s.readTo v c k raw q told moved) (b : NoticeBody) :
    s.readTo (v.commit b) c k raw q (told ++ [b]) moved := by
  have same : ∀ d, (v.commit b).cell d = if d = c then q else v.cell d := fun d => by
    rw [(commit_frame v b).2.2.2.2.2.2.2.2.2.2.2.2.2.1, h.cells]
    split <;> rfl
  simpa using h.step (changes_commit v b) (fun _ => by simp) (by simp) same

/-- The play record before any move is reported. -/
theorem play (h : s.readTo v c k raw q told []) : v.play = s.play := by
  rw [(h.changes.quiet (.inr (by simp))).1, playMoved_unplaced (by simp)]

theorem seatedTile (h : s.readTo v c k raw q told []) : v.seatedTile = s.seatedTile := by
  have roster : v.roster = s.roster := h.changes.same .roster (by simp)
  funext d y
  simp only [State.seatedTile, State.facingOf, State.heading, h.plan, h.play, roster]

theorem arrivalOf (h : s.readTo v c k raw q told moved) : v.arrivalOf = s.arrivalOf := by
  funext d y p
  simp only [State.arrivalOf, State.facingOf, State.heading, h.position, h.plan]

/-- Other holders are other cells. -/
theorem otherHolder (h : s.readTo v c k raw q told moved) (y : Serial) : v.otherHolder c y = s.otherHolder c y := by
  unfold State.otherHolder
  congr 1
  funext d
  by_cases here : d = c
  · simp [here]
  · rw [h.cells, if_neg here]

end State.readTo

/-- A read that commits, with or without a CONFIRM asked for after it, at the end of its event. -/
theorem State.reads.commits {marks : List Mark} (h : s.reads n c k)
    (outcome : classify (hear false marks) (s.threshold c) = o)
    (stepped : (s.readEnded c k (hear false marks)).stepped c k o (hear false marks).amplitude =
      if asks then w.requestConfirm c else w)
    (changes : s.changes w told moved) (lanes : ∀ m, w.lane m = (s.readEnded c k (hear false marks)).lane m)
    (watch : w.watch = (s.readEnded c k (hear false marks)).watch) (some : told ≠ []) :
    ∃ t, Machine.exec (.readSlotEnd n marks) s = .next t ∧ (∀ d, t.cell d = w.cell d) ∧
      s.readCommits t n c k (hear false marks) asks told moved := by
  obtain ⟨here, running⟩ := readInFlight_running h.flight
  subst here
  have ended := readEnded_leaves s c k (hear false marks)
  have leaves : s.readLeaves (if asks then w.requestConfirm c else w) c k (hear false marks)
      ((s.lane c.lane).slotEnded c.slot asks) := by
    cases asks with
    | false => exact ⟨(lanes _).trans ended.lane, fun m other => (lanes m).trans (ended.others m other), watch⟩
    | true =>
      refine ⟨requestConfirm_slotEnded _ c _ running ?_, fun m other => ?_, ?_⟩
      · rw [lanes, ended.lane]
        simp [LaneUnit.slotEnded]
      · exact (requestConfirm_others other).trans ((lanes m).trans (ended.others m other))
      · simpa using watch
  obtain ⟨steady, goes, traced⟩ := leaves.finish (slotEnded_steady _ _ _)
  refine ⟨_, h.exec, ?_⟩
  rw [outcome, stepped]
  have quests := changes.quests
  have rest := changes.rest
  rw [if_neg some] at quests rest
  have asked : ∀ v : State, v = (if asks then w.requestConfirm c else w) →
      v.epoch = w.epoch ∧ v.quests = w.quests ∧ v.rest = w.rest ∧ v.play = w.play ∧ v.notices = w.notices ∧
        (∀ d, v.cell d = w.cell d) ∧ w.sameBut v [.lanes] := by
    rintro v rfl
    cases asks
    · exact ⟨rfl, rfl, rfl, rfl, rfl, fun _ => rfl, fun p _ => by cases p <;> rfl⟩
    · refine ⟨by simp, by simp, by simp, by simp, by simp, by simp, fun p hp => ?_⟩
      cases p <;> simp [Component.same] at hp ⊢
  generalize (if asks then w.requestConfirm c else w) = v at steady goes traced asked
  obtain ⟨epoch', quests', rest', play', notices', cells', same'⟩ := asked v rfl
  refine ⟨fun d => by simp [cells'], ?_, steady, goes, traced, finish_passFollows ?_, ?_, fun free => ?_, fun p hp => ?_⟩
  · simp [epoch', changes.epoch]
  · rw [(grant_frame _ _).2.2.2.2.2.2.2.2.2.2.1, quests', quests]
  · rw [(finish_frame _).2.1, (grant_frame _ _).2.1, rest', rest]
  · obtain ⟨play, notices⟩ := changes.quiet free
    simp [play', notices', play, notices]
  · have first := changes.same p
    have second := same' p
    cases p <;> simp [Component.same] at hp first second ⊢ <;> simp [first, second]

/-- A read that commits and asks for no CONFIRM. -/
theorem State.reads.commits_at {marks : List Mark} (h : s.reads n c k)
    (outcome : classify (hear false marks) (s.threshold c) = o)
    (stepped : (s.readEnded c k (hear false marks)).stepped c k o (hear false marks).amplitude = w)
    (changes : s.changes w told moved) (lanes : ∀ m, w.lane m = (s.readEnded c k (hear false marks)).lane m)
    (watch : w.watch = (s.readEnded c k (hear false marks)).watch) (some : told ≠ []) :
    ∃ t, Machine.exec (.readSlotEnd n marks) s = .next t ∧ (∀ d, t.cell d = w.cell d) ∧
      s.readCommits t n c k (hear false marks) false told moved :=
  h.commits outcome (stepped.trans (if_neg (by simp)).symm) changes lanes watch some

/-- A read that writes no cell but its own. -/
theorem State.reads.commits_still {marks : List Mark} (h : s.reads n c k)
    (outcome : classify (hear false marks) (s.threshold c) = o)
    (stepped : (s.readEnded c k (hear false marks)).stepped c k o (hear false marks).amplitude = w)
    (reaches : s.readTo w c k (hear false marks) q told moved) (some : told ≠ []) :
    ∃ t, Machine.exec (.readSlotEnd n marks) s = .next t ∧ (∀ d, t.cell d = if d = c then q else s.cell d) ∧
      s.readCommits t n c k (hear false marks) false told moved := by
  obtain ⟨t, run, cells, commits⟩ := h.commits_at outcome stepped reaches.changes reaches.lanes reaches.watch some
  exact ⟨t, run, fun d => (cells d).trans (reaches.cells d), commits⟩

/-- A single board change told with room in the queue is the last notice. -/
theorem committed_lastNotice (files : s.files b.class) (notices : t.notices = s.committed [b]) : t.lastNotice b :=
  lastNotice_congr (by rw [notices, committed_cons]; rfl) (commit_lastNotice files)

/-! ### A completed arrival (R44) -/

/-- The record of a cell with a tile seated on it, from the record it had. -/
def State.seatedOn (s : State) (c : CellId) (x : TileRead) (q : CellRec) : CellRec :=
  { q with state := .seated, incumbent := some (s.seatedTile c x), candidate := none, lift := 0, absent := 0 }

/-- A tile that no other cell holds is seated. -/
theorem State.readTo.arrives (h : s.readTo v c k raw q told []) (lone : s.otherHolder c cand.tile.serial = none) :
    s.readTo (v.completeArrival c cand) c k raw (s.seatedOn c cand.tile q) (told ++ [s.arrivalOf c cand.tile false]) [c] := by
  have seats : v.completeArrival c cand = v.seat c cand.tile false := by
    rw [State.completeArrival, h.otherHolder, lone]
  have changes := changes_seat v c cand.tile false
  rw [h.arrivalOf] at changes
  rw [seats]
  refine h.step changes (fun _ => by simp) (by simp) fun d => ?_
  rw [seat_cell]
  split
  · rw [State.seatedOn, ← h.seatedTile, State.seatedRecord, h.cell]
    rfl
  · rfl

/-- A tile that another cell holds makes a twin. -/
theorem State.readTo.becomesTwin (h : s.readTo v c k raw q told moved) (cand : Candidate) (holder : CellId) :
    s.readTo (v.becomeTwin c cand holder) c k raw (q.twinned cand)
      (told ++ [.twin ⟨c, s.position c⟩ cand.tile.serial holder]) moved := by
  have changes := changes_becomeTwin v c cand holder
  rw [h.position] at changes
  have steps := h.step changes (r := q.twinned cand) (fun _ => by simp) (by simp) fun d => by
    rw [becomeTwin_cell, h.cell]
  simpa using steps

theorem State.readTo.twins {holder : CellId} (h : s.readTo v c k raw q told moved)
    (held : s.otherHolder c cand.tile.serial = some holder) :
    s.readTo (v.completeArrival c cand) c k raw (q.twinned cand)
      (told ++ [.twin ⟨c, s.position c⟩ cand.tile.serial holder]) moved := by
  have twins : v.completeArrival c cand = v.becomeTwin c cand holder := by
    rw [State.completeArrival, h.otherHolder, held]
  rw [twins]
  exact h.becomesTwin cand holder

/-- The candidate read once more than arrive_n asks for (R44). -/
theorem stepped_arrives (cell : s.cell c = r) (state : r.state = .arriving) (candidate : r.candidate = some cand)
    (enough : s.sensing.arriveN ≤ cand.arrive + 1) :
    s.stepped c k (.good cand.tile) a =
      (s.setCell c
        { r with
          candidate := some { cand with arrive := cand.arrive + 1 }, absent := 0
          peak := nextPeak r.peak a }).completeArrival c { cand with arrive := cand.arrive + 1 } := by
  subst cell
  rw [stepped_good (by simp [state]) (by simp [state]), stepCell_arriving (by simpa using state) (by simpa using candidate)]
  simp [State.stepArriving, enough]

/-- One cell placed is one move (R95). -/
theorem playMoved_placed (placed : (s.position c).isSome = true) (turns : s.play.turns = true) :
    s.playMoved [c] = { s.play with moves := min 255 (s.play.moves + 1) } := by
  simp [State.playMoved, placed, turns]

end Sys2Proof.Machine

open Sys2Proof Sys2Proof.Machine

/-- Settles O29: the completed arrival is a seat where no other cell holds the serial, and a twin of its first holder otherwise. -/
theorem completedArrivalSeatsTheTile : Obligations.CompletedArrivalSeatsTheTile := by
  intro n c k marks code cand s running awake gate flight r raw peak heading state candidate enough decoded strong tile
  have reads : s.reads n c k := ⟨running, awake, gate, flight⟩
  have outcome : classify raw (s.threshold c) = .good cand.tile := by
    rw [tile]
    exact classify_good decoded strong
  have stepped := stepped_arrives (k := k) (a := raw.amplitude) (readEnded_cell s c k raw c) state candidate
    (by simpa using enough)
  let counted : Candidate := { cand with arrive := cand.arrive + 1 }
  have written := (readTo_ended s c k raw).write { r with candidate := some counted, absent := 0, peak := nextPeak r.peak raw.amplitude }
  cases held : s.otherHolder c cand.tile.serial with
  | none =>
    have lone := otherHolder_none held
    obtain ⟨t, run, cells, commits⟩ := reads.commits_still outcome stepped (written.arrives (cand := counted) held) (by simp)
    refine ⟨t, run, fun d other => by rw [cells, if_neg other], commits.epoch, commits.steady, commits.goes, commits.traced,
      commits.pass, commits.rest, fun _ => ⟨?_, fun still => ?_, fun placed turns endless => ?_⟩,
      fun d other holds => absurd (lone d other) (by simp [holds]), commits.same⟩
    · rw [cells, if_pos rfl]
      rfl
    · obtain ⟨play, notices⟩ := commits.quiet (still.symm.imp .inl fun unplaced => by simpa using unplaced)
      refine ⟨?_, notices, fun files => committed_lastNotice files notices⟩
      rcases still with unplaced | free
      · rw [play, playMoved_unplaced (by simpa using unplaced)]
      · rw [play, playMoved_free free]
    · rw [(commits.quiet (.inl (.inr endless))).1, playMoved_placed placed turns]
  | some holder =>
    obtain ⟨other, holds, first⟩ := otherHolder_iff.1 held
    obtain ⟨t, run, cells, commits⟩ := reads.commits_still outcome stepped (written.twins (cand := counted) held) (by simp)
    refine ⟨t, run, fun d other => by rw [cells, if_neg other], commits.epoch, commits.steady, commits.goes, commits.traced,
      commits.pass, commits.rest, fun lone => absurd (lone holder other) (by simp [holds]), fun d elsewhere also => ?_, commits.same⟩
    obtain ⟨play, notices⟩ := commits.quiet (.inr (by simp))
    refine ⟨?_, by rw [play, playMoved_unplaced (by simp)], fun lowest => ?_⟩
    · rw [cells, if_pos rfl]
      rfl
    · have named : holder = d := by
        have same : s.otherHolder c cand.tile.serial = some d := otherHolder_iff.2 ⟨elsewhere, also, lowest⟩
        exact Option.some.inj (held.symm.trans same)
      subst named
      exact ⟨notices, fun files => committed_lastNotice files notices⟩

end

section
/-!
Reads after which an incumbent has left the board: the first TWIN cell of its serial is promoted (R47, R53).
-/

namespace Sys2Proof.Machine

open Sys2Proof

variable {s t v w : State} {n : Lane} {c d : CellId} {k : SlotKind} {raw : RawResult} {o : Outcome} {a : Nat}
  {told : List NoticeBody} {moved : List CellId} {b : NoticeBody} {x tile : TileRead} {cand : Candidate} {q r : CellRec}
  {inc : Incumbent} {y : Serial}

/-! ### A promotion after a cell was written -/

/-- A cell written that is no twin of a serial before and after leaves the first TWIN cell of that serial. -/
theorem firstTwin_write (cells : ∀ d, v.cell d = if d = c then q else s.cell d) (before : (s.cell c).twinOf y = none)
    (after : q.twinOf y = none) : v.firstTwin y = s.firstTwin y := by
  refine firstTwin_congr fun d => ?_
  rw [cells]
  split
  case isTrue here => rw [here, before, after]
  case isFalse => rfl

/-- A serial without a TWIN cell promotes none. -/
theorem promote_none (none : v.firstTwin y = none) : v.promote y = v := by
  rw [State.promote, none]

/-- A serial with a TWIN cell seats the first. -/
theorem promote_some (first : v.firstTwin y = some (d, x)) : v.promote y = v.seat d x true := by
  rw [State.promote, first]

/-- The first TWIN cell of a serial is not a cell that is no twin of it. -/
theorem firstTwin_ne (first : s.firstTwin y = some (d, x)) (before : (s.cell c).twinOf y = none) : d ≠ c := by
  rintro rfl
  rw [firstTwin_twinOf first] at before
  cases before

/-- A read that commits and leaves no twin to promote, at the end of its event. -/
theorem State.reads.leaves {marks : List Mark} (h : s.reads n c k)
    (outcome : classify (hear false marks) (s.threshold c) = o)
    (stepped : (s.readEnded c k (hear false marks)).stepped c k o (hear false marks).amplitude = v.promote y)
    (reaches : s.readTo v c k (hear false marks) q told moved) (some : told ≠ [])
    (before : (s.cell c).twinOf y = none) (after : q.twinOf y = none) (lone : s.firstTwin y = none) :
    ∃ t, Machine.exec (.readSlotEnd n marks) s = .next t ∧ (∀ d, t.cell d = if d = c then q else s.cell d) ∧
      s.readCommits t n c k (hear false marks) false told moved := by
  rw [promote_none ((firstTwin_write reaches.cells before after).trans lone)] at stepped
  exact h.commits_still outcome stepped reaches some

/-- A read that commits and promotes the first TWIN cell of the serial that left, at the end of its event. -/
theorem State.reads.promotes {marks : List Mark} (h : s.reads n c k)
    (outcome : classify (hear false marks) (s.threshold c) = o)
    (stepped : (s.readEnded c k (hear false marks)).stepped c k o (hear false marks).amplitude = v.promote y)
    (reaches : s.readTo v c k (hear false marks) q told moved)
    (before : (s.cell c).twinOf y = none) (after : q.twinOf y = none) (first : s.firstTwin y = some (d, x)) :
    ∃ t, Machine.exec (.readSlotEnd n marks) s = .next t ∧ t.cell c = q ∧ (∀ e, e ≠ c → e ≠ d → t.cell e = s.cell e) ∧
      (∃ who, t.cell d = s.seatedRecord d x who ∧ (s.movesFreely ∨ moved = [] → who = s.play.current)) ∧
      s.readCommits t n c k (hear false marks) false (told ++ [s.promotedNotice d x]) (moved ++ [d]) := by
  have other : d ≠ c := firstTwin_ne first before
  rw [promote_some ((firstTwin_write reaches.cells before after).trans first)] at stepped
  have notice : v.arrivalOf d x true = s.promotedNotice d x := by
    rw [reaches.arrivalOf]
    rfl
  have changes := reaches.changes.trans (changes_seat v d x true)
  rw [notice] at changes
  obtain ⟨t, run, cell, commits⟩ := h.commits_at outcome stepped changes (fun m => by simp [reaches.lanes])
    (by simp [reaches.watch]) (by simp)
  simp only [seat_cell] at cell
  refine ⟨t, run, ?_, fun e off away => ?_, ⟨v.play.current, ?_, fun free => ?_⟩, commits⟩
  · rw [cell, if_neg other.symm, reaches.cell]
  · rw [cell, if_neg away, reaches.cells, if_neg off]
  · rw [cell, if_pos rfl]
    exact seatedRecord_congr x _ (by rw [reaches.cells, if_neg other]) reaches.plan
      (reaches.changes.same .roster (by simp)) reaches.changes.clock
  · rw [(reaches.changes.quiet (free.imp id fun none => by simp [none])).1]
    exact (playMoved_settings s moved).2.2.1

/-! ### A completed lift (R47) -/

/-- A cell written with a LIFT. -/
theorem State.readTo.lifts (h : s.readTo v c k raw q told moved) (r : CellRec) (y : Serial) (reason : LiftReason) :
    s.readTo ((v.setCell c r).commit (.lift (v.cellAt c) y reason)) c k raw r
      (told ++ [.lift ⟨c, s.position c⟩ y reason]) moved := by
  rw [State.cellAt, h.position]
  exact (h.write r).commit _

/-- A lift counted up to lift_n (R47). -/
theorem stepped_lifts (cell : s.cell c = r) (state : r.state = .lifting) (incumbent : r.incumbent = some inc)
    (enough : s.sensing.liftN ≤ r.lift + 1) :
    s.stepped c k .absent a =
      ((s.setCell c r.emptied).commit (.lift (s.cellAt c) inc.tile.serial .read)).promote inc.tile.serial := by
  subst cell
  rw [stepped_absent, stepCell_lifting state incumbent]
  exact if_pos enough

end Sys2Proof.Machine

open Sys2Proof Sys2Proof.Machine

/-- Settles O30: the completed lift is one board change, and the promotion of the first TWIN cell where there is one. -/
theorem completedLiftEmptiesTheCell : Obligations.CompletedLiftEmptiesTheCell := by
  refine ⟨fun n c k marks inc s running awake gate flight absent state incumbent enough => ?_, fun y d tile s => ?_⟩
  · have reads : s.reads n c k := ⟨running, awake, gate, flight⟩
    have outcome : classify (hear false marks) (s.threshold c) = .absent := classify_absent absent
    have stepped := stepped_lifts (k := k) (a := (hear false marks).amplitude) (readEnded_cell s c k (hear false marks) c) state incumbent (by simpa using enough)
    have lifted := (readTo_ended s c k (hear false marks)).lifts (s.cell c).emptied inc.tile.serial .read
    have before : (s.cell c).twinOf inc.tile.serial = none := twinOf_of_ne _ (by simp [state])
    have after : (s.cell c).emptied.twinOf inc.tile.serial = none := twinOf_of_ne _ (by simp [CellRec.emptied])
    cases heir : s.firstTwin inc.tile.serial with
    | none =>
      obtain ⟨t, run, cell, commits⟩ :=
        reads.leaves outcome stepped lifted (by simp) before after heir
      obtain ⟨play, notices⟩ := commits.quiet (.inr (by simp))
      refine ⟨t, run, by rw [cell, if_pos rfl]; rfl, commits.pass, commits.rest, commits.steady, commits.goes, commits.traced,
        fun _ => ⟨fun d other => by rw [cell, if_neg other], commits.epoch, by rw [play, playMoved_unplaced (by simp)], notices,
          fun files => committed_lastNotice files notices⟩,
        fun d cand other twin candidate serial => ?_, commits.same⟩
      exact absurd ⟨twin, cand, candidate, serial⟩ (twinOf_none_iff.1 (firstTwin_none_iff.1 heir d))
    | some found =>
      obtain ⟨d, x⟩ := found
      obtain ⟨twin, first⟩ := firstTwin_iff.1 heir
      obtain ⟨isTwin, cand, candidate, tile, serial⟩ := twinOf_iff.1 twin
      have other : d ≠ c := firstTwin_ne heir before
      obtain ⟨t, run, here, cell, ⟨who, seated, player⟩, commits⟩ :=
        reads.promotes outcome stepped lifted before after heir
      refine ⟨t, run, here, commits.pass, commits.rest, commits.steady, commits.goes, commits.traced,
        fun lone => absurd (tile ▸ serial) (lone d cand other isTwin candidate),
        fun e cand' off twin' candidate' serial' lowest => ?_, commits.same⟩
      have named : s.firstTwin inc.tile.serial = some (e, cand'.tile) := firstTwin_iff.2
        ⟨twinOf_iff.2 ⟨twin', cand', candidate', rfl, serial'⟩, fun g before => twinOf_none_iff.2
          fun ⟨isTwin, h, candidate, serial⟩ => lowest g h before isTwin candidate serial⟩
      rw [heir] at named
      cases named
      refine ⟨by rw [seated, player (.inr rfl)], cell, commits.epoch, fun free => ?_⟩
      exact commits.quiet (free.imp id fun unplaced => by simpa using unplaced)
  · intro twin
    refine ⟨?_, ?_⟩
    · rw [firstTwin_iff, twinOf_iff]
      simp only [twinOf_none_iff]
      refine ⟨fun ⟨⟨isTwin, k, candidate, same, serial⟩, first⟩ =>
          ⟨⟨isTwin, k, candidate, same ▸ serial⟩, ⟨k, candidate, same⟩, first⟩,
        fun ⟨⟨isTwin, k, candidate, serial⟩, ⟨k', candidate', same⟩, first⟩ => ⟨⟨isTwin, k', candidate', same, ?_⟩, first⟩⟩
      rw [candidate] at candidate'
      cases candidate'
      exact same ▸ serial
    · rw [firstTwin_none_iff]
      exact forall_congr' fun e => twinOf_none_iff

end

section
/-!
Reads of arriving, shifting, twin and suspect cells, and entries that complete at once (R43 to R48, R50): an equation for each.
-/

namespace Sys2Proof.Machine

open Sys2Proof

variable {s t v w : State} {n : Lane} {c d holder : CellId} {k : SlotKind} {raw : RawResult} {o : Outcome} {a : Nat}
  {told : List NoticeBody} {moved : List CellId} {b : NoticeBody} {x tile : TileRead} {cand : Candidate} {q r : CellRec}
  {inc : Incumbent} {y : Serial} {f : OutcomeKind}

/-! ### Short of a board change -/

/-- The candidate read again, short of completion (R44). -/
theorem stepped_arriving_counts (cell : s.cell c = r) (state : r.state = .arriving) (candidate : r.candidate = some cand)
    (more : cand.arrive + 1 < s.sensing.arriveN) :
    s.stepped c k (.good cand.tile) a =
      s.cellStep c true
        { r with candidate := some { cand with arrive := cand.arrive + 1 }, absent := 0, peak := nextPeak r.peak a } := by
  subst cell
  rw [stepped_good (by simp [state]) (by simp [state]), stepCell_arriving (by simpa using state) (by simpa using candidate)]
  simp [State.stepArriving, Nat.not_le.2 more, State.cellStep]

/-- The candidate read gone once (R44). -/
theorem stepped_arriving_misses (cell : s.cell c = r) (state : r.state = .arriving) (candidate : r.candidate = some cand)
    (once : r.absent = 0) : s.stepped c k .absent a = s.cellStep c true { r with absent := 1 } := by
  subst cell
  rw [stepped_absent, stepCell_arriving state candidate]
  simp [State.stepArriving, once, State.cellStep]

/-- The candidate read gone twice (R44). -/
theorem stepped_arriving_leaves (cell : s.cell c = r) (state : r.state = .arriving) (candidate : r.candidate = some cand)
    (again : 1 ≤ r.absent) : s.stepped c k .absent a = s.cellStep c false r.emptied := by
  subst cell
  rw [stepped_absent, stepCell_arriving state candidate]
  exact if_pos (Nat.succ_le_succ again)

/-- The candidate of a shift read again, short of completion (R46). -/
theorem stepped_shifting_counts (cell : s.cell c = r) (state : r.state = .shifting) (incumbent : r.incumbent = some inc)
    (candidate : r.candidate = some cand) (more : cand.arrive + 1 < s.sensing.arriveN) :
    s.stepped c k (.good cand.tile) a =
      s.cellStep c true
        { r with candidate := some { cand with arrive := cand.arrive + 1 }, peak := nextPeak r.peak a } := by
  subst cell
  rw [stepped_good (by simp [state]) (by simp [state]),
    stepCell_shifting (by simpa using state) (by simpa using incumbent) (by simpa using candidate)]
  simp [State.stepShifting, Nat.not_le.2 more, State.cellStep]

/-- The twin tile read again (R48). -/
theorem stepped_twin_stays (cell : s.cell c = r) (state : r.state = .twin) (candidate : r.candidate = some cand) :
    s.stepped c k (.good cand.tile) a = s.cellStep c false { r with lift := 0, peak := nextPeak r.peak a } := by
  subst cell
  rw [stepped_good (by simp [state]) (by simp [state]), stepCell_twin (by simpa using state) (by simpa using candidate)]
  simp [State.stepTwin, State.cellStep]

/-- The twin tile read gone, short of completion (R48). -/
theorem stepped_twin_counts (cell : s.cell c = r) (state : r.state = .twin) (candidate : r.candidate = some cand)
    (more : r.lift + 1 < s.sensing.liftN) : s.stepped c k .absent a = s.cellStep c false { r with lift := r.lift + 1 } := by
  subst cell
  rw [stepped_absent, stepCell_twin state candidate]
  exact if_neg (Nat.not_le.2 more)

/-- A SUSPECT cell's peak moves with a GOOD CONFIRM (assumption 32). -/
theorem stepped_suspect_confirm (cell : s.cell c = r) (state : r.state = .suspect) :
    s.stepped c .confirm (.good tile) a = s.cellStep c false { r with peak := nextPeak r.peak a } := by
  subst cell
  rw [stepped_good (by simp [state]) (by simp [state]), stepCell_suspect (by simpa using state)]
  rfl

/-- A faulty CONFIRM leaves a SUSPECT cell (R50). -/
theorem stepped_suspect_faulty_confirm (cell : s.cell c = r) (state : r.state = .suspect) :
    s.stepped c .confirm (.faulty f) a = s.cellStep c false r := by
  rw [stepped_faulty, stepCell_suspect (cell ▸ state)]
  exact cellStep_self cell

/-- A faulty SENSE read raises a SUSPECT cell's score (R50). -/
theorem stepped_suspect_faulty (cell : s.cell c = r) (state : r.state = .suspect) :
    s.stepped c .sense (.faulty f) a = s.cellStep c false { r with score := min 15 (r.score + 2) } := by
  subst cell
  rw [stepped_faulty, stepCell_suspect state]
  rfl

/-- A GOOD SENSE read lowers a SUSPECT cell's score (R50). -/
theorem stepped_suspect_lowers (cell : s.cell c = r) (state : r.state = .suspect) (high : 4 < r.score - 1) :
    s.stepped c .sense (.good tile) a =
      s.cellStep c false { r with score := r.score - 1, lift := 0, peak := nextPeak r.peak a } := by
  subst cell
  rw [stepped_good (by simp [state]) (by simp [state]), stepCell_suspect (by simpa using state)]
  simp [State.stepSuspect, Nat.not_le.2 high, State.cellStep]

/-- A SUSPECT cell without a tile reads as gone (R50). -/
theorem stepped_suspect_empty (cell : s.cell c = r) (state : r.state = .suspect) (empty : r.incumbent = none) :
    s.stepped c k .absent a = s.cellStep c false r := by
  have still : s.stepped c k .absent a = s := by
    rw [stepped_absent, stepCell_suspect (cell ▸ state), State.stepSuspect, cell, empty]
  rw [still]
  exact cellStep_self cell

/-- A SUSPECT cell's tile read gone, short of completion (R50). -/
theorem stepped_suspect_counts (cell : s.cell c = r) (state : r.state = .suspect) (incumbent : r.incumbent = some inc)
    (more : r.lift + 1 < s.sensing.liftN) : s.stepped c k .absent a = s.cellStep c false { r with lift := r.lift + 1 } := by
  subst cell
  rw [stepped_absent, stepCell_suspect state]
  simp [State.stepSuspect, incumbent, Nat.not_le.2 more, State.cellStep]

/-- HELD and RETIRED cells are left as they are. -/
theorem stepped_still_self (cell : s.cell c = r) (state : r.state = .held ∨ r.state = .retired) :
    s.stepped c k o a = s.cellStep c false r := by
  rw [stepped_still (cell ▸ state)]
  exact cellStep_self cell

/-! ### With a board change -/

/-- A twin tile read gone at lift_n leaves with TWIN_END (R48). -/
theorem stepped_twin_leaves (cell : s.cell c = r) (state : r.state = .twin) (candidate : r.candidate = some cand)
    (enough : s.sensing.liftN ≤ r.lift + 1) :
    s.stepped c k .absent a = (s.setCell c r.emptied).commit (.twinEnd (s.cellAt c) cand.tile.serial .read) := by
  subst cell
  rw [stepped_absent, stepCell_twin state candidate]
  exact if_pos enough

/-- A SUSPECT cell's tile read gone at lift_n (R50). -/
theorem stepped_suspect_lifts (cell : s.cell c = r) (state : r.state = .suspect) (incumbent : r.incumbent = some inc)
    (enough : s.sensing.liftN ≤ r.lift + 1) :
    s.stepped c k .absent a =
      ((s.setCell c { r with incumbent := none, lift := 0 }).commit (.lift (s.cellAt c) inc.tile.serial .read)).promote
        inc.tile.serial := by
  subst cell
  rw [stepped_absent, stepCell_suspect state, State.stepSuspect, incumbent]
  exact if_pos enough

/-- A tile read gone where lift_n is 1 (R45 to R47). -/
theorem stepped_gone_lifts (cell : s.cell c = r) (h : r.state = .seated ∨ r.state = .shifting ∧ r.candidate.isSome = true)
    (incumbent : r.incumbent = some inc) (enough : s.sensing.liftN ≤ 1) :
    s.stepped c k .absent a =
      ((s.setCell c r.emptied).commit (.lift (s.cellAt c) inc.tile.serial .read)).promote inc.tile.serial := by
  subst cell
  rw [stepped_gone h incumbent, State.enterLifting]
  simp only [enough, if_true, State.liftRead, setCell_cell_same, setCell_setCell]
  rfl

/-- A new candidate seated at once, or a twin at once (R43, R44). -/
theorem stepped_arriving_completes (cell : s.cell c = r) (h : r.unseated tile) (enough : s.sensing.arriveN ≤ 1) :
    s.stepped c k (.good tile) a =
      (s.setCell c
        { r with
          state := .arriving, incumbent := none, candidate := some { tile := tile, arrive := 1 }, lift := 0, absent := 0
          peak := nextPeak r.peak a }).completeArrival c { tile := tile, arrive := 1 } := by
  subst cell
  rw [stepped_arriving h, State.enterArriving]
  simp [enough]

/-- Another tile on a TWIN cell ends the twin first (R48). -/
theorem stepped_twin_ends (cell : s.cell c = r) (state : r.state = .twin) (candidate : r.candidate = some cand)
    (differ : tile ≠ cand.tile) :
    s.stepped c k (.good tile) a =
      (((s.setCell c { r with peak := nextPeak r.peak a }).commit
        (.twinEnd (s.cellAt c) cand.tile.serial .read)).enterArriving c tile) := by
  subst cell
  rw [stepped_good (by simp [state]) (by simp [state]), stepCell_twin (by simpa using state) (by simpa using candidate)]
  exact if_neg differ

/-- Another tile over an incumbent where arrive_n is 1 (R45 to R47). -/
theorem stepped_shifting_completes (cell : s.cell c = r) (h : r.covered inc tile) (differ : tile ≠ inc.tile)
    (enough : s.sensing.arriveN ≤ 1) :
    s.stepped c k (.good tile) a =
      (s.setCell c
        { r with
          state := .shifting, candidate := some { tile := tile, arrive := 1 }, lift := 0
          peak := nextPeak r.peak a }).completeShift c inc { tile := tile, arrive := 1 } a := by
  subst cell
  rw [stepped_covered h, if_neg differ, State.enterShifting]
  simp [enough]

/-- The candidate of a shift read up to arrive_n (R46). -/
theorem stepped_shifts (cell : s.cell c = r) (state : r.state = .shifting) (incumbent : r.incumbent = some inc)
    (candidate : r.candidate = some cand) (enough : s.sensing.arriveN ≤ cand.arrive + 1) :
    s.stepped c k (.good cand.tile) a =
      (s.setCell c
        { r with
          candidate := some { cand with arrive := cand.arrive + 1 }
          peak := nextPeak r.peak a }).completeShift c inc { cand with arrive := cand.arrive + 1 } a := by
  subst cell
  rw [stepped_good (by simp [state]) (by simp [state]),
    stepCell_shifting (by simpa using state) (by simpa using incumbent) (by simpa using candidate)]
  simp [State.stepShifting, enough]

/-! ### A completed shift (R46) -/

/-- The record of a cell whose tile was turned or changed its pad, the owner and the player kept (assumption 17). -/
def State.rotatedOn (s : State) (c : CellId) (inc : Incumbent) (x : TileRead) (q : CellRec) : CellRec :=
  { q with
    state := .seated, candidate := none
    incumbent :=
      some { inc with tile := x, facing := s.facingOf c.lane x.pad, counting := (s.roster.verdict x.serial x.edition).1 } }

/-- The same tile shifted is a ROTATE. -/
theorem State.readTo.rotates (h : s.readTo v c k raw q told moved) (same : cand.tile.serial = inc.tile.serial) :
    s.readTo (v.completeShift c inc cand a) c k raw (s.rotatedOn c inc cand.tile q)
      (told ++ [.rotate ⟨c, s.position c⟩ cand.tile (s.facingOf c.lane cand.tile.pad)]) moved := by
  have rotates : v.completeShift c inc cand a =
      (v.setCell c (s.rotatedOn c inc cand.tile q)).commit
        (.rotate ⟨c, s.position c⟩ cand.tile (s.facingOf c.lane cand.tile.pad)) := by
    have facing : v.facingOf = s.facingOf := by
      funext m p
      simp only [State.facingOf, State.heading, h.plan]
    have roster : v.roster = s.roster := h.changes.same .roster (by simp)
    simp only [State.completeShift, if_pos same, h.cell, facing, roster, State.cellAt]
    rw [show (v.setCell c _).position c = s.position c from congrFun h.position c]
    rfl
  rw [rotates]
  exact (h.write _).commit _

/-- The record of a cell whose tile was swapped for another, the peak that of the read. -/
def State.swappedOn (s : State) (c : CellId) (x : TileRead) (a : Nat) (q : CellRec) : CellRec :=
  { q with state := .seated, incumbent := some (s.seatedTile c x), candidate := none, peak := a }

/-- Another tile, which no other cell holds, is a SWAP with its move. -/
theorem State.readTo.swaps (h : s.readTo v c k raw q told []) (differ : cand.tile.serial ≠ inc.tile.serial)
    (lone : s.otherHolder c cand.tile.serial = none) :
    ∃ w, v.completeShift c inc cand a = w.promote inc.tile.serial ∧
      s.readTo w c k raw (s.swappedOn c cand.tile a q)
        (told ++ [.swap ⟨c, s.position c⟩ cand.tile (s.facingOf c.lane cand.tile.pad)]) [c] := by
  refine ⟨((v.setCell c (s.swappedOn c cand.tile a q)).commit
    (.swap ⟨c, s.position c⟩ cand.tile (s.facingOf c.lane cand.tile.pad))).reportMove c, ?_, ?_⟩
  · have record : v.seatedTile c cand.tile = s.seatedTile c cand.tile := by rw [h.seatedTile]
    simp only [State.completeShift, if_neg differ, h.otherHolder, lone, h.cell, record, State.cellAt]
    rw [show (v.setCell c _).position c = s.position c from congrFun h.position c]
    rfl
  · have written := (h.write (s.swappedOn c cand.tile a q)).commit
      (.swap ⟨c, s.position c⟩ cand.tile (s.facingOf c.lane cand.tile.pad))
    simpa using written.step (changes_reportMove _ c) (fun _ => by simp) (by simp) fun d => by
      rw [(reportMove_frame _ _).2.2.2.2.2.2.2.2.2.2.2.2.2.2.2.1, written.cells]
      split <;> rfl

/-- Another tile, which another cell holds, displaces the incumbent and makes a twin. -/
theorem State.readTo.displaces (h : s.readTo v c k raw q told moved) (differ : cand.tile.serial ≠ inc.tile.serial)
    (held : s.otherHolder c cand.tile.serial = some holder) :
    ∃ w, v.completeShift c inc cand a = w.promote inc.tile.serial ∧
      s.readTo w c k raw (q.twinned cand)
        (told ++ [.lift ⟨c, s.position c⟩ inc.tile.serial .displaced, .twin ⟨c, s.position c⟩ cand.tile.serial holder])
        moved := by
  refine ⟨((v.setCell c { q with incumbent := none }).commit
    (.lift (v.cellAt c) inc.tile.serial .displaced)).becomeTwin c cand holder, ?_, ?_⟩
  · simp only [State.completeShift, if_neg differ, h.otherHolder, held, h.cell]
    rfl
  · have twinned := (h.lifts { q with incumbent := none } inc.tile.serial .displaced).becomesTwin cand holder
    rw [List.append_assoc] at twinned
    exact twinned

end Sys2Proof.Machine
end

section
/-!
Retirement (R51): the notices and board changes that come first, the lamp that goes dark, the scan that may have no cell left, and the promotion.
-/

namespace Sys2Proof.Machine

open Sys2Proof

variable {s t u v w : State} {n m : Lane} {c d : CellId} {auto : Bool} {told : List NoticeBody} {x : TileRead} {q : CellRec}
  {y : Serial}

/-! ### Drives of cells that come to be RETIRED or cease to be (R135, R136) -/

/-- Of a cell's record its effective setting reads only whether the cell is RETIRED. -/
theorem effective_retired (cell : (t.cell c).state = .retired ↔ (s.cell c).state = .retired) (plan : t.plan = s.plan)
    (host : t.lamps.host = s.lamps.host) (hints : t.lamps.hints = s.lamps.hints) (flashes : t.lamps.flashes = s.lamps.flashes)
    (part : t.rest.part = s.rest.part) : t.effective c = s.effective c := by
  have shown : t.hostSetting c = s.hostSetting c := by simp only [State.hostSetting, host]
  have layer : t.questLayer c = s.questLayer c := by
    have position : t.position c = s.position c := by simp only [State.position, plan]
    have flash : t.lamps.flashAt = s.lamps.flashAt := by funext b; simp only [LampUnit.flashAt, flashes]
    have hint : t.lamps.hintAt = s.lamps.hintAt := by funext b; simp only [LampUnit.hintAt, hints]
    by_cases retired : (s.cell c).state = .retired
    · simp [State.questLayer, retired, cell.2 retired]
    · simp [State.questLayer, retired, mt cell.1 retired, position, flash, hint]
  by_cases retired : (s.cell c).state = .retired
  · simp [State.effective, retired, cell.2 retired]
  · simp [State.effective, retired, mt cell.1 retired, part, shown, layer]

/-- So do the drives. -/
theorem laneDrive_retired (cells : ∀ c, (t.cell c).state = .retired ↔ (s.cell c).state = .retired) (plan : t.plan = s.plan)
    (lamps : t.lamps = s.lamps) (part : t.rest.part = s.rest.part) : t.laneDrive n = s.laneDrive n := by
  have effective : ∀ c, t.effective c = s.effective c := fun c =>
    effective_retired (cells c) plan (by rw [lamps]) (by rw [lamps]) (by rw [lamps]) part
  unfold State.laneDrive State.drive
  simp only [effective, lamps]

/-- The lamp of a RETIRED cell is OFF. -/
theorem drive_retired (retired : (s.cell c).state = .retired) : s.drive c = .off := by
  simp [State.drive, State.effective, retired, driveOf]

/-- Lanes with the same drives have the same drive on each cell. -/
theorem drive_of_laneDrive (same : s.laneDrive c.lane = t.laneDrive c.lane) : s.drive c = t.drive c := by
  have entry := congrArg (Table.read · c.slot) same
  simpa [State.laneDrive, Table.read] using entry

/-- A cell written that is RETIRED before or after marks its lane stale exactly where a drive has changed in the end, the guard's move included. -/
theorem lampEvent_setCell_lane (retired : (s.cell c).state = .retired ∨ q.state = .retired) (m : Lane) :
    (s.lampEvent fun u => u.setCell c q).lane m =
      { s.lane m with
        stale := (s.lane m).stale || decide (s.laneDrive m ≠ (s.lampEvent fun u => u.setCell c q).laneDrive m) } := by
  rw [lampEvent_lane_stale]
  obtain ⟨g, lamps⟩ := lampEvent_lamps s fun u => u.setCell c q
  have frame := lampEvent_frame s fun u => u.setCell c q
  generalize (s.lampEvent fun u => u.setCell c q) = w at lamps frame
  have cells : ∀ d, w.cell d = (s.setCell c q).cell d := frame.2.2.2.2.2.2.2.2.2.2.2.2.2.2.1
  have off : ∀ d, w.drive d = .off ↔ (s.setCell c q).drive d = .off := fun d => by
    have effective : w.effective d = (s.setCell c q).effective d := by
      refine effective_retired (by rw [cells]) frame.2.2.1 ?_ ?_ ?_ (by rw [frame.2.1]) <;> rw [lamps]
    have phase : w.lamps.phaseOn = (s.setCell c q).lamps.phaseOn := by rw [lamps]
    rw [State.drive, State.drive, effective, phase]
    exact driveOf_off ..
  by_cases still : s.laneDrive m = (s.setCell c q).laneDrive m
  · simp [still]
  · have differ : s.laneDrive m ≠ w.laneDrive m := fun same => by
      have here : m = c.lane ∧ s.drive c ≠ (s.setCell c q).drive c := by
        refine Classical.by_contradiction fun none => still ?_
        unfold State.laneDrive
        congr 1
        funext i
        by_cases e : (⟨m, i⟩ : CellId) = c
        · refine Classical.not_not.1 fun differ => none ⟨by rw [← e], ?_⟩
          subst e
          exact differ
        · have effective : (s.setCell c q).effective ⟨m, i⟩ = s.effective ⟨m, i⟩ :=
            effective_retired (by rw [setCell_cell_ne _ _ e]) rfl rfl rfl rfl rfl
          rw [State.drive, State.drive, effective]
          rfl
      obtain ⟨rfl, differ⟩ := here
      have final : s.drive c = w.drive c := drive_of_laneDrive same
      rcases retired with before | after
      · have dark := drive_retired before
        exact differ (dark.trans ((off c).1 (final ▸ dark)).symm)
      · have dark : (s.setCell c q).drive c = .off := drive_retired (by simpa using after)
        exact differ (final.trans (((off c).2 dark).trans dark.symm))
    simp [still, differ]

/-! ### A scan with no cell left (R30, R31; assumption 22) -/

/-- A sweep has no cell left where every cell from where it stands on is RETIRED. -/
theorem sweep_sweptiff {sweep : Option Slot} :
    (sweep.bind fun i => s.sweepFrom n i.val) = none ↔
      ∀ i : Slot, (∃ j, sweep = some j ∧ j ≤ i) → (s.cell ⟨n, i⟩).state = .retired := by
  cases sweep with
  | none => simp
  | some j =>
    simp only [Option.bind_some, State.sweepFrom, List.find?_eq_none, List.mem_finRange, true_imp_iff, Bool.and_eq_true,
      decide_eq_true_eq, State.readable, not_and, not_not, Option.some.injEq, exists_eq_left']
    exact Iff.rfl

theorem allRetired_iff : s.allRetired n = true ↔ ∀ i : Slot, (s.cell ⟨n, i⟩).state = .retired := by
  simp [State.allRetired, laneCells]

/-- A lane before its scan stops has the drives and the RETIRED cells of the end of the event. -/
theorem stopDeadScan_lane {v : LaneUnit} (lane : u.lane n = { v with stale := v.stale || decide (s.laneDrive n ≠ u.laneDrive n) }) :
    (u.stopDeadScan n).lane n = s.laneRetires u n v := by
  unfold State.stopDeadScan State.laneRetires
  dsimp only
  rw [lane]
  by_cases all : ∀ i : Slot, (u.cell ⟨n, i⟩).state = .retired
  · rw [if_pos (allRetired_iff.2 all), if_pos all, setLane_lane_same]
  · rw [if_neg (mt allRetired_iff.1 all), if_neg all]
    by_cases swept : v.mode = .sweep ∧ v.waiting = true ∧
        ∀ i : Slot, (∃ j, v.sweep = some j ∧ j ≤ i) → (u.cell ⟨n, i⟩).state = .retired
    · obtain ⟨mode, waiting, none_left⟩ := swept
      rw [if_pos ⟨mode, waiting, sweep_sweptiff.2 none_left⟩, if_pos ⟨mode, waiting, none_left⟩, setLane_lane_same]
    · rw [if_neg swept, if_neg fun ⟨mode, waiting, none_left⟩ => swept ⟨mode, waiting, sweep_sweptiff.1 none_left⟩, lane]

/-- Other lanes go on. -/
theorem stopDeadScan_others (other : m ≠ n) : (u.stopDeadScan n).lane m = u.lane m := by
  unfold State.stopDeadScan
  dsimp only
  split
  · exact setLane_lane_ne _ _ other
  · split
    · exact setLane_lane_ne _ _ other
    · rfl

/-- What a retirement makes of a lane turns on the drives and the RETIRED cells it leaves. -/
theorem laneRetires_congr {v : LaneUnit} (drive : w.laneDrive n = u.laneDrive n)
    (cells : ∀ i, (w.cell ⟨n, i⟩).state = .retired ↔ (u.cell ⟨n, i⟩).state = .retired) :
    s.laneRetires w n v = s.laneRetires u n v := by
  simp only [State.laneRetires, drive, cells]

/-- A retirement leaves its lane steady. -/
theorem laneRetires_steady (v : LaneUnit) : v.steady (s.laneRetires t n v) := by
  unfold State.laneRetires
  dsimp only
  split
  · simp [LaneUnit.steady]
  · split <;> simp [LaneUnit.steady]

/-! ### The retirement in its steps -/

/-- The board changes of a retirement: the LIFT of the cell's tile, and the end of its twin (R51 steps 2 and 3). -/
def State.leavings (s : State) (c : CellId) : List NoticeBody :=
  ((s.cell c).incumbent.map fun i => .lift ⟨c, s.position c⟩ i.tile.serial .retired).toList ++
    match (s.cell c).state, (s.cell c).candidate with
    | .twin, some k => [.twinEnd ⟨c, s.position c⟩ k.tile.serial .retired]
    | _, _ => []

/-- The retired record of a cell (R51 steps 4 and 5). -/
def CellRec.retiree (r : CellRec) : CellRec := { r.emptied with state := .retired }

/-- The incumbent lifted, if the record `r` has one (R51 step 2). -/
def State.liftRetired (s : State) (c : CellId) (r : CellRec) : State :=
  match r.incumbent with
  | some t => (s.setCell c { s.cell c with incumbent := none }).commit (.lift (s.cellAt c) t.tile.serial .retired)
  | none => s

/-- The twin ended, if the record `r` is one (R51 step 3). -/
def State.endTwin (s : State) (c : CellId) (r : CellRec) : State :=
  match r.state, r.candidate with
  | .twin, some t => s.commit (.twinEnd (s.cellAt c) t.tile.serial .retired)
  | _, _ => s

/-- Steps 4 to 6: the cell RETIRED, its lamp dark, a scan with no cell left stopped, a pass wanted. -/
def State.closeCell (s : State) (c : CellId) : State :=
  ((s.lampEvent fun u => u.setCell c { (u.cell c).emptied with state := .retired }).stopDeadScan c.lane).wantPass

/-- Steps 1 to 6. -/
def State.retireOwn (s : State) (c : CellId) (auto : Bool) : State :=
  (((s.notify (.retired (s.cellAt c) auto (s.cell c).entries)).liftRetired c (s.cell c)).endTwin c (s.cell c)).closeCell c

/-- A retirement is its own steps, then the promotion for the tile that left (R51). -/
theorem retire_eq (s : State) (c : CellId) (auto : Bool) :
    s.retire c auto =
      match (s.cell c).incumbent with
      | some t => (s.retireOwn c auto).promote t.tile.serial
      | none => s.retireOwn c auto := rfl

/-- A retirement's steps up to the promotion. -/
structure State.retiresTo (s w : State) (c : CellId) (auto : Bool) : Prop where
  cells : ∀ d, w.cell d = if d = c then (s.cell c).retiree else s.cell d
  epoch : w.epoch = s.epoch + BitVec.ofNat 16 (s.leavings c).length
  quests : w.quests = s.wantPass.quests
  rest : w.rest = if s.leavings c = [] then s.rest else s.reportActivity.rest
  play : w.play = s.play
  lamps : w.lamps = { s.lamps with guard := w.lamps.guard }
  notices : w.lamps.guard = s.lamps.guard →
    w.notices = (s.notify (.retired ⟨c, s.position c⟩ auto (s.cell c).entries)).committed (s.leavings c)
  lane : w.lane c.lane = s.laneRetires w c.lane (s.lane c.lane)
  others : ∀ m, m ≠ c.lane → (s.lane m).steady (w.lane m)
  same : s.sameBut w [.cells, .epoch, .quests, .rest, .lamps, .notices, .lanes]

/-- What the board changes of a retirement leave: all but the cell's own incumbent, and that apart the record. -/
theorem retires_changes (s : State) (c : CellId) :
    let u := (s.liftRetired c (s.cell c)).endTwin c (s.cell c)
    s.changes u (s.leavings c) [] ∧ (∀ d, d ≠ c → u.cell d = s.cell d) ∧ (u.cell c).emptied = (s.cell c).emptied ∧
      (u.cell c).state = (s.cell c).state ∧ (∀ m, u.lane m = s.lane m) ∧ u.watch = s.watch := by
  have lifts : s.changes (s.liftRetired c (s.cell c))
        ((s.cell c).incumbent.map fun i => NoticeBody.lift ⟨c, s.position c⟩ i.tile.serial .retired).toList [] ∧
      (∀ d, d ≠ c → (s.liftRetired c (s.cell c)).cell d = s.cell d) ∧
      ((s.liftRetired c (s.cell c)).cell c).emptied = (s.cell c).emptied ∧
      ((s.liftRetired c (s.cell c)).cell c).state = (s.cell c).state ∧
      (∀ m, (s.liftRetired c (s.cell c)).lane m = s.lane m) ∧ (s.liftRetired c (s.cell c)).watch = s.watch := by
    unfold State.liftRetired
    cases (s.cell c).incumbent with
    | none =>
      refine ⟨?_, fun _ _ => rfl, rfl, rfl, fun _ => rfl, rfl⟩
      simpa using changes_setCell s c (s.cell c)
    | some t =>
      exact ⟨(changes_setCell s c _).trans (changes_commit _ _), fun d other => by simp [setCell_cell_ne _ _ other],
        by simp [CellRec.emptied], by simp, fun m => by simp, by simp⟩
  dsimp only
  obtain ⟨changes, others, own, state, lanes, watch⟩ := lifts
  generalize s.liftRetired c (s.cell c) = v at changes others own state lanes watch
  have place : v.cellAt c = ⟨c, s.position c⟩ := by
    rw [State.cellAt, State.position, changes.plan]
    rfl
  have ends : v.changes (v.endTwin c (s.cell c))
        (match (s.cell c).state, (s.cell c).candidate with
          | .twin, some k => [.twinEnd ⟨c, s.position c⟩ k.tile.serial .retired]
          | _, _ => []) [] ∧
      (∀ d, (v.endTwin c (s.cell c)).cell d = v.cell d) ∧ (∀ m, (v.endTwin c (s.cell c)).lane m = v.lane m) ∧
      (v.endTwin c (s.cell c)).watch = v.watch := by
    unfold State.endTwin
    rw [place]
    split
    · exact ⟨changes_commit _ _, fun d => by simp, fun m => by simp, by simp⟩
    · refine ⟨?_, fun _ => rfl, fun _ => rfl, rfl⟩
      simpa using changes_setCell v c (v.cell c)
  obtain ⟨changes', cells', lanes', watch'⟩ := ends
  exact ⟨changes.trans changes', fun d other => (cells' d).trans (others d other), by rw [cells', own], by rw [cells', state],
    fun m => (lanes' m).trans (lanes m), watch'.trans watch⟩

end Sys2Proof.Machine
end

section
/-!
What a retirement leaves before and after its promotion, and RETIRE_CELL and REINSTATE_CELL (R51 to R53).
-/

namespace Sys2Proof.Machine

open Sys2Proof

variable {s t u v w : State} {n m : Lane} {c d : CellId} {auto : Bool} {told : List NoticeBody} {x : TileRead} {q r : CellRec}
  {y : Serial}

/-- The close of a cell, its record given. -/
theorem closeCell_eq (own : (u.cell c).emptied = r.emptied) :
    u.closeCell c = ((u.lampEvent fun u => u.setCell c r.retiree).stopDeadScan c.lane).wantPass := by
  simp only [State.closeCell, State.lampEvent, own]
  rfl

/-- A cell RETIRED at the lamps, of a state whose lanes and drives are those of `s`. -/
theorem closeCell_lanes (own : (u.cell c).emptied = r.emptied) (lanes : ∀ m, u.lane m = s.lane m)
    (drives : ∀ m, u.laneDrive m = s.laneDrive m) :
    (u.closeCell c).lane c.lane = s.laneRetires (u.closeCell c) c.lane (s.lane c.lane) ∧
      ∀ m, m ≠ c.lane → (s.lane m).steady ((u.closeCell c).lane m) := by
  rw [closeCell_eq own]
  have marked := lampEvent_setCell_lane (s := u) (c := c) (q := r.retiree) (.inr rfl)
  generalize (u.lampEvent fun u => u.setCell c r.retiree) = v at marked
  have after : ∀ m, ((v.stopDeadScan c.lane).wantPass).lane m = (v.stopDeadScan c.lane).lane m := fun _ => rfl
  refine ⟨?_, fun m other => ?_⟩
  · rw [after, stopDeadScan_lane (s := s) (v := s.lane c.lane) (by rw [marked, lanes, drives])]
    exact (laneRetires_congr (laneDrive_congr (by simp) (by simp) (by simp) (by simp)) fun i => by simp).symm
  · rw [after, stopDeadScan_others other, marked, lanes]
    simp [LaneUnit.steady]

/-- The lamps and the notices after a cell was RETIRED. -/
theorem closeCell_lamps (own : (u.cell c).emptied = r.emptied) :
    (u.closeCell c).lamps = { u.lamps with guard := (u.closeCell c).lamps.guard } ∧
      ((u.closeCell c).lamps.guard = u.lamps.guard → (u.closeCell c).notices = u.notices) := by
  rw [closeCell_eq own]
  have alone : u.guardAlone (u.lampEvent fun u => u.setCell c r.retiree) := lampEvent_guardAlone rfl rfl
  generalize (u.lampEvent fun u => u.setCell c r.retiree) = v at alone
  simpa [State.guardAlone] using alone

/-- The cells after a cell was RETIRED, and what the close leaves alone. -/
theorem closeCell_frame (own : (u.cell c).emptied = r.emptied) :
    (∀ d, (u.closeCell c).cell d = if d = c then r.retiree else u.cell d) ∧
      (u.closeCell c).quests = u.wantPass.quests ∧ u.sameBut (u.closeCell c) [.cells, .quests, .lamps, .notices, .lanes] := by
  rw [closeCell_eq own]
  refine ⟨fun d => by simp [setCell_cell], by simp [State.wantPass], fun p hp => ?_⟩
  cases p <;> simp [Component.same] at hp ⊢

/-- Board changes leave the part state. -/
theorem State.changes.part {moved : List CellId} (h : s.changes w told moved) : w.rest.part = s.rest.part := by
  rw [h.rest]
  split
  · rfl
  · exact reportActivity_part s

/-- A retirement's own steps. -/
theorem retireOwn_retiresTo (s : State) (c : CellId) (auto : Bool) : s.retiresTo (s.retireOwn c auto) c auto := by
  unfold State.retireOwn
  have notified : ∀ v : State, v = s.notify (.retired ⟨c, s.position c⟩ auto (s.cell c).entries) →
      v.cell c = s.cell c ∧ v.leavings c = s.leavings c ∧ s.sameBut v [.notices] := by
    rintro v rfl
    refine ⟨by simp, by simp [State.leavings, State.position], fun p hp => ?_⟩
    cases p <;> simp [Component.same] at hp ⊢
  show s.retiresTo ((((s.notify (.retired ⟨c, s.position c⟩ auto (s.cell c).entries)).liftRetired c (s.cell c)).endTwin c
    (s.cell c)).closeCell c) c auto
  obtain ⟨cell, leavings, still⟩ := notified _ rfl
  generalize ht : s.notify (.retired ⟨c, s.position c⟩ auto (s.cell c).entries) = v at cell leavings still
  obtain ⟨changes, others, own, state, lanes, watch⟩ := retires_changes v c
  rw [cell] at changes others own state lanes watch
  rw [leavings] at changes
  generalize (v.liftRetired c (s.cell c)).endTwin c (s.cell c) = u at changes others own state lanes watch
  have cells : ∀ d, v.cell d = s.cell d := fun d => congrArg (fun l => Table.read (Table.read l d.lane) d.slot) (still .cells (by simp))
  have rest : v.rest = s.rest := still .rest (by simp)
  have lamps : u.lamps = s.lamps := (changes.same .lamps (by simp)).trans (still .lamps (by simp))
  have play : u.play = s.play := by
    rw [(changes.quiet (.inr (by simp))).1, playMoved_unplaced (by simp)]
    exact still .play (by simp)
  have lanes : ∀ m, u.lane m = s.lane m := fun m =>
    (lanes m).trans (congrArg (Table.read · m) (still .lanes (by simp)))
  have drives : ∀ m, u.laneDrive m = s.laneDrive m := fun m => by
    refine laneDrive_retired (fun d => ?_) (changes.plan.trans (still .plan (by simp))) lamps (by rw [changes.part, rest])
    by_cases here : d = c
    · rw [here, state]
    · rw [others d here, cells]
  obtain ⟨closed, quests, same⟩ := closeCell_frame own
  obtain ⟨dark, silent⟩ := closeCell_lamps own
  obtain ⟨lane, beside⟩ := closeCell_lanes own lanes drives
  generalize u.closeCell c = w at closed quests same dark silent lane beside
  have wants : v.wantPass.quests = s.wantPass.quests := by
    rw [State.wantPass, State.wantPass]
    exact congrArg (fun q : QuestEngine => { q with passWanted := true }) (still .quests (by simp))
  refine ⟨fun d => ?_, ?_, ?_, ?_, (same .play (by simp)).trans play, by rw [dark, lamps], fun unmoved => ?_, lane, beside,
    fun p hp => ?_⟩
  · rw [closed]
    split
    · rfl
    case isFalse other => rw [others d other, cells]
  · rw [same .epoch (by simp), changes.epoch, still .epoch (by simp)]
  · rw [quests, ← wants, State.wantPass, State.wantPass, changes.quests]
    split <;> rfl
  · rw [same .rest (by simp), changes.rest, rest, reportActivity_rest_congr rest]
  · rw [silent (by rw [lamps, unmoved]), (changes.quiet (.inr (by simp))).2, ht]
  · have first := still p
    have second := changes.same p
    have third := same p
    cases p <;> simp [Component.same] at hp first second third ⊢ <;> simp [first, second, third, play, watch]

/-! ### With the promotion -/

/-- A retirement with no twin to promote is its own steps. -/
theorem retire_lone (lone : ∀ i, (s.cell c).incumbent = some i → s.firstTwin i.tile.serial = none)
    (single : (s.cell c).state ≠ .twin ∨ (s.cell c).incumbent = none) : s.retiresTo (s.retire c auto) c auto := by
  have own := retireOwn_retiresTo s c auto
  rw [retire_eq]
  cases incumbent : (s.cell c).incumbent with
  | none => exact own
  | some i =>
    have before : (s.cell c).twinOf i.tile.serial = none := twinOf_of_ne _ (single.resolve_right (by simp [incumbent]))
    have after : (s.cell c).retiree.twinOf i.tile.serial = none := twinOf_of_ne _ (by simp [CellRec.retiree])
    dsimp only
    rw [promote_none ((firstTwin_write own.cells before after).trans (lone i incumbent))]
    exact own

/-- A retirement of a tile with a twin seats that twin (R53). -/
theorem retire_promotes {i : Incumbent} (incumbent : (s.cell c).incumbent = some i) (single : (s.cell c).state ≠ .twin)
    (heir : s.firstTwin i.tile.serial = some (d, x)) :
    s.retire c auto = (s.retireOwn c auto).seat d x true ∧ d ≠ c := by
  have own := retireOwn_retiresTo s c auto
  have before : (s.cell c).twinOf i.tile.serial = none := twinOf_of_ne _ single
  have after : (s.cell c).retiree.twinOf i.tile.serial = none := twinOf_of_ne _ (by simp [CellRec.retiree])
  rw [retire_eq, incumbent]
  exact ⟨promote_some ((firstTwin_write own.cells before after).trans heir), firstTwin_ne heir before⟩

/-- A cell with neither tile nor twin leaves nothing. -/
theorem leavings_empty (single : (s.cell c).state ≠ .twin) (empty : (s.cell c).incumbent = none) : s.leavings c = [] := by
  simp [State.leavings, single, empty]

/-- A cell with a tile leaves a LIFT. -/
theorem leavings_lift {i : Incumbent} (single : (s.cell c).state ≠ .twin) (incumbent : (s.cell c).incumbent = some i) :
    s.leavings c = [.lift ⟨c, s.position c⟩ i.tile.serial .retired] := by
  simp [State.leavings, single, incumbent]

/-- A twin leaves a TWIN_END. -/
theorem leavings_twin {k : Candidate} (twin : (s.cell c).state = .twin) (empty : (s.cell c).incumbent = none)
    (candidate : (s.cell c).candidate = some k) : s.leavings c = [.twinEnd ⟨c, s.position c⟩ k.tile.serial .retired] := by
  simp [State.leavings, twin, empty, candidate]

/-- What every retirement leaves, its promotion included. -/
structure State.retireLeaves (s w : State) (c : CellId) : Prop where
  cell : w.cell c = (s.cell c).retiree
  quests : w.quests = s.wantPass.quests
  rest : w.rest = s.rest ∨ w.rest = s.reportActivity.rest
  lamps : w.lamps = { s.lamps with guard := w.lamps.guard }
  lane : w.lane c.lane = s.laneRetires w c.lane (s.lane c.lane)
  others : ∀ m, m ≠ c.lane → (s.lane m).steady (w.lane m)
  same : s.sameBut w [.cells, .epoch, .quests, .rest, .lamps, .notices, .lanes, .play]

theorem State.retiresTo.leaves (h : s.retiresTo w c auto) : s.retireLeaves w c where
  cell := by rw [h.cells, if_pos rfl]
  quests := h.quests
  rest := by
    rw [h.rest]
    split
    · exact .inl rfl
    · exact .inr rfl
  lamps := h.lamps
  lane := h.lane
  others := h.others
  same := sameBut_mono h.same (by simp)

/-- A twin seated has the drive it had. -/
theorem seat_laneDrive {p : Bool} (twin : (s.cell d).state ≠ .retired) : (s.seat d x p).laneDrive n = s.laneDrive n := by
  refine laneDrive_retired (fun e => ?_) (by simp) (by simp) ?_
  · rw [seat_cell]
    split
    case isTrue here => simp [State.seatedRecord, here, twin]
    case isFalse => exact Iff.rfl
  · rw [seat_rest]
    exact reportActivity_part s

/-- The seat of a twin on another cell leaves all this as it is. -/
theorem State.retireLeaves.seat (h : s.retireLeaves w c) (other : d ≠ c) (twin : (w.cell d).state = .twin) :
    s.retireLeaves (w.seat d x true) c where
  cell := by rw [seat_cell, if_neg other.symm, h.cell]
  quests := by rw [seat_quests, State.wantPass, h.quests]; rfl
  rest := by
    rw [seat_rest]
    rcases h.rest with rest | rest
    · exact .inr (reportActivity_rest_congr rest)
    · exact .inr ((reportActivity_rest_congr rest).trans (reportActivity_rest_idem s))
  lamps := by simpa using h.lamps
  lane := by
    have lanes : (w.seat d x true).lane c.lane = w.lane c.lane := by simp
    rw [lanes, h.lane]
    refine (laneRetires_congr (seat_laneDrive (by simp [twin])) fun i => ?_).symm
    rw [seat_cell]
    split
    case isTrue here => simp [State.seatedRecord, here, twin]
    case isFalse => exact Iff.rfl
  others m away := by simpa using h.others m away
  same := sameBut_trans h.same fun p hp => by cases p <;> simp [Component.same] at hp ⊢

/-- Every retirement is its own steps, and may be the seat of a twin on another cell after them. -/
theorem retire_leaves (s : State) (c : CellId) (auto : Bool) : s.retireLeaves (s.retire c auto) c := by
  have own := retireOwn_retiresTo s c auto
  rw [retire_eq]
  cases (s.cell c).incumbent with
  | none => exact own.leaves
  | some i =>
    dsimp only
    cases heir : (s.retireOwn c auto).firstTwin i.tile.serial with
    | none =>
      rw [promote_none heir]
      exact own.leaves
    | some found =>
      obtain ⟨d, x⟩ := found
      rw [promote_some heir]
      have here : ((s.retireOwn c auto).cell c).twinOf i.tile.serial = none :=
        twinOf_of_ne _ (by rw [own.cells, if_pos rfl]; simp [CellRec.retiree])
      exact own.leaves.seat (firstTwin_ne heir here) (twinOf_eq_some.1 (firstTwin_twinOf heir)).1

/-- The lanes at the end of an event that retired a cell. -/
theorem State.retireLeaves.finish (h : s.retireLeaves w c) :
    s.passFollows w.finish ∧ s.lanesSteady w.finish ∧
      w.finish.laneGoes c.lane (s.laneRetires w.finish c.lane (s.lane c.lane)) := by
  refine ⟨finish_passFollows h.quests, fun m => steady_trans ?_ (finish_steady w m), ?_⟩
  · by_cases here : m = c.lane
    · rw [here, h.lane]
      exact laneRetires_steady _
    · exact h.others m here
  · have goes := finish_laneGoes w c.lane
    rw [h.lane] at goes
    rwa [laneRetires_congr (finish_laneDrive _) fun i => by simp]

end Sys2Proof.Machine
end

section
/-!
RETIRE_CELL and REINSTATE_CELL (R51 to R53).
-/

namespace Sys2Proof.Machine

open Sys2Proof

variable {s t u v w : State} {n m : Lane} {c d : CellId} {x : TileRead}

/-! ### The requests -/

/-- A cell that is RETIRED is left so (R51). -/
theorem exec_retireCell_again (listening : s.listening) (retired : (s.cell c).state = .retired) :
    exec (.retireCell (byte c.lane.val) (byte c.slot.val)) s = .next (s.reportActivity.replied 0x24 [8]) := by
  refine exec_answered (takeRetireCell (byte c.lane.val) (byte c.slot.val)) rfl listening ?_
  rw [takeRetireCell, cellOf_bytes]
  dsimp only
  rw [if_pos (by simpa using retired)]
  rfl

/-- Any other cell is retired. -/
theorem exec_retireCell (listening : s.listening) (live : (s.cell c).state ≠ .retired) :
    exec (.retireCell (byte c.lane.val) (byte c.slot.val)) s =
      .next ((s.reportActivity.retire c false).finish.replied 0x24 [(s.cell c).state.code]) := by
  refine exec_answered (takeRetireCell (byte c.lane.val) (byte c.slot.val)) rfl listening ?_
  rw [takeRetireCell, cellOf_bytes]
  dsimp only
  rw [if_neg (by simpa using live), (reportActivity_frame s).2.2.2.2.2.2.2.2.2.2.2.2.2.2.2.2.1]
  rfl

/-- A cell that is not RETIRED is left as it is (R52). -/
theorem exec_reinstateCell_live (listening : s.listening) (live : (s.cell c).state ≠ .retired) :
    exec (.reinstateCell (byte c.lane.val) (byte c.slot.val)) s = .next (s.reportActivity.replied 0x25 [0]) := by
  refine exec_answered (takeReinstateCell (byte c.lane.val) (byte c.slot.val)) rfl listening ?_
  rw [takeReinstateCell, cellOf_bytes]
  exact if_neg (by simpa using live)

/-- A RETIRED cell is reinstated. -/
theorem exec_reinstateCell (listening : s.listening) (retired : (s.cell c).state = .retired) :
    exec (.reinstateCell (byte c.lane.val) (byte c.slot.val)) s =
      .next ((s.reportActivity.reinstate c).finish.replied 0x25 [1]) := by
  refine exec_answered (takeReinstateCell (byte c.lane.val) (byte c.slot.val)) rfl listening ?_
  rw [takeReinstateCell, cellOf_bytes]
  exact if_pos (by simpa using retired)

/-! ### A cell reinstated (R52) -/

/-- What a reinstatement does to the lane of its cell (R30, R32). -/
theorem reinstate_lane (retired : (s.cell c).state = .retired) :
    (s.reinstate c).lane c.lane =
      if (∀ i : Slot, (s.cell ⟨c.lane, i⟩).state = .retired) ∧ (s.lane c.lane).state = .running ∧
          (s.lane c.lane).mode = .normal then
        { s.lane c.lane with
          stale := (s.lane c.lane).stale || decide (s.laneDrive c.lane ≠ (s.reinstate c).laneDrive c.lane)
          waiting := true, fairness := 0 }
      else
        { s.lane c.lane with
          stale := (s.lane c.lane).stale || decide (s.laneDrive c.lane ≠ (s.reinstate c).laneDrive c.lane) } := by
  have marked := lampEvent_setCell_lane (s := s) (c := c) (q := CellRec.reset) (.inl retired) c.lane
  have cell := (lampEvent_frame s fun u => u.setCell c CellRec.reset).2.2.2.2.2.2.2.2.2.2.2.2.2.2.1
  unfold State.reinstate
  generalize (s.lampEvent fun u => u.setCell c CellRec.reset) = v at marked cell
  dsimp only
  have vacant : ¬v.wantPass.allRetired c.lane = true := by
    rw [allRetired_iff]
    intro all
    have own := all c.slot
    rw [wantPass_cell, cell, setCell_cell_same] at own
    cases own
  have drives : v.wantPass.laneDrive c.lane = v.laneDrive c.lane := rfl
  have lane : v.wantPass.lane c.lane = v.lane c.lane := rfl
  by_cases begins : s.allRetired c.lane = true ∧ (s.lane c.lane).state = .running ∧ (s.lane c.lane).mode = .normal
  · have still : (v.wantPass.beginWaiting c.lane).laneDrive c.lane = v.laneDrive c.lane :=
      laneDrive_congr (by simp) (by simp) (by simp) (by simp)
    rw [if_pos begins, if_pos ⟨allRetired_iff.1 begins.1, begins.2⟩, still, State.beginWaiting, if_neg vacant, setLane_lane_same,
      lane, marked]
  · rw [if_neg begins, if_neg fun h => begins ⟨allRetired_iff.2 h.1, h.2⟩, drives, lane, marked]

/-- What a reinstatement does to the other lanes, and that it leaves its own steady. -/
theorem reinstate_steady (retired : (s.cell c).state = .retired) (m : Lane) : (s.lane m).steady ((s.reinstate c).lane m) := by
  by_cases here : m = c.lane
  · rw [here, reinstate_lane retired]
    split <;> simp [LaneUnit.steady]
  · have marked := lampEvent_setCell_lane (s := s) (c := c) (q := CellRec.reset) (.inl retired) m
    unfold State.reinstate
    generalize (s.lampEvent fun u => u.setCell c CellRec.reset) = v at marked
    have lane : v.wantPass.lane m = v.lane m := rfl
    dsimp only
    split
    · unfold State.beginWaiting
      split
      · rw [lane, marked]
        simp [LaneUnit.steady]
      · rw [setLane_lane_ne _ _ here, lane, marked]
        simp [LaneUnit.steady]
    · rw [lane, marked]
      simp [LaneUnit.steady]

/-- The cell, the Quest Engine and the lamps after a reinstatement, and what it leaves alone. -/
theorem reinstate_written (s : State) (c : CellId) :
    (∀ d, (s.reinstate c).cell d = if d = c then CellRec.reset else s.cell d) ∧
      (s.reinstate c).quests = s.wantPass.quests ∧ s.guardAlone (s.reinstate c) ∧
      s.sameBut (s.reinstate c) [.cells, .quests, .lamps, .notices, .lanes] := by
  have alone : s.guardAlone (s.lampEvent fun u => u.setCell c CellRec.reset) := lampEvent_guardAlone rfl rfl
  have same : s.sameBut (s.lampEvent fun u => u.setCell c CellRec.reset) [.cells, .quests, .lamps, .notices, .lanes] :=
    fun p hp => by cases p <;> simp [Component.same] at hp ⊢
  have frame := lampEvent_frame s fun u => u.setCell c CellRec.reset
  unfold State.reinstate
  generalize (s.lampEvent fun u => u.setCell c CellRec.reset) = v at alone same frame
  have cell : ∀ d, v.cell d = (s.setCell c CellRec.reset).cell d := frame.2.2.2.2.2.2.2.2.2.2.2.2.2.2.1
  have quests : v.quests = s.quests := frame.2.2.2.2.2.2.2.2.2.2.1
  have begins : ∀ w : State, w = v.wantPass ∨ w = v.wantPass.beginWaiting c.lane →
      w.cell = v.cell ∧ w.quests = v.wantPass.quests ∧ w.lamps = v.lamps ∧ w.notices = v.notices ∧
        v.sameBut w [.cells, .quests, .lamps, .notices, .lanes] := by
    rintro w (rfl | rfl)
    · exact ⟨rfl, rfl, rfl, rfl, fun p hp => by cases p <;> simp [Component.same] at hp ⊢⟩
    · exact ⟨by funext d; simp, by simp, by simp, by simp, fun p hp => by cases p <;> simp [Component.same] at hp ⊢⟩
  have written : ∀ w : State, w = v.wantPass ∨ w = v.wantPass.beginWaiting c.lane →
      (∀ d, w.cell d = if d = c then CellRec.reset else s.cell d) ∧ w.quests = s.wantPass.quests ∧ s.guardAlone w ∧
        s.sameBut w [.cells, .quests, .lamps, .notices, .lanes] := fun w either => by
    obtain ⟨cells', quests', lamps', notices', same'⟩ := begins w either
    refine ⟨fun d => ?_, ?_, ?_, sameBut_trans same same'⟩
    · rw [cells', cell, setCell_cell]
    · rw [quests', State.wantPass, quests]
      rfl
    · simpa only [State.guardAlone, lamps', notices'] using alone
  dsimp only
  split
  · exact written _ (.inr rfl)
  · exact written _ (.inl rfl)

/-- Of the activity that a request reports the drives read nothing. -/
theorem reportActivity_laneDrive (s : State) (n : Lane) : s.reportActivity.laneDrive n = s.laneDrive n :=
  laneDrive_part n (by simp) (by simp) (by simp) (reportActivity_part s)

/-- Of the activity that a request reports what a retirement makes of a lane turns on nothing. -/
theorem reportActivity_laneRetires (s t : State) (n : Lane) (u : LaneUnit) :
    s.reportActivity.laneRetires t n u = s.laneRetires t n u := by
  simp only [State.laneRetires, reportActivity_laneDrive]

/-- What a request's retirement leaves, of the state before the request. -/
theorem State.retiresTo.heard {auto : Bool} (h : s.reportActivity.retiresTo w c auto) :
    (∀ d, d ≠ c → w.cell d = s.cell d) ∧ w.epoch = s.epoch + BitVec.ofNat 16 (s.leavings c).length ∧ w.play = s.play ∧
      (w.lamps.guard = s.lamps.guard →
        w.notices = (s.notify (.retired ⟨c, s.position c⟩ auto (s.cell c).entries)).committed (s.leavings c)) := by
  have leavings : s.reportActivity.leavings c = s.leavings c := by simp [State.leavings, State.position]
  refine ⟨fun d other => ?_, ?_, by simpa using h.play, fun unmoved => ?_⟩
  · rw [h.cells, if_neg other]
    simp
  · rw [h.epoch, leavings]
    simp
  · rw [h.notices (by simpa using unmoved), leavings]
    have told : s.reportActivity.position c = s.position c := by simp [State.position]
    have record : s.reportActivity.cell c = s.cell c := by simp
    rw [told, record]
    exact committed_congr _ (notify_notices_congr _ (by simp) (by simp) (by simp)) (by simp) (by simp)

/-- A board change told after one notice, with room for both, is the last notice. -/
theorem notify_committed_last {b first : NoticeBody} (files : s.files b.class)
    (notices : t.notices = (s.notify first).committed [b]) : t.lastNotice b := by
  obtain ⟨opened, on, room⟩ := files
  have filled := notify_length (s := s) first
  have held : noticeRoom = 32 := rfl
  refine lastNotice_congr notices (notify_last (s := { s.notify first with epoch := (s.notify first).epoch + 1 }) ?_ ?_ ?_)
  · simpa using opened
  · simpa using on
  · show (s.notify first).notices.queue.length < noticeRoom
    omega

end Sys2Proof.Machine

open Sys2Proof Sys2Proof.Machine

/-- Settles O33: the retirement as its own steps with the promotion after them, the reinstatement as one write of the cell at the lamps. -/
theorem retireAndReinstateCells : Obligations.RetireAndReinstateCells := by
  intro a b c s listening r retire reinstate
  have cell : s.reportActivity.cell = s.cell := by funext d; simp
  have position : s.reportActivity.position = s.position := by funext d; simp [State.position]
  have twins : s.reportActivity.firstTwin = s.firstTwin := by funext y; simp only [State.firstTwin, cell]
  have lane : s.reportActivity.lane = s.lane := by funext n; simp
  refine ⟨fun bad => ⟨exec_badValue rfl listening (by rw [takeRetireCell, cellOf_none bad]),
      exec_badValue rfl listening (by rw [takeReinstateCell, cellOf_none bad])⟩,
    fun retired => ⟨exec_retireCell_again listening retired, _, exec_reinstateCell listening retired, ?_⟩,
    fun live => ⟨exec_reinstateCell_live listening live, _, exec_retireCell listening live, ?_⟩⟩
  · have retired' : (s.reportActivity.cell c).state = .retired := by rwa [cell]
    obtain ⟨cells, quests, alone, still⟩ := reinstate_written s.reportActivity c
    have own := reinstate_lane retired'
    have steady := reinstate_steady retired'
    have same : s.sameBut (s.reportActivity.reinstate c) [.cells, .quests, .lamps, .notices, .lanes, .rest] := fun p hp => by
      have unchanged := still p
      cases p <;> simp [Component.same] at hp unchanged ⊢ <;> exact unchanged
    have rest : (s.reportActivity.reinstate c).rest = s.reportActivity.rest := by simp
    generalize s.reportActivity.reinstate c = w at cells quests alone own steady same rest
    simp only [lane, cell, reportActivity_laneDrive] at own steady cells
    refine ⟨?_, fun d other => ?_, finish_passFollows ?_, ?_, fun m => steady_trans (steady m) (finish_steady w m), ?_,
      by simpa using rest, finish_sameBut same (by simp) (by simp)⟩
    · rw [(finish_frame w).2.2.2.2.2.2.2.2.2.2.2.2.2.2.2, cells, if_pos rfl]
      rfl
    · rw [(finish_frame w).2.2.2.2.2.2.2.2.2.2.2.2.2.2.2, cells, if_neg other]
    · rw [quests]
      simp [State.wantPass]
    · simpa [State.guardAlone] using alone
    · have goes := finish_laneGoes w c.lane
      rw [own] at goes
      rwa [finish_laneDrive]
  · have leaves := retire_leaves s.reportActivity c false
    have alone := retire_lone (s := s.reportActivity) (c := c) (auto := false)
    rw [twins, cell] at alone
    obtain ⟨follows, steady, goes⟩ := leaves.finish
    refine ⟨?_, ?_, fun m => ?_, ?_, ?_, ?_, fun empty single => ?_, fun i incumbent single lone => ?_,
      fun i d x incumbent single twin => ?_, fun k twin empty candidate => ?_, ?_⟩
    · rw [(finish_frame _).2.2.2.2.2.2.2.2.2.2.2.2.2.2.2, leaves.cell, cell]
      rfl
    · simpa [State.passFollows] using follows
    · simpa using steady m
    · rwa [reportActivity_laneRetires, lane] at goes
    · rw [(finish_frame _).2.1]
      exact leaves.rest.elim id fun rest => rest.trans (reportActivity_rest_idem s)
    · simpa using leaves.lamps
    · obtain ⟨others, epoch, play, notices⟩ := (alone (fun i h => absurd (empty.symm.trans h) (by simp)) (.inl single)).heard
      rw [leavings_empty single empty] at epoch notices
      refine ⟨fun d other => by simpa using others d other, by simpa using epoch, by simpa using play, fun files unmoved => ?_⟩
      exact lastNotice_congr ((finish_frame _).2.2.2.2.2.2.2.2.2.2.2.2.1.trans (notices (by simpa using unmoved)))
        (notify_lastNotice files)
    · have only : ∀ j, (s.cell c).incumbent = some j → s.firstTwin j.tile.serial = none := fun j h => by
        cases incumbent.symm.trans h
        exact lone
      obtain ⟨others, epoch, play, notices⟩ := (alone only (.inl single)).heard
      rw [leavings_lift single incumbent] at epoch notices
      refine ⟨fun d other => by simpa using others d other, by simpa using epoch, by simpa using play, fun files unmoved => ?_⟩
      exact notify_committed_last files ((finish_frame _).2.2.2.2.2.2.2.2.2.2.2.2.1.trans (notices (by simpa using unmoved)))
    · have own := retireOwn_retiresTo s.reportActivity c false
      obtain ⟨others, epoch, play, notices⟩ := own.heard
      obtain ⟨seats, other⟩ := retire_promotes (s := s.reportActivity) (c := c) (auto := false) (d := d) (x := x) (i := i)
        (by simpa using incumbent) (by simpa using single) (by rw [twins]; exact twin)
      rw [leavings_lift single incumbent] at epoch notices
      have plan : (s.reportActivity.retireOwn c false).plan = s.plan := by simpa [Component.same] using own.same .plan
      have roster : (s.reportActivity.retireOwn c false).roster = s.roster := by simpa [Component.same] using own.same .roster
      rw [seats]
      generalize s.reportActivity.retireOwn c false = w at others epoch play notices plan roster
      have lamps : (w.seat d x true).finish.lamps = w.lamps := by simp
      refine ⟨?_, fun e off away => ?_, ?_, fun free => ?_⟩
      · rw [(finish_frame _).2.2.2.2.2.2.2.2.2.2.2.2.2.2.2, seat_cell, if_pos rfl, play]
        exact seatedRecord_congr x _ (others d other) plan roster (by rw [play])
      · rw [(finish_frame _).2.2.2.2.2.2.2.2.2.2.2.2.2.2.2, seat_cell, if_neg away, others e off]
      · rw [(finish_frame _).2.2.2.2.1, seat_epoch, epoch]
        exact BitVec.add_assoc ..
      · have free' : w.movesFreely := by rwa [State.movesFreely, play]
        refine ⟨?_, fun unmoved => ?_⟩
        · rw [(finish_frame _).2.2.2.2.2.2.2.2.2.2.1, seat_play _ _ _ _ free', playMoved_congr plan play]
        · rw [lamps] at unmoved
          rw [(finish_frame _).2.2.2.2.2.2.2.2.2.2.2.2.1, seat_notices _ _ _ free', promotedNotice_congr plan]
          exact (commit_notices _ _).trans
            (committed_append (s.notify _) [_] [_] (notices unmoved) (by simpa using epoch) (by simp [play]))
    · obtain ⟨others, epoch, play, notices⟩ := (alone (fun i h => absurd (empty.symm.trans h) (by simp)) (.inr empty)).heard
      rw [leavings_twin twin empty candidate] at epoch notices
      exact ⟨fun d other => by simpa using others d other, by simpa using epoch, by simpa using play,
        fun unmoved => (finish_frame _).2.2.2.2.2.2.2.2.2.2.2.2.1.trans (notices (by simpa using unmoved))⟩
    · refine finish_sameBut (fun p hp => ?_) (by simp) (by simp)
      have same := leaves.same p
      cases p <;> simp [Component.same] at hp same ⊢

end

section
/-!
Reads that make their cell SUSPECT, retire it or see it recover (R41, R49 to R51, R61).
-/

namespace Sys2Proof.Machine

open Sys2Proof

variable {s t u v w w' : State} {n m : Lane} {c d : CellId} {k : SlotKind} {raw : RawResult} {o : Outcome} {a : Nat}
  {told : List NoticeBody} {b : NoticeBody} {x tile : TileRead} {cand : Candidate} {q r : CellRec} {f : OutcomeKind}

/-! ### A notice after the cell was written -/

/-- What a read leaves beside the cells and the first-fault record that ends with one notice more. -/
structure State.readTells (s t : State) (n : Lane) (c : CellId) (k : SlotKind) (raw : RawResult) (told : List NoticeBody)
    (b : NoticeBody) : Prop where
  steady : s.lanesSteady t
  goes : t.laneGoes n ((s.lane n).slotEnded c.slot false)
  traced : s.traces t c k raw
  epoch : t.epoch = s.epoch + BitVec.ofNat 16 told.length
  records : t.quests.records = s.quests.records
  pass : told ≠ [] → s.passFollows t
  rest : t.rest = if told = [] then s.rest else s.reportActivity.rest
  notices : ∀ u : State, u.notices = s.committed told → u.epoch = t.epoch → u.play.clock = s.play.clock →
    t.notices = (u.notify b).notices
  same : s.sameBut t [.lanes, .cells, .watch, .quests, .epoch, .rest, .firstFault, .notices]

/-- A read whose cell was written and its changes committed, and then one notice made, at the end of its event. -/
theorem State.reads.tells {marks : List Mark} (h : s.reads n c k)
    (outcome : classify (hear false marks) (s.threshold c) = o)
    (stepped : (s.readEnded c k (hear false marks)).stepped c k o (hear false marks).amplitude = w')
    (reaches : s.readTo w c k (hear false marks) q told []) (noted : w'.notices = (w.notify b).notices)
    (still : w.sameBut w' [.notices, .firstFault]) :
    ∃ t, Machine.exec (.readSlotEnd n marks) s = .next t ∧ (∀ d, t.cell d = if d = c then q else s.cell d) ∧
      t.firstFault = w'.firstFault ∧ s.readTells t n c k (hear false marks) told b := by
  obtain ⟨here, -⟩ := readInFlight_running h.flight
  subst here
  have ended := readEnded_leaves s c k (hear false marks)
  have lane : ∀ m, w'.lane m = (s.readEnded c k (hear false marks)).lane m := fun m =>
    (congrArg (Table.read · m) (still .lanes (by simp))).trans (reaches.lanes m)
  have leaves : s.readLeaves w' c k (hear false marks) ((s.lane c.lane).slotEnded c.slot false) :=
    ⟨(lane _).trans ended.lane, fun m other => (lane m).trans (ended.others m other),
      (still .watch (by simp)).trans reaches.watch⟩
  obtain ⟨steady, goes, traced⟩ := leaves.finish (slotEnded_steady _ _ _)
  have cell : ∀ d, w'.cell d = w.cell d := fun d =>
    congrArg (fun l => Table.read (Table.read l d.lane) d.slot) (still .cells (by simp))
  have quests : w'.quests = if told = [] then s.quests else s.wantPass.quests :=
    (still .quests (by simp)).trans reaches.changes.quests
  refine ⟨_, h.exec, ?_⟩
  rw [outcome, stepped]
  refine ⟨fun d => ?_, by simp, steady, goes, traced, ?_, ?_, fun some => finish_passFollows ?_, ?_, fun u notices epoch clock => ?_,
    fun p hp => ?_⟩
  · simp [cell, reaches.cells]
  · rw [(finish_frame _).2.2.2.2.1, (grant_frame _ _).2.2.2.2.1, still .epoch (by simp), reaches.changes.epoch]
  · rw [finish_records, (grant_frame _ _).2.2.2.2.2.2.2.2.2.2.1, quests]
    split <;> rfl
  · rw [(grant_frame _ _).2.2.2.2.2.2.2.2.2.2.1, quests, if_neg some]
  · rw [(finish_frame _).2.1, (grant_frame _ _).2.1, still .rest (by simp), reaches.changes.rest]
  · have filed : w.notices = s.committed told := (reaches.changes.quiet (.inr (by simp))).2
    rw [(finish_frame _).2.2.2.2.1, (grant_frame _ _).2.2.2.2.1, still .epoch (by simp)] at epoch
    rw [(finish_frame _).2.2.2.2.2.2.2.2.2.2.2.2.1, (grant_frame _ _).2.2.2.2.2.2.2.2.2.2.2.2.2.1, noted]
    exact notify_notices_congr b (filed.trans notices.symm) epoch.symm (reaches.changes.clock.trans clock.symm)
  · have first := reaches.changes.same p
    have second := still p
    have play := reaches.play
    cases p <;> simp [Component.same] at hp first second ⊢ <;> simp [first, second, play]

/-! ### A SUSPECT entry and a recovery (R49, R50) -/

/-- The record of a cell that becomes SUSPECT. -/
def CellRec.suspected (r : CellRec) : CellRec :=
  { r with
    state := .suspect, candidate := none, absent := 0, entries := r.entries + 1, score := min 15 (r.score + 2)
    lift := if r.state = .lifting then r.lift else 0 }

/-- A faulty SENSE read at 12 enters SUSPECT, or retires (R41, R49). -/
theorem stepped_enters (cell : s.cell c = r) (h : r.scores) (high : 12 ≤ min 15 (r.score + 2)) :
    s.stepped c .sense (.faulty f) a = (s.setCell c { r with score := min 15 (r.score + 2) }).enterSuspect c f := by
  subst cell
  rw [stepped_faulty, stepCell_scores h]
  exact if_pos high

/-- A first or second SUSPECT entry of a cell that is no twin. -/
theorem stepped_suspects (cell : s.cell c = r) (h : r.scores) (high : 12 ≤ min 15 (r.score + 2)) (early : r.entries < 2)
    (single : r.state ≠ .twin) :
    s.stepped c .sense (.faulty f) a =
      ((s.setCell c r.suspected).notify (.suspect ⟨c, s.position c⟩ (min 15 (r.score + 2)) (r.entries + 1))).postFault .suspect
        (.cell c) f (min 15 (r.score + 2)) := by
  rw [stepped_enters cell h high, State.enterSuspect]
  simp only [setCell_cell_same, setCell_setCell]
  rw [if_neg (by simpa using early)]
  split
  case h_1 twin _ => exact absurd twin single
  case h_2 => rfl

/-- A board change leaves the plan. -/
theorem cellAt_commit (s : State) (b : NoticeBody) (c : CellId) : (s.commit b).cellAt c = s.cellAt c := by
  simp [State.cellAt, State.position]

/-- A first or second SUSPECT entry of a twin ends the twin first. -/
theorem stepped_suspects_twin (cell : s.cell c = r) (high : 12 ≤ min 15 (r.score + 2)) (early : r.entries < 2)
    (twin : r.state = .twin) (candidate : r.candidate = some cand) :
    s.stepped c .sense (.faulty f) a =
      ((((s.setCell c r.suspected).commit (.twinEnd ⟨c, s.position c⟩ cand.tile.serial .suspect))).notify
        (.suspect ⟨c, s.position c⟩ (min 15 (r.score + 2)) (r.entries + 1))).postFault .suspect (.cell c) f (min 15 (r.score + 2)) := by
  rw [stepped_enters cell (.inl ⟨.inr twin, by simp [candidate]⟩) high, State.enterSuspect]
  simp only [setCell_cell_same, setCell_setCell]
  rw [if_neg (by simpa using early)]
  split
  case h_1 k _ is =>
    cases candidate.symm.trans is
    rw [cellAt_commit]
    rfl
  case h_2 none => exact absurd candidate (none cand twin)

/-- A SUSPECT cell recovers with its tile (R50). -/
theorem stepped_recovers {inc : Incumbent} (cell : s.cell c = r) (state : r.state = .suspect) (low : r.score - 1 ≤ 4)
    (incumbent : r.incumbent = some inc) :
    s.stepped c .sense (.good tile) a =
      (s.setCell c { r with state := .seated, score := r.score - 1, lift := 0, peak := nextPeak r.peak a }).notify
        (.recovered ⟨c, s.position c⟩ (r.score - 1) true) := by
  subst cell
  rw [stepped_good (by simp [state]) (by simp [state]), stepCell_suspect (by simpa using state)]
  simp [State.stepSuspect, low, State.recover, incumbent]
  rfl

/-- A SUSPECT cell recovers VACANT (R50). -/
theorem stepped_recovers_empty (cell : s.cell c = r) (state : r.state = .suspect) (low : r.score - 1 ≤ 4)
    (empty : r.incumbent = none) :
    s.stepped c .sense (.good tile) a =
      (s.setCell c { r.emptied with score := r.score - 1 }).notify (.recovered ⟨c, s.position c⟩ (r.score - 1) false) := by
  subst cell
  rw [stepped_good (by simp [state]) (by simp [state]), stepCell_suspect (by simpa using state)]
  simp [State.stepSuspect, low, State.recover, empty]
  rfl

end Sys2Proof.Machine
end

section
/-!
Reads that retire their cell: the third SUSPECT entry (R49, R51, R53, R61).
-/

namespace Sys2Proof.Machine

open Sys2Proof

variable {s t u v w : State} {n m : Lane} {c d : CellId} {k : SlotKind} {raw : RawResult} {o : Outcome} {a : Nat}
  {told : List NoticeBody} {b : NoticeBody} {x : TileRead} {q r : CellRec} {f : OutcomeKind} {i : Incumbent}

/-- A faulty SENSE read that would make the third SUSPECT entry retires the cell (R49). -/
theorem stepped_retires (cell : s.cell c = r) (h : r.scores) (high : 12 ≤ min 15 (r.score + 2)) (late : 2 ≤ r.entries) :
    s.stepped c .sense (.faulty f) a =
      ((s.setCell c { r with entries := 3, score := min 15 (r.score + 2) }).postFault .autoRetire (.cell c) f
        (min 15 (r.score + 2))).retire c true := by
  rw [stepped_enters cell h high, State.enterSuspect]
  simp only [setCell_cell_same, setCell_setCell]
  exact if_pos late

/-- A read's slot has ended, and of its cell only the score, the entries and the first-fault record have changed. -/
structure State.retiring (s w : State) (c : CellId) (k : SlotKind) (raw : RawResult) : Prop where
  others : ∀ d, d ≠ c → w.cell d = s.cell d
  state : (w.cell c).state = (s.cell c).state
  incumbent : (w.cell c).incumbent = (s.cell c).incumbent
  candidate : (w.cell c).candidate = (s.cell c).candidate
  lanes : ∀ m, w.lane m = (s.readEnded c k raw).lane m
  watch : w.watch = (s.readEnded c k raw).watch
  same : s.sameBut w [.lanes, .cells, .watch, .firstFault]

/-- The state that the third SUSPECT entry retires. -/
theorem readEnded_retiring (s : State) (c : CellId) (k : SlotKind) (raw : RawResult) (f : OutcomeKind) (score : Nat) :
    s.retiring (((s.readEnded c k raw).setCell c { s.cell c with entries := 3, score := score }).postFault .autoRetire (.cell c)
      f score) c k raw where
  others d other := by simp [setCell_cell_ne _ _ other]
  state := by simp
  incumbent := by simp
  candidate := by simp
  lanes m := by simp
  watch := by simp
  same p hp := by cases p <;> simp [Component.same] at hp ⊢

namespace State.retiring

theorem plan (h : s.retiring w c k raw) : w.plan = s.plan := h.same .plan (by simp)

theorem position (h : s.retiring w c k raw) : w.position = s.position := by
  funext d
  rw [State.position, h.plan]
  rfl

theorem leavings (h : s.retiring w c k raw) : w.leavings c = s.leavings c := by
  simp only [State.leavings, h.state, h.incumbent, h.candidate, h.position]

theorem laneDrive (h : s.retiring w c k raw) (m : Lane) : w.laneDrive m = s.laneDrive m := by
  refine laneDrive_retired (fun d => ?_) h.plan (h.same .lamps (by simp)) (by rw [h.same .rest (by simp)])
  by_cases here : d = c
  · rw [here, h.state]
  · rw [h.others d here]

theorem firstTwin (h : s.retiring w c k raw) : w.firstTwin = s.firstTwin := by
  funext y
  refine firstTwin_congr fun d => ?_
  by_cases here : d = c
  · simp only [here, CellRec.twinOf, h.state, h.candidate]
  · rw [h.others d here]

/-- What the retirement makes of the lane whose slot has ended. -/
theorem laneRetires (h : s.retiring w c k raw) (t : State) (u : LaneUnit) : w.laneRetires t c.lane u = s.laneRetires t c.lane u := by
  simp only [State.laneRetires, h.laneDrive]

theorem committed (h : s.retiring w c k raw) (b : NoticeBody) (told : List NoticeBody) :
    (w.notify b).committed told = (s.notify b).committed told := by
  have play : w.play = s.play := h.same .play (by simp)
  have epoch : w.epoch = s.epoch := h.same .epoch (by simp)
  exact committed_congr told (notify_notices_congr b (h.same .notices (by simp)) epoch (by rw [play])) (by simp [epoch])
    (by simp [play])

end State.retiring

/-- What a read that retires its cell leaves beside the map and the notices, at the end of its event. -/
structure State.readRetires (s t : State) (n : Lane) (c : CellId) (k : SlotKind) (raw : RawResult) : Prop where
  steady : s.lanesSteady t
  goes : t.laneGoes n (s.laneRetires t n ((s.lane n).slotEnded c.slot false))
  traced : s.traces t c k raw
  pass : s.passFollows t
  same : s.sameBut t [.lanes, .cells, .watch, .quests, .firstFault, .notices, .epoch, .rest, .lamps, .play]

/-- A pass wanted of equal Quest Engines. -/
theorem wantPass_quests (h : w.quests = s.quests) : w.wantPass.quests = s.wantPass.quests :=
  congrArg (fun q : QuestEngine => { q with passWanted := true }) h

/-- Whatever is promoted, the end of a read that retires its cell. -/
theorem State.retiring.ends (h : s.retiring w c k raw) (leaves : w.retireLeaves u c) (watch : u.watch = w.watch)
    (fault : u.firstFault = w.firstFault) :
    s.readRetires (u.grant c.lane).finish c.lane c k raw ∧ (u.grant c.lane).finish.firstFault = w.firstFault := by
  have ended := readEnded_leaves s c k raw
  have lanes : ∀ m, (s.lane m).steady (w.lane m) := fun m => by
    rw [h.lanes]
    by_cases here : m = c.lane
    · rw [here, ended.lane]
      exact slotEnded_steady _ _ _
    · rw [ended.others m here]
      exact steady_refl _
  refine ⟨⟨fun m => ?_, ?_, traces_congr ?_ (readEnded_traces s c k raw), finish_passFollows ?_, fun p hp => ?_⟩, by simp [fault]⟩
  · refine steady_trans (lanes m) (steady_trans (v := u.lane m) ?_ (steady_trans (grant_steady u c.lane m) (finish_steady _ m)))
    by_cases here : m = c.lane
    · rw [here, leaves.lane]
      exact laneRetires_steady _
    · exact leaves.others m here
  · have goes := finish_grant_laneGoes u c.lane
    rw [leaves.lane, h.lanes, ended.lane, h.laneRetires] at goes
    have drive : (u.grant c.lane).finish.laneDrive c.lane = u.laneDrive c.lane :=
      (finish_laneDrive _).trans (laneDrive_congr (by simp) (by simp) (by simp) (by simp))
    have cells : ∀ i, (((u.grant c.lane).finish).cell ⟨c.lane, i⟩).state = .retired ↔ (u.cell ⟨c.lane, i⟩).state = .retired :=
      fun i => by simp
    rw [laneRetires_congr drive cells]
    exact goes
  · rw [(finish_frame _).2.2.2.2.2.2.2.1, (grant_frame _ _).2.2.2.2.2.2.2.1, watch, h.watch]
  · rw [(grant_frame _ _).2.2.2.2.2.2.2.2.2.2.1, leaves.quests]
    exact wantPass_quests (h.same .quests (by simp))
  · have first := h.same p
    have second := leaves.same p
    cases p <;> simp [Component.same] at hp first second ⊢ <;> simp [first, second]

/-- A read that retires its cell with no twin to promote. -/
theorem State.reads.retiresLone {marks : List Mark} (h : s.reads n c k)
    (outcome : classify (hear false marks) (s.threshold c) = o)
    (stepped : (s.readEnded c k (hear false marks)).stepped c k o (hear false marks).amplitude = w.retire c true)
    (retiring : s.retiring w c k (hear false marks))
    (lone : ∀ i, (s.cell c).incumbent = some i → s.firstTwin i.tile.serial = none)
    (single : (s.cell c).state ≠ .twin ∨ (s.cell c).incumbent = none) :
    ∃ t, Machine.exec (.readSlotEnd n marks) s = .next t ∧ t.cell c = (w.cell c).retiree ∧
      (∀ d, d ≠ c → t.cell d = s.cell d) ∧ s.readRetires t n c k (hear false marks) ∧ t.firstFault = w.firstFault ∧
      t.epoch = s.epoch + BitVec.ofNat 16 (s.leavings c).length ∧
      t.rest = (if s.leavings c = [] then s.rest else s.reportActivity.rest) ∧ t.play = s.play ∧
      (t.lamps.guard = s.lamps.guard →
        t.notices = (s.notify (.retired ⟨c, s.position c⟩ true (w.cell c).entries)).committed (s.leavings c)) := by
  obtain ⟨here, -⟩ := readInFlight_running h.flight
  subst here
  have own : w.retiresTo (w.retire c true) c true := by
    refine retire_lone ?_ ?_
    · rwa [retiring.incumbent, retiring.firstTwin]
    · rwa [retiring.state, retiring.incumbent]
  refine ⟨_, h.exec, ?_⟩
  rw [outcome, stepped]
  generalize w.retire c true = u at own
  obtain ⟨ends, fault⟩ := retiring.ends own.leaves (own.same .watch (by simp)) (own.same .firstFault (by simp))
  refine ⟨?_, fun d other => ?_, ends, fault, ?_, ?_, ?_, fun unmoved => ?_⟩
  · simp [own.cells]
  · simp [own.cells, other, retiring.others d other]
  · rw [(finish_frame _).2.2.2.2.1, (grant_frame _ _).2.2.2.2.1, own.epoch, retiring.leavings, retiring.same .epoch (by simp)]
  · rw [(finish_frame _).2.1, (grant_frame _ _).2.1, own.rest, retiring.leavings, retiring.same .rest (by simp),
      reportActivity_rest_congr (retiring.same .rest (by simp))]
  · rw [(finish_frame _).2.2.2.2.2.2.2.2.2.2.1, (grant_frame _ _).2.2.2.2.2.2.2.2.2.2.2.1, own.play, retiring.same .play (by simp)]
  · have lamps : w.lamps = s.lamps := retiring.same .lamps (by simp)
    rw [(finish_frame _).2.2.2.2.2.2.2.2.2.2.2.1, (grant_frame _ _).2.2.2.2.2.2.2.2.2.2.2.2.1] at unmoved
    rw [(finish_frame _).2.2.2.2.2.2.2.2.2.2.2.2.1, (grant_frame _ _).2.2.2.2.2.2.2.2.2.2.2.2.2.1, own.notices (by rw [lamps, unmoved]),
      retiring.leavings, retiring.committed, retiring.position]

/-- A read that retires its cell and promotes the first TWIN cell of its tile's serial. -/
theorem State.reads.retiresHeir {marks : List Mark} (h : s.reads n c k)
    (outcome : classify (hear false marks) (s.threshold c) = o)
    (stepped : (s.readEnded c k (hear false marks)).stepped c k o (hear false marks).amplitude = w.retire c true)
    (retiring : s.retiring w c k (hear false marks)) (incumbent : (s.cell c).incumbent = some i)
    (single : (s.cell c).state ≠ .twin) (heir : s.firstTwin i.tile.serial = some (d, x)) :
    ∃ t, Machine.exec (.readSlotEnd n marks) s = .next t ∧ t.cell c = (w.cell c).retiree ∧
      (∀ e, e ≠ c → e ≠ d → t.cell e = s.cell e) ∧ t.cell d = s.seatedRecord d x s.play.current ∧
      s.readRetires t n c k (hear false marks) ∧ t.firstFault = w.firstFault ∧ t.epoch = s.epoch + 2 ∧
      t.rest = s.reportActivity.rest ∧
      (s.movesFreely → t.play = s.playMoved [d] ∧
        (t.lamps.guard = s.lamps.guard →
          t.notices =
            (s.notify (.retired ⟨c, s.position c⟩ true (w.cell c).entries)).committed
              (s.leavings c ++ [s.promotedNotice d x]))) := by
  obtain ⟨here, -⟩ := readInFlight_running h.flight
  subst here
  have own := retireOwn_retiresTo w c true
  obtain ⟨seats, other⟩ := retire_promotes (s := w) (c := c) (auto := true) (d := d) (x := x) (i := i)
    (by rwa [retiring.incumbent]) (by rwa [retiring.state]) (by rwa [retiring.firstTwin])
  refine ⟨_, h.exec, ?_⟩
  rw [outcome, stepped, seats]
  generalize w.retireOwn c true = u at own
  have play : u.play = s.play := own.play.trans (retiring.same .play (by simp))
  have plan : u.plan = s.plan := (own.same .plan (by simp)).trans retiring.plan
  have roster : u.roster = s.roster := (own.same .roster (by simp)).trans (retiring.same .roster (by simp))
  have twin : (u.cell d).state = .twin := by
    rw [own.cells, if_neg other, retiring.others d other]
    exact (twinOf_eq_some.1 (firstTwin_twinOf heir)).1
  have left : s.leavings c = [.lift ⟨c, s.position c⟩ i.tile.serial .retired] := leavings_lift single incumbent
  have epoch : u.epoch = s.epoch + BitVec.ofNat 16 (s.leavings c).length := by
    rw [own.epoch, retiring.leavings, retiring.same .epoch (by simp)]
  have rest : u.rest = s.reportActivity.rest := by
    rw [own.rest, retiring.leavings, if_neg (by simp [left]), reportActivity_rest_congr (retiring.same .rest (by simp))]
  obtain ⟨ends, fault⟩ := retiring.ends (own.leaves.seat (x := x) other twin)
    ((seat_frame u d x true).2.2.2.2.2.1.trans (own.same .watch (by simp)))
    ((seat_frame u d x true).2.2.2.2.1.trans (own.same .firstFault (by simp)))
  refine ⟨?_, fun e off away => ?_, ?_, ends, fault, ?_, ?_, fun free => ?_⟩
  · simp [seat_cell, other.symm, own.cells]
  · simp [seat_cell, away, own.cells, off, retiring.others e off]
  · rw [(finish_frame _).2.2.2.2.2.2.2.2.2.2.2.2.2.2.2, (grant_frame _ _).2.2.2.2.2.2.2.2.2.2.2.2.2.2.2.2.1, seat_cell, if_pos rfl, play]
    exact seatedRecord_congr x _ (by rw [own.cells, if_neg other, retiring.others d other]) plan roster (by rw [play])
  · rw [(finish_frame _).2.2.2.2.1, (grant_frame _ _).2.2.2.2.1, seat_epoch, epoch, left]
    exact BitVec.add_assoc ..
  · rw [(finish_frame _).2.1, (grant_frame _ _).2.1, seat_rest, reportActivity_rest_congr rest, reportActivity_rest_idem]
  · have free' : u.movesFreely := by rwa [State.movesFreely, play]
    refine ⟨?_, fun unmoved => ?_⟩
    · rw [(finish_frame _).2.2.2.2.2.2.2.2.2.2.1, (grant_frame _ _).2.2.2.2.2.2.2.2.2.2.2.1, seat_play _ _ _ _ free',
        playMoved_congr plan play]
    · have lamps : w.lamps = s.lamps := retiring.same .lamps (by simp)
      rw [(finish_frame _).2.2.2.2.2.2.2.2.2.2.2.1, (grant_frame _ _).2.2.2.2.2.2.2.2.2.2.2.2.1] at unmoved
      have notices := own.notices (by rw [lamps, ← unmoved]; simp)
      rw [retiring.leavings, retiring.committed, retiring.position] at notices
      rw [(finish_frame _).2.2.2.2.2.2.2.2.2.2.2.2.1, (grant_frame _ _).2.2.2.2.2.2.2.2.2.2.2.2.2.1, seat_notices _ _ _ free',
        promotedNotice_congr plan]
      exact (commit_notices _ _).trans (committed_append (s.notify _) _ [_] notices (by simpa using epoch) (by simp [play]))

end Sys2Proof.Machine
end

section
/-!
Completed shifts and lifts read at the end of a slot (R46, R47, R50, R53).
-/

namespace Sys2Proof.Machine

open Sys2Proof

variable {s t u v w : State} {n m : Lane} {c d holder : CellId} {k : SlotKind} {o : Outcome} {a : Nat} {marks : List Mark}
  {told : List NoticeBody} {moved : List CellId} {x tile : TileRead} {q r : CellRec} {inc : Incumbent} {cand : Candidate}
  {asks : Bool} {y : Serial} {reason : LiftReason}

/-- A read writes its cell as `q` and commits the changes told. -/
def State.readDone (s : State) (n : Lane) (c : CellId) (k : SlotKind) (marks : List Mark) (asks : Bool) (q : CellRec)
    (told : List NoticeBody) (moved : List CellId) : Prop :=
  ∃ t, exec (.readSlotEnd n marks) s = .next t ∧ (∀ d, t.cell d = if d = c then q else s.cell d) ∧
    s.readCommits t n c k (hear false marks) asks told moved

/-- A read writes its cell as `q`, commits the changes told, and promotes the twin `x` on cell `d`. -/
def State.readPromotes (s : State) (n : Lane) (c : CellId) (k : SlotKind) (marks : List Mark) (q : CellRec)
    (told : List NoticeBody) (moved : List CellId) (d : CellId) (x : TileRead) : Prop :=
  ∃ t, exec (.readSlotEnd n marks) s = .next t ∧ t.cell c = q ∧ (∀ e, e ≠ c → e ≠ d → t.cell e = s.cell e) ∧
    (∃ who, t.cell d = s.seatedRecord d x who ∧ (s.movesFreely ∨ moved = [] → who = s.play.current)) ∧
    s.readCommits t n c k (hear false marks) false (told ++ [s.promotedNotice d x]) (moved ++ [d])

/-- What a read does that takes a tile of serial `y` off the board, with a twin to promote or none. -/
def State.readTakes (s : State) (n : Lane) (c : CellId) (k : SlotKind) (marks : List Mark) (q : CellRec)
    (told : List NoticeBody) (moved : List CellId) (y : Serial) : Prop :=
  (s.firstTwin y = none → s.readDone n c k marks false q told moved) ∧
    ∀ d x, s.firstTwin y = some (d, x) → s.readPromotes n c k marks q told moved d x

/-- A read that ends in a promotion takes the tile off the board. -/
theorem State.reads.takes (h : s.reads n c k) (outcome : classify (hear false marks) (s.threshold c) = o)
    (stepped : (s.readEnded c k (hear false marks)).stepped c k o (hear false marks).amplitude = v.promote y)
    (reaches : s.readTo v c k (hear false marks) q told moved) (some : told ≠ [])
    (before : (s.cell c).twinOf y = none) (after : q.twinOf y = none) : s.readTakes n c k marks q told moved y :=
  ⟨fun lone => h.leaves outcome stepped reaches some before after lone,
    fun _ _ heir => h.promotes outcome stepped reaches before after heir⟩

/-- A read that lifts its tile (R47, R50). -/
theorem State.reads.lifts (h : s.reads n c k) (outcome : classify (hear false marks) (s.threshold c) = o)
    (stepped : ∀ v : State, v.cell c = s.cell c → v.sensing = s.sensing →
      v.stepped c k o (hear false marks).amplitude = ((v.setCell c q).commit (.lift (v.cellAt c) y reason)).promote y)
    (single : (s.cell c).state ≠ .twin) (after : q.state ≠ .twin) :
    s.readTakes n c k marks q [.lift ⟨c, s.position c⟩ y reason] [] y :=
  h.takes outcome (stepped _ (readEnded_cell ..) (by simp)) ((readTo_ended s c k (hear false marks)).lifts q y reason) (by simp)
    (twinOf_of_ne _ single) (twinOf_of_ne _ after)

/-- A read that completes an arrival (R44). -/
theorem State.reads.completesArrival (h : s.reads n c k) (outcome : classify (hear false marks) (s.threshold c) = o)
    (stepped : (s.readEnded c k (hear false marks)).stepped c k o (hear false marks).amplitude = v.completeArrival c cand)
    (reaches : s.readTo v c k (hear false marks) q told []) :
    ((∀ d, d ≠ c → (s.cell d).holds cand.tile.serial = false) →
      s.readDone n c k marks false (s.seatedOn c cand.tile q) (told ++ [s.arrivalOf c cand.tile false]) [c]) ∧
      ∀ holder, s.otherHolder c cand.tile.serial = some holder →
        s.readDone n c k marks false (q.twinned cand) (told ++ [.twin ⟨c, s.position c⟩ cand.tile.serial holder]) [] :=
  ⟨fun lone => h.commits_still outcome stepped (reaches.arrives (otherHolder_eq_none lone)) (by simp),
    fun _ held => h.commits_still outcome stepped (reaches.twins held) (by simp)⟩

/-- A read that completes a shift (R46). -/
theorem State.reads.completesShift (h : s.reads n c k) (outcome : classify (hear false marks) (s.threshold c) = o)
    (stepped : (s.readEnded c k (hear false marks)).stepped c k o (hear false marks).amplitude = v.completeShift c inc cand a)
    (reaches : s.readTo v c k (hear false marks) q [] []) (single : (s.cell c).state ≠ .twin) :
    (cand.tile.serial = inc.tile.serial →
      s.readDone n c k marks false (s.rotatedOn c inc cand.tile q)
        [.rotate ⟨c, s.position c⟩ cand.tile (s.facingOf c.lane cand.tile.pad)] []) ∧
      (cand.tile.serial ≠ inc.tile.serial → (∀ d, d ≠ c → (s.cell d).holds cand.tile.serial = false) →
        s.readTakes n c k marks (s.swappedOn c cand.tile a q)
          [.swap ⟨c, s.position c⟩ cand.tile (s.facingOf c.lane cand.tile.pad)] [c] inc.tile.serial) ∧
      (cand.tile.serial ≠ inc.tile.serial → ∀ holder, s.otherHolder c cand.tile.serial = some holder →
        s.readTakes n c k marks (q.twinned cand)
          [.lift ⟨c, s.position c⟩ inc.tile.serial .displaced, .twin ⟨c, s.position c⟩ cand.tile.serial holder] []
          inc.tile.serial) := by
  refine ⟨fun same => h.commits_still outcome stepped (reaches.rotates same) (by simp), fun differ lone => ?_,
    fun differ holder held => ?_⟩
  · obtain ⟨w, shifts, reaches'⟩ := reaches.swaps (a := a) differ (otherHolder_eq_none lone)
    exact h.takes outcome (stepped.trans shifts) reaches' (by simp) (twinOf_of_ne _ single)
      (twinOf_of_ne _ (by simp [State.swappedOn]))
  · obtain ⟨w, shifts, reaches'⟩ := reaches.displaces (a := a) differ held
    refine h.takes outcome (stepped.trans shifts) reaches' (by simp) (twinOf_of_ne _ single) (twinOf_none_iff.2 ?_)
    rintro ⟨-, k', is, serial⟩
    cases is
    exact differ serial

/-- Another tile on a TWIN cell ends the twin, and enters as one first seen (R48). -/
theorem readEnded_endsTwin (s : State) (c : CellId) (k : SlotKind) (raw : RawResult) (state : (s.cell c).state = .twin)
    (candidate : (s.cell c).candidate = some cand) (differ : tile ≠ cand.tile) :
    ∃ w, (s.readEnded c k raw).stepped c k (.good tile) a = w.enterArriving c tile ∧
      s.readTo w c k raw { s.cell c with peak := nextPeak (s.cell c).peak a }
        [.twinEnd ⟨c, s.position c⟩ cand.tile.serial .read] [] := by
  have stepped := stepped_twin_ends (k := k) (a := a) (readEnded_cell s c k raw c) state candidate differ
  rw [State.cellAt, (readTo_ended s c k raw).position] at stepped
  exact ⟨_, stepped, ((readTo_ended s c k raw).write _).commit _⟩

/-- The record of a cell that takes a tile as its new candidate. -/
def CellRec.renewed (r : CellRec) (tile : TileRead) (a : Nat) : CellRec :=
  { r with
    state := .arriving, incumbent := none, candidate := some { tile := tile, arrive := 1 }, lift := 0, absent := 0
    peak := nextPeak r.peak a }

/-- A twin that another tile ends, short of the completion of its arrival. -/
theorem State.reads.endsTwin (h : s.reads n c k) (outcome : classify (hear false marks) (s.threshold c) = .good tile)
    (state : (s.cell c).state = .twin) (candidate : (s.cell c).candidate = some cand) (differ : tile ≠ cand.tile)
    (more : 2 ≤ s.sensing.arriveN) :
    s.readDone n c k marks true ((s.cell c).renewed tile (hear false marks).amplitude)
      [.twinEnd ⟨c, s.position c⟩ cand.tile.serial .read] [] := by
  obtain ⟨w, stepped, ended⟩ := readEnded_endsTwin (a := (hear false marks).amplitude) s c k (hear false marks) state candidate differ
  have sensing : w.sensing = s.sensing := ended.changes.same .sensing (by simp)
  have written := ended.write ((s.cell c).renewed tile (hear false marks).amplitude)
  rw [enterArriving_asks (by rwa [sensing]), ended.cell] at stepped
  obtain ⟨t, run, cells, commits⟩ := h.commits (asks := true) outcome (stepped.trans (if_pos rfl).symm) written.changes
    written.lanes written.watch (by simp)
  exact ⟨t, run, fun d => (cells d).trans (written.cells d), commits⟩

/-- A twin that another tile ends, its arrival complete at once (R44). -/
theorem State.reads.replacesTwin (h : s.reads n c k) (outcome : classify (hear false marks) (s.threshold c) = .good tile)
    (state : (s.cell c).state = .twin) (candidate : (s.cell c).candidate = some cand) (differ : tile ≠ cand.tile)
    (enough : s.sensing.arriveN ≤ 1) :
    let r := (s.cell c).renewed tile (hear false marks).amplitude
    let ended : NoticeBody := .twinEnd ⟨c, s.position c⟩ cand.tile.serial .read
    ((∀ d, d ≠ c → (s.cell d).holds tile.serial = false) →
      s.readDone n c k marks false (s.seatedOn c tile r) [ended, s.arrivalOf c tile false] [c]) ∧
      ∀ holder, s.otherHolder c tile.serial = some holder →
        s.readDone n c k marks false (r.twinned { tile := tile, arrive := 1 })
          [ended, .twin ⟨c, s.position c⟩ tile.serial holder] [] := by
  obtain ⟨w, stepped, ended⟩ := readEnded_endsTwin (a := (hear false marks).amplitude) s c k (hear false marks) state candidate differ
  have sensing : w.sensing = s.sensing := ended.changes.same .sensing (by simp)
  have written := ended.write ((s.cell c).renewed tile (hear false marks).amplitude)
  rw [State.enterArriving, ended.cell] at stepped
  dsimp only at stepped
  rw [if_pos (by rwa [sensing])] at stepped
  exact h.completesArrival outcome stepped written

/-! ### A read in the words of the obligations -/

/-- The tile that a decoded result reads, strong enough. -/
theorem classify_tile {code : TagCode} (good : (hear false marks).kind = .decoded code ∧ s.threshold c ≤ (hear false marks).amplitude)
    (same : tile = (hear false marks).tileOf code) : classify (hear false marks) (s.threshold c) = .good tile := by
  rw [same]
  exact classify_good good.1 good.2

end Sys2Proof.Machine
end

section
/-!
SUSPECT entries, recoveries and retirements read at the end of a slot (R41, R49, R50, R61).
-/

namespace Sys2Proof.Machine

open Sys2Proof

variable {s t u v w : State} {n : Lane} {c d : CellId} {k : SlotKind} {raw : RawResult} {marks : List Mark} {f : OutcomeKind}
  {cand : Candidate} {inc : Incumbent} {x tile : TileRead}

/-- The first-fault record after a post about cell `c` (R61). -/
def State.posted (s : State) (cause : FaultCause) (c : CellId) (o : OutcomeKind) (score : Nat) : Option FirstFault :=
  match s.firstFault with
  | some f => some { f with later := min 255 (f.later + 1) }
  | none => some { cause := cause, place := .cell c, outcome := o, score := score, clock := s.play.clock, later := 0 }

theorem postFault_posted (v : State) (cause : FaultCause) (c : CellId) (o : OutcomeKind) (score : Nat) :
    (v.postFault cause (.cell c) o score).firstFault = v.posted cause c o score := by
  unfold State.postFault State.posted
  split <;> simp [*]

theorem posted_congr (fault : v.firstFault = s.firstFault) (clock : v.play.clock = s.play.clock) (cause : FaultCause) (c : CellId)
    (o : OutcomeKind) (score : Nat) : v.posted cause c o score = s.posted cause c o score := by
  rw [State.posted, State.posted, fault, clock]

/-- A notice leaves everything but the notices. -/
theorem notify_still (w : State) (b : NoticeBody) : w.sameBut (w.notify b) [.notices, .firstFault] := fun p hp => by
  cases p <;> simp [Component.same] at hp ⊢

/-- A post after a notice leaves everything but the notices and the first-fault record. -/
theorem notify_postFault_sameBut (w : State) (b : NoticeBody) (cause : FaultCause) (place : FaultPlace) (o : OutcomeKind)
    (score : Nat) : w.sameBut ((w.notify b).postFault cause place o score) [.notices, .firstFault] := fun p hp => by
  cases p <;> simp [Component.same] at hp ⊢

/-- A part named as changed is the same all the same. -/
theorem sameBut_narrow {l m : List Component} (h : s.sameBut t l) (still : ∀ p ∈ l, p ∉ m → Component.same p s t) : s.sameBut t m :=
  fun p hp => if listed : p ∈ l then still p listed hp else h p listed

/-- A read that commits nothing and ends with one notice. -/
theorem State.readTells.quiet {b : NoticeBody} (h : s.readTells t n c k raw [] b) :
    t.epoch = s.epoch ∧ t.rest = s.rest ∧ t.notices = (s.notify b).notices ∧
      s.sameBut t [.lanes, .cells, .watch, .quests, .firstFault, .notices] := by
  have epoch : t.epoch = s.epoch := by simpa using h.epoch
  have rest : t.rest = s.rest := by simpa using h.rest
  refine ⟨epoch, rest, h.notices s rfl epoch.symm rfl, sameBut_narrow h.same fun p listed kept => ?_⟩
  have only : p = .epoch ∨ p = .rest := by
    cases p <;> simp at listed kept ⊢
  rcases only with rfl | rfl
  · exact epoch
  · exact rest

/-- A retirement that reports no move. -/
theorem State.readRetires.unmoved (h : s.readRetires t n c k raw) (play : t.play = s.play) :
    s.sameBut t [.lanes, .cells, .watch, .quests, .firstFault, .notices, .epoch, .rest, .lamps] :=
  sameBut_narrow h.same fun p listed kept => by
    have only : p = .play := by
      cases p <;> simp at listed kept ⊢
    exact only ▸ play

/-- The changes of a retirement, the twin's candidate known. -/
theorem leavings_of_twin (candidate : (s.cell c).state = .twin → (s.cell c).candidate = some cand) :
    s.leavings c =
      ((s.cell c).incumbent.map fun i => .lift ⟨c, s.position c⟩ i.tile.serial .retired).toList ++
        if (s.cell c).state = .twin then [.twinEnd ⟨c, s.position c⟩ cand.tile.serial .retired] else [] := by
  by_cases twin : (s.cell c).state = .twin
  · simp [State.leavings, twin, candidate twin]
  · simp [State.leavings, twin]

/-- A first or second SUSPECT entry of a cell that is no twin. -/
theorem State.reads.suspects (h : s.reads n c .sense) (outcome : classify (hear false marks) (s.threshold c) = .faulty f)
    (scores : (s.cell c).scores) (high : 12 ≤ min 15 ((s.cell c).score + 2)) (early : (s.cell c).entries < 2)
    (single : (s.cell c).state ≠ .twin) :
    ∃ t, Machine.exec (.readSlotEnd n marks) s = .next t ∧
      (∀ d, t.cell d = if d = c then (s.cell c).suspected else s.cell d) ∧
      t.firstFault = s.posted .suspect c f (min 15 ((s.cell c).score + 2)) ∧
      s.readTells t n c .sense (hear false marks) []
        (.suspect ⟨c, s.position c⟩ (min 15 ((s.cell c).score + 2)) ((s.cell c).entries + 1)) := by
  have stepped := stepped_suspects (f := f) (a := (hear false marks).amplitude) (readEnded_cell s c .sense (hear false marks) c)
    scores high early single
  rw [(readTo_ended s c .sense (hear false marks)).position] at stepped
  obtain ⟨t, run, cells, fault, tells⟩ := h.tells outcome stepped ((readTo_ended s c .sense (hear false marks)).write (s.cell c).suspected)
    (b := .suspect ⟨c, s.position c⟩ (min 15 ((s.cell c).score + 2)) ((s.cell c).entries + 1)) (by simp)
    (notify_postFault_sameBut _ _ _ _ _ _)
  refine ⟨t, run, cells, ?_, tells⟩
  rw [fault, postFault_posted, posted_congr (s := s) (by simp) (by simp)]

/-- A first or second SUSPECT entry of a twin. -/
theorem State.reads.suspectsTwin (h : s.reads n c .sense) (outcome : classify (hear false marks) (s.threshold c) = .faulty f)
    (high : 12 ≤ min 15 ((s.cell c).score + 2)) (early : (s.cell c).entries < 2) (twin : (s.cell c).state = .twin)
    (candidate : (s.cell c).candidate = some cand) :
    ∃ t, Machine.exec (.readSlotEnd n marks) s = .next t ∧
      (∀ d, t.cell d = if d = c then (s.cell c).suspected else s.cell d) ∧
      t.firstFault = s.posted .suspect c f (min 15 ((s.cell c).score + 2)) ∧
      s.readTells t n c .sense (hear false marks) [.twinEnd ⟨c, s.position c⟩ cand.tile.serial .suspect]
        (.suspect ⟨c, s.position c⟩ (min 15 ((s.cell c).score + 2)) ((s.cell c).entries + 1)) := by
  have stepped := stepped_suspects_twin (f := f) (a := (hear false marks).amplitude)
    (readEnded_cell s c .sense (hear false marks) c) high early twin candidate
  rw [(readTo_ended s c .sense (hear false marks)).position] at stepped
  obtain ⟨t, run, cells, fault, tells⟩ := h.tells outcome stepped
    (((readTo_ended s c .sense (hear false marks)).write (s.cell c).suspected).commit
      (.twinEnd ⟨c, s.position c⟩ cand.tile.serial .suspect))
    (b := .suspect ⟨c, s.position c⟩ (min 15 ((s.cell c).score + 2)) ((s.cell c).entries + 1)) (by simp)
    (notify_postFault_sameBut _ _ _ _ _ _)
  refine ⟨t, run, cells, ?_, tells⟩
  rw [fault, postFault_posted, posted_congr (s := s) (by simp) (by simp)]

/-- What a completed shift of `cand` comes to on the record `q` (R46): a ROTATE, a SWAP, or a DISPLACED tile and a TWIN. -/
structure State.shiftEnds (s : State) (n : Lane) (c : CellId) (k : SlotKind) (marks : List Mark) (inc : Incumbent) (cand : Candidate)
    (q : CellRec) : Prop where
  rotates : cand.tile.serial = inc.tile.serial →
    s.readDone n c k marks false (s.rotatedOn c inc cand.tile q)
      [.rotate ⟨c, s.position c⟩ cand.tile (s.facingOf c.lane cand.tile.pad)] []
  swaps : cand.tile.serial ≠ inc.tile.serial → (∀ d, d ≠ c → (s.cell d).holds cand.tile.serial = false) →
    s.readTakes n c k marks (s.swappedOn c cand.tile (hear false marks).amplitude q)
      [.swap ⟨c, s.position c⟩ cand.tile (s.facingOf c.lane cand.tile.pad)] [c] inc.tile.serial
  displaces : cand.tile.serial ≠ inc.tile.serial → ∀ holder, s.otherHolder c cand.tile.serial = some holder →
    s.readTakes n c k marks (q.twinned cand)
      [.lift ⟨c, s.position c⟩ inc.tile.serial .displaced, .twin ⟨c, s.position c⟩ cand.tile.serial holder] []
      inc.tile.serial

/-- The candidate of a shift read up to arrive_n. -/
theorem State.reads.shifts (h : s.reads n c k) (outcome : classify (hear false marks) (s.threshold c) = .good cand.tile)
    (state : (s.cell c).state = .shifting) (incumbent : (s.cell c).incumbent = some inc)
    (candidate : (s.cell c).candidate = some cand) (enough : s.sensing.arriveN ≤ cand.arrive + 1) :
    s.shiftEnds n c k marks inc { cand with arrive := cand.arrive + 1 }
      { s.cell c with
        candidate := some { cand with arrive := cand.arrive + 1 }
        peak := nextPeak (s.cell c).peak (hear false marks).amplitude } := by
  have stepped := stepped_shifts (k := k) (a := (hear false marks).amplitude) (readEnded_cell s c k (hear false marks) c) state
    incumbent candidate (by simpa using enough)
  obtain ⟨rotates, swaps, displaces⟩ := h.completesShift outcome stepped
    ((readTo_ended s c k (hear false marks)).write _) (by simp [state])
  exact ⟨rotates, swaps, displaces⟩

/-- Another tile on a tile, where arrive_n is 1. -/
theorem State.reads.shiftsOnce (h : s.reads n c k) (outcome : classify (hear false marks) (s.threshold c) = .good tile)
    (covered : (s.cell c).covered inc tile) (differ : tile ≠ inc.tile) (enough : s.sensing.arriveN ≤ 1) :
    s.shiftEnds n c k marks inc { tile := tile, arrive := 1 }
      { s.cell c with
        state := .shifting, candidate := some { tile := tile, arrive := 1 }, lift := 0
        peak := nextPeak (s.cell c).peak (hear false marks).amplitude } := by
  have stepped := stepped_shifting_completes (k := k) (a := (hear false marks).amplitude)
    (readEnded_cell s c k (hear false marks) c) covered differ (by simpa using enough)
  have single : (s.cell c).state ≠ .twin := by
    obtain ⟨-, state | state | ⟨state, -⟩⟩ := covered <;> simp [state]
  obtain ⟨rotates, swaps, displaces⟩ := h.completesShift outcome stepped
    ((readTo_ended s c k (hear false marks)).write _) single
  exact ⟨rotates, swaps, displaces⟩

/-- A tile on a cell without one, where arrive_n is 1. -/
theorem State.reads.arrivesOnce (h : s.reads n c k) (outcome : classify (hear false marks) (s.threshold c) = .good tile)
    (unseated : (s.cell c).unseated tile) (enough : s.sensing.arriveN ≤ 1) :
    let r := (s.cell c).renewed tile (hear false marks).amplitude
    ((∀ d, d ≠ c → (s.cell d).holds tile.serial = false) →
      s.readDone n c k marks false (s.seatedOn c tile r) [s.arrivalOf c tile false] [c]) ∧
      ∀ holder, s.otherHolder c tile.serial = some holder →
        s.readDone n c k marks false (r.twinned { tile := tile, arrive := 1 })
          [.twin ⟨c, s.position c⟩ tile.serial holder] [] := by
  have stepped := stepped_arriving_completes (k := k) (a := (hear false marks).amplitude)
    (readEnded_cell s c k (hear false marks) c) unseated (by simpa using enough)
  exact h.completesArrival (cand := { tile := tile, arrive := 1 }) outcome stepped
    ((readTo_ended s c k (hear false marks)).write ((s.cell c).renewed tile (hear false marks).amplitude))

/-- A twin read gone at lift_n leaves (R48). -/
theorem State.reads.leavesTwin (h : s.reads n c k) (outcome : classify (hear false marks) (s.threshold c) = .absent)
    (state : (s.cell c).state = .twin) (candidate : (s.cell c).candidate = some cand)
    (enough : s.sensing.liftN ≤ (s.cell c).lift + 1) :
    s.readDone n c k marks false (s.cell c).emptied [.twinEnd ⟨c, s.position c⟩ cand.tile.serial .read] [] := by
  have stepped := stepped_twin_leaves (k := k) (a := (hear false marks).amplitude) (readEnded_cell s c k (hear false marks) c)
    state candidate (by simpa using enough)
  rw [State.cellAt, (readTo_ended s c k (hear false marks)).position] at stepped
  exact h.commits_still outcome stepped (((readTo_ended s c k (hear false marks)).write _).commit _) (by simp)

/-- The record of a SUSPECT cell that recovers. -/
def CellRec.recovered (r : CellRec) (a : Nat) : CellRec :=
  if r.incumbent.isSome then { r with state := .seated, score := r.score - 1, lift := 0, peak := nextPeak r.peak a }
  else { r.emptied with score := r.score - 1 }

/-- A SUSPECT cell recovers (R50). -/
theorem State.reads.recovers (h : s.reads n c .sense) (outcome : classify (hear false marks) (s.threshold c) = .good tile)
    (state : (s.cell c).state = .suspect) (low : (s.cell c).score - 1 ≤ 4) :
    ∃ t, Machine.exec (.readSlotEnd n marks) s = .next t ∧
      (∀ d, t.cell d = if d = c then (s.cell c).recovered (hear false marks).amplitude else s.cell d) ∧
      s.readTells t n c .sense (hear false marks) []
        (.recovered ⟨c, s.position c⟩ ((s.cell c).score - 1) (s.cell c).incumbent.isSome) ∧ t.firstFault = s.firstFault := by
  have here := readTo_ended s c .sense (hear false marks)
  have cell := readEnded_cell s c .sense (hear false marks) c
  have stepped : (s.readEnded c .sense (hear false marks)).stepped c .sense (.good tile) (hear false marks).amplitude =
      ((s.readEnded c .sense (hear false marks)).setCell c ((s.cell c).recovered (hear false marks).amplitude)).notify
        (.recovered ⟨c, s.position c⟩ ((s.cell c).score - 1) (s.cell c).incumbent.isSome) := by
    rw [← here.position]
    cases incumbent : (s.cell c).incumbent with
    | some inc => rw [stepped_recovers cell state low incumbent, CellRec.recovered, incumbent]; rfl
    | none => rw [stepped_recovers_empty cell state low incumbent, CellRec.recovered, incumbent]; rfl
  obtain ⟨t, run, cells, fault, tells⟩ := h.tells outcome stepped (here.write _) rfl (notify_still _ _)
  exact ⟨t, run, cells, tells, by simpa using fault⟩

/-- The record of a cell that a third SUSPECT entry retires (R49). -/
def CellRec.worn (r : CellRec) : CellRec := { r with entries := 3, score := min 15 (r.score + 2) }

/-- The read of a third SUSPECT entry. -/
theorem State.readWears (s : State) (c : CellId) (raw : RawResult) (f : OutcomeKind) (scores : (s.cell c).scores)
    (high : 12 ≤ min 15 ((s.cell c).score + 2)) (late : 2 ≤ (s.cell c).entries) (a : Nat) :
    ∃ w, (s.readEnded c .sense raw).stepped c .sense (.faulty f) a = w.retire c true ∧ s.retiring w c .sense raw ∧
      w.cell c = (s.cell c).worn ∧ w.firstFault = s.posted .autoRetire c f (min 15 ((s.cell c).score + 2)) := by
  refine ⟨_, stepped_retires (readEnded_cell s c .sense raw c) scores high late, readEnded_retiring .., by simp [CellRec.worn], ?_⟩
  rw [postFault_posted, posted_congr (s := s) (by simp) (by simp)]

/-- A third SUSPECT entry with no twin to promote. -/
theorem State.reads.wearsOut (h : s.reads n c .sense) (outcome : classify (hear false marks) (s.threshold c) = .faulty f)
    (scores : (s.cell c).scores) (high : 12 ≤ min 15 ((s.cell c).score + 2)) (late : 2 ≤ (s.cell c).entries)
    (lone : ∀ i, (s.cell c).incumbent = some i → s.firstTwin i.tile.serial = none)
    (single : (s.cell c).state ≠ .twin ∨ (s.cell c).incumbent = none) :
    ∃ t, Machine.exec (.readSlotEnd n marks) s = .next t ∧ t.cell c = (s.cell c).worn.retiree ∧
      (∀ d, d ≠ c → t.cell d = s.cell d) ∧ s.readRetires t n c .sense (hear false marks) ∧
      t.firstFault = s.posted .autoRetire c f (min 15 ((s.cell c).score + 2)) ∧
      t.epoch = s.epoch + BitVec.ofNat 16 (s.leavings c).length ∧
      t.rest = (if s.leavings c = [] then s.rest else s.reportActivity.rest) ∧ t.play = s.play ∧
      (t.lamps.guard = s.lamps.guard →
        t.notices = (s.notify (.retired ⟨c, s.position c⟩ true 3)).committed (s.leavings c)) := by
  obtain ⟨w, stepped, retiring, worn, fault⟩ :=
    s.readWears c (hear false marks) f scores high late (hear false marks).amplitude
  obtain ⟨t, run, cell, others, retires, fault', rest⟩ := h.retiresLone outcome stepped retiring lone single
  rw [worn] at cell rest
  exact ⟨t, run, cell, others, retires, fault'.trans fault, rest⟩

/-- A third SUSPECT entry that promotes a twin of the tile on its cell. -/
theorem State.reads.wearsOutHeir (h : s.reads n c .sense) (outcome : classify (hear false marks) (s.threshold c) = .faulty f)
    (scores : (s.cell c).scores) (high : 12 ≤ min 15 ((s.cell c).score + 2)) (late : 2 ≤ (s.cell c).entries)
    (incumbent : (s.cell c).incumbent = some inc) (single : (s.cell c).state ≠ .twin)
    (heir : s.firstTwin inc.tile.serial = some (d, x)) :
    ∃ t, Machine.exec (.readSlotEnd n marks) s = .next t ∧ t.cell c = (s.cell c).worn.retiree ∧
      (∀ e, e ≠ c → e ≠ d → t.cell e = s.cell e) ∧ t.cell d = s.seatedRecord d x s.play.current ∧
      s.readRetires t n c .sense (hear false marks) ∧
      t.firstFault = s.posted .autoRetire c f (min 15 ((s.cell c).score + 2)) ∧ t.epoch = s.epoch + 2 ∧
      t.rest = s.reportActivity.rest ∧
      (s.movesFreely → t.play = s.playMoved [d] ∧
        (t.lamps.guard = s.lamps.guard →
          t.notices =
            (s.notify (.retired ⟨c, s.position c⟩ true 3)).committed (s.leavings c ++ [s.promotedNotice d x]))) := by
  obtain ⟨w, stepped, retiring, worn, fault⟩ :=
    s.readWears c (hear false marks) f scores high late (hear false marks).amplitude
  obtain ⟨t, run, cell, others, seat, retires, fault', rest⟩ := h.retiresHeir outcome stepped retiring incumbent single heir
  rw [worn] at cell rest
  exact ⟨t, run, cell, others, seat, retires, fault'.trans fault, rest⟩

end Sys2Proof.Machine
end

section
/-!
Reads of arriving, shifting, lifting, twin and suspect cells, put together (R44 to R50).
-/

open Sys2Proof Sys2Proof.Machine

/-- Settles O31: every read comes to one write of its cell, to board changes in a row with or without a promotion, to one notice, or to a retirement. -/
theorem shiftsTwinsAndSuspects : Obligations.ShiftsTwinsAndSuspects := by
  intro n c k marks code inc cand s running awake gate flight r raw threshold good weak faulty kind tile peak heading ended
    retiring alone becomes commits posted place raised seen heir lone holder twinned fresh commitsAll others promotes left
    toldRetired retiresWithHeir
  have reads : s.reads n c k := ⟨running, awake, gate, flight⟩
  have goodRead : good → classify raw (s.threshold c) = .good tile := fun h => classify_good h.1 h.2
  have badRead : faulty → classify raw (s.threshold c) = .faulty kind := classify_faulty
  have goneRead : raw.kind = .absent → classify raw (s.threshold c) = .absent := classify_absent
  have become : ∀ {asks q o}, classify raw (s.threshold c) = o →
      (∀ v : State, v.cell c = s.cell c → v.sensing = s.sensing → v.stepped c k o raw.amplitude = v.cellStep c asks q) →
      becomes asks q := fun outcome stepped => by
    obtain ⟨t, run, cell, others, steady, goes, traced, records, same⟩ := reads.becomes outcome stepped
    exact ⟨t, run, cell, ⟨others, steady, traced⟩, goes, records, same⟩
  have commitAll : ∀ {asks q told moved}, s.readDone n c k marks asks q told moved → commitsAll asks q told := by
    rintro asks q told moved ⟨t, run, cells, done⟩
    refine ⟨t, run, (cells c).trans (if_pos rfl), ⟨fun d other => (cells d).trans (if_neg other), done.steady, done.traced⟩, done.goes,
      done.epoch, done.pass, done.rest, fun free => ?_, done.same⟩
    obtain ⟨play, notices⟩ := done.quiet (.inl (.inl free))
    exact ⟨play.trans (playMoved_free free), notices⟩
  have commit : ∀ {q b moved}, b.class = .board → s.readDone n c k marks false q [b] moved → commits q b := by
    rintro q b moved board ⟨t, run, cells, done⟩
    refine ⟨t, run, (cells c).trans (if_pos rfl), ⟨fun d other => (cells d).trans (if_neg other), done.steady, done.traced⟩, done.goes,
      done.epoch, done.pass, done.rest, fun files free => ?_, fun free => ?_, done.same⟩
    · exact committed_lastNotice (board ▸ files) (done.quiet (.inl (.inl free))).2
    · exact (done.quiet (.inl (.inl free))).1.trans (playMoved_free free)
  have promote : ∀ {q told moved d x}, s.readPromotes n c k marks q told moved d x → promotes q told moved d x := by
    rintro q told moved d x ⟨t, run, cell, others, who, done⟩
    refine ⟨t, run, cell, who, ⟨others, done.steady, done.traced⟩, done.goes, ?_, done.pass, done.rest,
      fun free => done.quiet (.inl free), done.same⟩
    rw [done.epoch, List.length_append]
    rfl
  have single : ∀ {state}, r.state = state → state ≠ .twin → (s.cell c).state ≠ .twin := fun is not => by
    rw [show (s.cell c).state = _ from is]
    exact not
  have heirOf : ∀ {i}, r.incumbent = some i → heir = s.firstTwin i.tile.serial := fun incumbent => by
    show r.incumbent.bind _ = _
    rw [incumbent]
    rfl
  have noHeir : r.incumbent = none → heir = none := fun empty => by
    show r.incumbent.bind _ = none
    rw [empty]
    rfl
  have held : ∀ {h}, holder h → s.otherHolder c tile.serial = some h := fun ⟨other, holds, first⟩ =>
    otherHolder_iff.2 ⟨other, holds, first⟩
  have alike : ∀ {q : CellRec} {t : State}, (∀ d, t.cell d = if d = c then q else s.cell d) → ∀ d, d ≠ c → t.cell d = s.cell d :=
    fun cells d other => (cells d).trans (if_neg other)
  have same : ∀ {x : TileRead}, good → tile = x → classify raw (s.threshold c) = .good x := fun h is =>
    (goodRead h).trans (congrArg Outcome.good is)
  have again : r.candidate = some cand → tile = cand.tile → r.candidate = some { tile := tile, arrive := cand.arrive } :=
    fun candidate is => candidate.trans (congrArg (fun x => some (Candidate.mk x cand.arrive)) is.symm)
  have takes : ∀ {q told moved i}, r.incumbent = some i → s.readTakes n c k marks q told moved i.tile.serial →
      (heir = none → commitsAll false q told) ∧ ∀ d x, heir = some (d, x) → promotes q told moved d x :=
    fun incumbent ⟨lone, first⟩ => by
      rw [heirOf incumbent]
      exact ⟨fun none => commitAll (lone none), fun d x some => promote (first d x some)⟩
  have leaves : (r.state = .twin → r.candidate = some cand) → s.leavings c = left := leavings_of_twin
  have worn : k = .sense → r.scores → faulty → 12 ≤ raised → 2 ≤ r.entries → (r.state ≠ .twin ∨ r.incumbent = none) →
      s.leavings c = left → heir = none →
      ∃ t, exec (.readSlotEnd n marks) s = .next t ∧ alone t ∧ retiring t ∧ t.firstFault = posted .autoRetire ∧
        t.cell c = r.worn.retiree ∧ t.epoch = s.epoch + BitVec.ofNat 16 left.length ∧ s.passFollows t ∧
        t.rest = (if left = [] then s.rest else s.reportActivity.rest) ∧ t.play = s.play ∧ toldRetired t [] ∧
        s.sameBut t [.lanes, .cells, .watch, .quests, .firstFault, .notices, .epoch, .rest, .lamps] := by
    intro sense scores bad high late one is none
    subst sense
    obtain ⟨t, run, cell, away, retires, fault, epoch, rest, play, told⟩ := reads.wearsOut (badRead bad) scores high late
      (fun i is => (heirOf is).symm.trans none) one
    rw [is] at epoch rest told
    refine ⟨t, run, ⟨away, retires.steady, retires.traced⟩, retires.goes, fault, cell, epoch, retires.pass, rest, play, ?_,
      retires.unmoved play⟩
    show _ → t.notices = _
    rw [List.append_nil]
    exact told
  have wornHeir : k = .sense → r.scores → faulty → 12 ≤ raised → 2 ≤ r.entries → r.state ≠ .twin → s.leavings c = left →
      ∀ d x, heir = some (d, x) → retiresWithHeir d x := by
    intro sense scores bad high late one is d x first
    subst sense
    cases incumbent : r.incumbent with
    | none =>
      rw [noHeir incumbent] at first
      cases first
    | some i =>
      obtain ⟨t, run, cell, away, seat, retires, fault, epoch, rest, free⟩ :=
        reads.wearsOutHeir (badRead bad) scores high late incumbent one ((heirOf incumbent).symm.trans first)
      rw [is] at free
      exact ⟨t, run, ⟨away, retires.steady, retires.traced⟩, retires.goes, fault, cell, seat, epoch, retires.pass, rest, free,
        retires.same⟩
  refine ⟨?arriving, ?shifting, ?twin, ?settled, ?suspect, ?still, ?faulty, ?renewed, ?matched, ?gone, ?lifted, ?arriveOnce, ?liftOnce,
    ?displaced⟩
  case arriving =>
    intro state candidate
    refine ⟨fun h is more => ?_, fun absent once => ?_, fun absent again => ?_⟩
    · exact become (same h is) fun v cell sensing => stepped_arriving_counts cell state candidate (sensing ▸ more)
    · exact become (goneRead absent) fun v cell _ => stepped_arriving_misses cell state candidate once
    · exact become (goneRead absent) fun v cell _ => stepped_arriving_leaves cell state candidate again
  case shifting =>
    intro state incumbent candidate
    refine ⟨fun h is differ => ?_, fun h is more => ?_, fun h is enough serial => ?_, fun h is enough differ alone none => ?_,
      fun h is enough differ alone d x first => ?_⟩
    · exact become (goodRead h) fun v cell _ => stepped_matches cell ⟨incumbent, .inr (.inr ⟨state, cand, candidate, differ⟩)⟩ is
    · exact become (same h is) fun v cell sensing => stepped_shifting_counts cell state incumbent candidate (sensing ▸ more)
    · exact commit rfl ((reads.shifts (goodRead h) state incumbent (again candidate is) enough).rotates serial)
    · exact commit rfl (((reads.shifts (goodRead h) state incumbent (again candidate is) enough).swaps differ alone).1
        ((heirOf incumbent).symm.trans none))
    · exact (takes incumbent ((reads.shifts (goodRead h) state incumbent (again candidate is) enough).swaps differ alone)).2 d x first
  case twin =>
    intro state candidate
    refine ⟨fun h is => ?_, fun absent more => ?_, fun absent enough => ?_⟩
    · exact become (same h is) fun v cell _ => stepped_twin_stays cell state candidate
    · exact become (goneRead absent) fun v cell sensing => stepped_twin_counts cell state candidate (sensing ▸ more)
    · exact commit rfl (reads.leavesTwin (goneRead absent) state candidate enough)
  case settled =>
    intro state incumbent sense bad high
    have scores : r.scores := .inr (.inl ⟨state, by simp [incumbent]⟩)
    have one : (s.cell c).state ≠ .twin := by
      rcases state with state | state <;> exact single state (by simp)
    have leaves' : s.leavings c = left := leaves fun twin => absurd twin one
    have lifts : left = [.lift place inc.tile.serial .retired] := leaves'.symm.trans (leavings_lift one incumbent)
    refine ⟨fun early => ?_, fun late none => ?_, fun late => wornHeir sense scores bad high late one leaves'⟩
    · subst sense
      obtain ⟨t, run, cells, fault, tells⟩ := reads.suspects (badRead bad) scores high early one
      obtain ⟨-, -, notices, still⟩ := tells.quiet
      exact ⟨t, run, ⟨alike cells, tells.steady, tells.traced⟩, tells.goes, fault, (cells c).trans (if_pos rfl),
        fun files => lastNotice_congr notices (notify_lastNotice files), tells.records, still⟩
    · have ends := worn sense scores bad high late (.inl one) leaves' none
      rw [lifts] at ends
      exact ends
  case suspect =>
    intro state
    refine ⟨fun confirm h => ?_, fun confirm bad => ?_, fun sense bad => ?_, fun sense h high => ?_, fun absent empty => ?_,
      fun sense h low => ?_⟩
    · subst confirm
      exact become (goodRead h) fun v cell _ => stepped_suspect_confirm cell state
    · subst confirm
      exact become (badRead bad) fun v cell _ => stepped_suspect_faulty_confirm cell state
    · subst sense
      exact become (badRead bad) fun v cell _ => stepped_suspect_faulty cell state
    · subst sense
      exact become (goodRead h) fun v cell _ => stepped_suspect_lowers cell state high
    · exact become (goneRead absent) fun v cell _ => stepped_suspect_empty cell state empty
    · subst sense
      obtain ⟨t, run, cells, tells, fault⟩ := reads.recovers (goodRead h) state low
      obtain ⟨-, -, notices, still⟩ := tells.quiet
      refine ⟨t, run, ⟨alike cells, tells.steady, tells.traced⟩, tells.goes, (cells c).trans (if_pos rfl),
        fun files => lastNotice_congr notices (notify_lastNotice files), tells.records, ?_⟩
      exact sameBut_narrow still fun p listed kept => by
        have only : p = .firstFault := by
          cases p <;> simp at listed kept ⊢
        exact only ▸ fault
  case still =>
    exact fun state => become rfl fun v cell _ => stepped_still_self cell state
  case faulty =>
    intro state bad
    have scores : r.scores := by
      rcases state with ⟨state, -, candidate⟩ | ⟨state, incumbent, candidate⟩ | ⟨state, -, candidate⟩
      · exact .inl ⟨.inl state, by simp [candidate]⟩
      · exact .inr (.inr ⟨state, by simp [incumbent], by simp [candidate]⟩)
      · exact .inl ⟨.inr state, by simp [candidate]⟩
    have candidate : r.candidate = some cand := by
      rcases state with ⟨-, -, candidate⟩ | ⟨-, -, candidate⟩ | ⟨-, -, candidate⟩ <;> exact candidate
    have one : r.state ≠ .twin ∨ r.incumbent = none := by
      rcases state with ⟨-, empty, -⟩ | ⟨state, -⟩ | ⟨-, empty, -⟩
      · exact .inr empty
      · exact .inl (single state (by simp))
      · exact .inr empty
    have leaves' : s.leavings c = left := leaves fun _ => candidate
    refine ⟨fun confirm => ?_, fun sense low => ?_, fun sense high early => ?_, fun sense high late none => ?_,
      fun sense high late d x first => ?_⟩
    · subst confirm
      exact become (badRead bad) fun v cell _ => stepped_faulty_confirm cell scores
    · subst sense
      exact become (badRead bad) fun v cell _ => stepped_faulty_sense cell scores low
    · subst sense
      have record : { r with state := .suspect, candidate := none, lift := 0, absent := 0, entries := r.entries + 1
                             score := raised } = r.suspected := by
        have still : r.state ≠ .lifting := by
          rcases state with ⟨state, -⟩ | ⟨state, -⟩ | ⟨state, -⟩ <;> simp [state]
        rw [CellRec.suspected, if_neg still]
      rw [record]
      by_cases twin : r.state = .twin
      · obtain ⟨t, run, cells, fault, tells⟩ := reads.suspectsTwin (badRead bad) high early twin candidate
        exact ⟨t, run, ⟨alike cells, tells.steady, tells.traced⟩, tells.goes, fault, (cells c).trans (if_pos rfl),
          fun other => absurd twin other,
          fun _ => ⟨tells.epoch, tells.pass (by simp), tells.rest, tells.notices _ rfl (by simp [tells.epoch]) (by simp)⟩, tells.records,
          sameBut_mono tells.same (by simp)⟩
      · obtain ⟨t, run, cells, fault, tells⟩ := reads.suspects (badRead bad) scores high early twin
        obtain ⟨epoch, rest, notices, still⟩ := tells.quiet
        exact ⟨t, run, ⟨alike cells, tells.steady, tells.traced⟩, tells.goes, fault, (cells c).trans (if_pos rfl),
          fun _ => ⟨epoch, rest, notices⟩, fun is => absurd is twin, tells.records, sameBut_mono still (by simp)⟩
    · have ends := worn sense scores bad high late one leaves' none
      rcases state with ⟨state, empty, -⟩ | ⟨state, incumbent, -⟩ | ⟨state, empty, -⟩
      · rw [leaves'.symm.trans (leavings_empty (single state (by simp)) empty)] at ends
        rw [if_pos state, if_pos state, ← BitVec.add_zero s.epoch]
        exact ends
      · rw [leaves'.symm.trans (leavings_lift (single state (by simp)) incumbent)] at ends
        rw [if_neg (by simp [state]), if_neg (by simp [state])]
        exact ends
      · rw [leaves'.symm.trans (leavings_twin state empty candidate)] at ends
        rw [if_neg (by simp [state]), if_neg (by simp [state])]
        exact ends
    · rcases one with one | empty
      · exact wornHeir sense scores bad high late one leaves' d x first
      · rw [noHeir empty] at first
        cases first
  case renewed =>
    intro h more
    refine ⟨fun state candidate differ => ?_, fun state incumbent candidate differ other => ?_, fun state incumbent differ => ?_,
      fun state candidate differ => ?_⟩
    · rw [state]
      exact become (goodRead h) fun v cell sensing =>
        stepped_arriving_asks cell (.inr ⟨state, cand, candidate, differ⟩) (sensing ▸ more)
    · rw [state]
      exact become (goodRead h) fun v cell sensing =>
        stepped_shifting_asks cell ⟨incumbent, .inr (.inr ⟨state, cand, candidate, differ⟩)⟩ other (sensing ▸ more)
    · exact become (goodRead h) fun v cell sensing =>
        stepped_shifting_asks cell ⟨incumbent, .inr (.inl state)⟩ differ (sensing ▸ more)
    · exact commitAll (reads.endsTwin (goodRead h) state candidate differ more)
  case matched =>
    exact fun state incumbent h is => become (goodRead h) fun v cell _ => stepped_matches cell ⟨incumbent, .inr (.inl state)⟩ is
  case gone =>
    exact fun state incumbent candidate absent more => become (goneRead absent) fun v cell sensing =>
      stepped_gone_asks cell (.inr ⟨state, by simp [candidate]⟩) incumbent (sensing ▸ more)
  case lifted =>
    intro state incumbent absent
    have lifts : s.sensing.liftN ≤ r.lift + 1 → _ := fun enough => reads.lifts (goneRead absent)
      (fun v cell sensing => stepped_suspect_lifts cell state incumbent (sensing ▸ enough)) (single state (by simp))
      (single state (by simp))
    refine ⟨fun more => ?_, fun enough => (takes incumbent (lifts enough)).2, fun enough => (takes incumbent (lifts enough)).1⟩
    exact become (goneRead absent) fun v cell sensing => stepped_suspect_counts cell state incumbent (sensing ▸ more)
  case arriveOnce =>
    intro h enough
    refine ⟨fun state => ?_, fun state candidate differ => ?_, fun state => ?_⟩
    · have unseated : r.unseated tile := by
        rcases state with state | ⟨state, candidate, differ⟩
        · exact .inl state
        · exact .inr ⟨state, cand, candidate, differ⟩
      obtain ⟨arrives, twins⟩ := reads.arrivesOnce (goodRead h) unseated enough
      exact ⟨fun alone => commitAll (arrives alone), fun d holds => commitAll (twins d (held holds))⟩
    · obtain ⟨arrives, twins⟩ := reads.replacesTwin (goodRead h) state candidate differ enough
      exact ⟨fun alone => commitAll (arrives alone), fun d holds => commitAll (twins d (held holds))⟩
    · have incumbent : r.incumbent = some inc := by
        rcases state with ⟨-, incumbent, -⟩ | ⟨-, incumbent, -⟩ <;> exact incumbent
      have differ : tile ≠ inc.tile := by
        rcases state with ⟨-, -, differ⟩ | ⟨-, -, -, -, differ⟩ <;> exact differ
      have covered : r.covered inc tile := by
        refine ⟨incumbent, ?_⟩
        rcases state with ⟨state | state, -⟩ | ⟨state, -, candidate, other, -⟩
        · exact .inl state
        · exact .inr (.inl state)
        · exact .inr (.inr ⟨state, cand, candidate, other⟩)
      have ends := reads.shiftsOnce (goodRead h) covered differ enough
      exact ⟨fun same => commitAll (ends.rotates same), fun other alone => takes incumbent (ends.swaps other alone),
        fun other d holds => takes incumbent (ends.displaces other d (held holds))⟩
  case liftOnce =>
    intro absent enough state
    have incumbent : r.incumbent = some inc := by
      rcases state with ⟨-, incumbent⟩ | ⟨-, incumbent, -⟩ <;> exact incumbent
    have entered : r.state = .seated ∨ r.state = .shifting ∧ r.candidate.isSome = true := by
      rcases state with ⟨state, -⟩ | ⟨state, -, candidate⟩
      · exact .inl state
      · exact .inr ⟨state, by simp [candidate]⟩
    have one : (s.cell c).state ≠ .twin := by
      rcases entered with state | ⟨state, -⟩ <;> exact single state (by simp)
    exact takes incumbent (reads.lifts (goneRead absent)
      (fun v cell sensing => stepped_gone_lifts cell entered incumbent (sensing ▸ enough)) one (by simp))
  case displaced =>
    intro state incumbent candidate h is enough differ holder' holds
    rw [show ({ cand with arrive := cand.arrive + 1 } : Candidate) = { tile := tile, arrive := cand.arrive + 1 } by rw [is]]
    exact takes incumbent
      ((reads.shifts (goodRead h) state incumbent (again candidate is) enough).displaces differ holder' (held holds))

end

section
/-!
Lane clears at the end of their event (R19, R53, R56).
-/

namespace Sys2Proof.Machine

open Sys2Proof

variable {s t w : State} {n : Lane} {c : CellId} {v : LaneUnit} {y : Serial}

/-! ### The cells that a lane clear empties -/

/-- A promotion seats a TWIN cell, and writes no other. -/
theorem promote_cell_single (single : (s.cell c).state ≠ .twin) : (s.promote y).cell c = s.cell c := by
  cases first : s.firstTwin y with
  | none => rw [promote_none first]
  | some e =>
    obtain ⟨d, x⟩ := e
    have other : c ≠ d := fun here => single (here ▸ (twinOf_eq_some.1 (firstTwin_twinOf first)).1)
    rw [promote_some first, seat_cell, if_neg other]

/-- So do promotions in a row. -/
theorem promotes_cell_single (ys : List Serial) : ∀ {s : State}, (s.cell c).state ≠ .twin →
    (ys.foldl State.promote s).cell c = s.cell c := by
  induction ys with
  | nil => exact fun _ => rfl
  | cons y ys ih =>
    intro s single
    have still := promote_cell_single (y := y) single
    rw [List.foldl_cons, ih (still.symm ▸ single), still]

/-- A HELD cell of the lane is VACANT after the lane clear, whatever it promotes. -/
theorem clearCells_held (lane : c.lane = n) (held : (s.cell c).state = .held) : (s.clearCells n).cell c = (s.cell c).emptied := by
  have emptied : (s.laneCleared n).cell c = (s.cell c).emptied := by
    rw [(laneCleared_frame s n).1, emptyHeld_cell, if_pos ⟨lane, held⟩]
    rfl
  rw [clearCells_eq, promotes_cell_single _ (by simp [emptied, CellRec.emptied]), emptied]

/-! ### The end of the event -/

/-- The event of a lane clear: the lane's cells cleared, the lane written, and the arbiters' grants. -/
def State.clearsLane (w : State) (n : Lane) (v : LaneUnit) : State := ((w.clearCells n).setLane n v).finish

/-- The lanes after a lane clear. -/
theorem clearsLane_lanes (idle : v.state ≠ .running) : (w.clearsLane n v).lane n = v ∧ w.otherLanesSteady (w.clearsLane n v) n :=
  finish_setLane idle fun m _ => by simp

/-- The cells after a lane clear. -/
theorem clearsLane_cell (w : State) (n : Lane) (v : LaneUnit) (c : CellId) : (w.clearsLane n v).cell c = (w.clearCells n).cell c := by
  simp [State.clearsLane]

/-- What a lane clear leaves alone. -/
theorem clearsLane_sameBut (w : State) (n : Lane) (v : LaneUnit) :
    w.sameBut (w.clearsLane n v) [.lanes, .cells, .epoch, .notices, .quests, .rest, .play] := by
  intro p changed
  cases p <;> simp [Component.same, State.clearsLane] at changed ⊢

/-- A lane clear with no TWIN cell to promote. -/
structure State.clearsAlone (w t : State) (n : Lane) : Prop where
  epoch : t.epoch = w.epoch + 1
  cells : ∀ c, t.cell c =
    if c.lane = n ∧ (w.cell c).state = .held then
      { w.cell c with state := .vacant, incumbent := none, candidate := none, lift := 0, absent := 0, peak := 0 }
    else w.cell c
  told : w.files .fault → t.lastNotice (.laneLost n (heldTiles w.cell n).length)
  rest : t.rest = w.reportActivity.rest
  pass : w.passFollows t
  same : w.sameBut t [.lanes, .cells, .epoch, .notices, .quests, .rest]

theorem clearsLane_alone (v : LaneUnit) (single : ∀ c, (w.cell c).state ≠ .twin) : w.clearsAlone (w.clearsLane n v) n := by
  obtain ⟨cells, -, -, -, epoch, notices⟩ := laneCleared_frame w n
  rw [State.clearsLane, clearCells_noTwin n single]
  refine ⟨by simp [epoch], fun c => ?_, fun files => ?_, ?_, finish_passFollows (by simp [laneCleared_quests]), fun k hk => ?_⟩
  · rw [← emptyHeld_cell, ← cells]
    simp
  · exact lastNotice_congr (by simp [notices]) (commit_lastNotice files)
  · simp [laneCleared_rest]
  · cases k <;> simp [Component.same, State.laneCleared, State.emptyHeld] at hk ⊢

/-! ### Lane clears with promotions -/

/-- The same Quest Engine has the same pass follow. -/
theorem passFollows_of (quests : w.quests = s.quests) (h : w.passFollows t) : s.passFollows t := by
  rwa [State.passFollows, quests] at h

/-- What promotions leave, read off a state that has the cells of their twins. -/
theorem promotesAll_of {r : State} {at_ : CellId → CellRec} {u : NoticeUnit} {b : NoticeBody} {twins : List (CellId × TileRead)}
    (cells : ∀ d x, (d, x) ∈ twins → r.cell d = s.cell d)
    (still : r.plan = s.plan ∧ r.roster = s.roster ∧ r.play = s.play ∧ r.epoch = s.epoch ∧ r.quests = s.quests)
    (rest : r.reportActivity.rest = s.reportActivity.rest) (h : r.promotesAll t at_ u b twins) : s.promotesAll t at_ u b twins := by
  obtain ⟨plan, roster, play, epoch, quests⟩ := still
  obtain ⟨others, seated, raised, pass, active, free⟩ := h
  have freely : r.movesFreely = s.movesFreely := by simp only [State.movesFreely, play]
  have told : ∀ l, { r with notices := u }.committed l = { s with notices := u }.committed l := fun l =>
    committed_congr l rfl epoch (congrArg (·.clock) play)
  refine ⟨others, fun d x twin => ?_, epoch ▸ raised, ?_, active.trans rest, fun moves => ?_⟩
  · obtain ⟨who, record, placed⟩ := seated d x twin
    rw [freely, play] at placed
    exact ⟨who, record.trans (seatedRecord_congr x who (cells d x twin) plan roster (by rw [play])), placed⟩
  · exact passFollows_of quests pass
  · obtain ⟨moved, notices⟩ := free (freely ▸ moves)
    rw [told, promotedNotice_congr plan] at notices
    exact ⟨moved.trans (congrFun (playMoved_congr plan play) _), notices⟩

/-- A lane clear with unique serials. -/
theorem clearsLane_promotesAll (v : LaneUnit) (unique : w.serialsUnique) :
    w.promotesAll (w.clearsLane n v)
      (fun c =>
        if c.lane = n ∧ (w.cell c).state = .held then
          { w.cell c with state := .vacant, incumbent := none, candidate := none, lift := 0, absent := 0, peak := 0 }
        else w.cell c)
      w.notices (.laneLost n (heldTiles w.cell n).length) (w.promotions (heldTiles w.cell n)) := by
  have clear := clearCells_promotesAll n v unique
  rwa [funext (emptyHeld_cell w n)] at clear

/-- Equal maps promote the same twins. -/
theorem promotions_congr (cell : w.cell = s.cell) (gone : List Incumbent) : w.promotions gone = s.promotions gone := by
  have first : w.firstTwin = s.firstTwin := by
    funext x
    exact firstTwin_congr fun c => by rw [cell]
  rw [State.promotions, first]
  rfl

/-- The cells HELD with a tile are the HELD cells, where each has one. -/
theorem heldTiles_count (present : ∀ c, (s.cell c).present = true) :
    (heldTiles s.cell n).length = (laneCells n).countP fun c => decide ((s.cell c).state = .held) := by
  rw [heldTiles_length]
  refine List.countP_congr fun c _ => ?_
  have tile := present c
  cases state : (s.cell c).state <;> simp [CellRec.present, state] at tile ⊢
  exact tile.1

/-! ### HOLD_TIMER_EXPIRY (R19) -/

/-- The lane whose hold timer has run out. -/
def LaneUnit.expired (u : LaneUnit) : LaneUnit :=
  if u.state = .lost then { u with hold := none, state := .absent } else { u with hold := none, returnState := some .absent }

/-- The state whose hold timer on lane `n` has stopped, before the lane clear. -/
def State.holdStopped (s : State) (n : Lane) : State := s.setLane n { s.lane n with hold := none }

/-- A state with one lane written is the same but for the lanes. -/
theorem setLane_still (n : Lane) (v : LaneUnit) (l : List Component) (lanes : .lanes ∈ l) : s.sameBut (s.setLane n v) l :=
  sameBut_mono (l := [.lanes]) (fun p changed => by cases p <;> simp [Component.same] at changed ⊢) (by simpa using lanes)

theorem exec_holdTimerExpiry (running : s.chip = .running) (runs : (s.lane n).hold.isSome = true) (lawful : (s.lane n).lawful) :
    exec (.holdTimerExpiry n) s = .next ((s.holdStopped n).clearsLane n (s.lane n).expired) := by
  obtain ⟨-, -, hold, -⟩ := lawful
  rw [exec_live (fun s => if (s.lane n).hold.isSome then (s.expireHold n).finish else s) rfl running, if_pos runs]
  rcases hold runs with lost | ⟨linking, -⟩
  · rw [expireHold_lost lost, LaneUnit.expired, if_pos lost]
    rfl
  · rw [expireHold_linking linking, LaneUnit.expired, if_neg (by simp [linking])]
    rfl

/-- A lane whose hold timer has run out is granted nothing. -/
theorem expired_idle (runs : v.hold.isSome = true) (lawful : v.lawful) : v.expired.state ≠ .running := by
  obtain ⟨-, -, hold, -⟩ := lawful
  unfold LaneUnit.expired
  rcases hold runs with lost | ⟨linking, -⟩
  · simp [lost]
  · simp [linking]

end Sys2Proof.Machine

open Sys2Proof Sys2Proof.Machine

/-- Settles O21: the lane clear as one board change with its promotions, on the state whose hold timer has stopped. -/
theorem holdTimerExpiryClearsTheLane : Obligations.HoldTimerExpiryClearsTheLane := by
  intro n s running u runs lawful gone
  obtain ⟨lane, others⟩ := clearsLane_lanes (w := s.holdStopped n) (n := n) (expired_idle runs lawful)
  have steady : s.otherLanesSteady ((s.holdStopped n).clearsLane n u.expired) n := fun m other => by
    have here := others m other
    rwa [State.holdStopped, setLane_lane_ne _ _ other] at here
  refine ⟨_, exec_holdTimerExpiry running runs lawful, fun lost => ?_, fun linking => ?_, fun c here held => ?_, fun single => ?_,
    fun unique => ⟨?_, steady, ?_⟩⟩
  · exact lane.trans (if_pos lost)
  · exact lane.trans (if_neg (by simp [linking]))
  · exact (clearsLane_cell ..).trans (clearCells_held here held)
  · have clears := clearsLane_alone (w := s.holdStopped n) (n := n) u.expired single
    refine ⟨fun c apart => (clears.cells c).trans (if_neg apart), clears.epoch, fun files present => ?_, passFollows_of (w := s.holdStopped n) rfl clears.pass, steady,
      clears.rest.trans (reportActivity_rest_congr rfl), sameBut_trans (setLane_still n _ _ (by simp)) clears.same⟩
    rw [← heldTiles_count present]
    exact clears.told files
  · have cell : (s.holdStopped n).cell = s.cell := rfl
    have notices : (s.holdStopped n).notices = s.notices := rfl
    have clears := clearsLane_promotesAll (w := s.holdStopped n) (n := n) u.expired unique
    rw [promotions_congr (s := s) cell, cell, notices] at clears
    exact promotesAll_of (r := s.holdStopped n) (fun _ _ _ => rfl) ⟨rfl, rfl, rfl, rfl, rfl⟩ (reportActivity_rest_congr rfl) clears
  · exact sameBut_trans (setLane_still n _ _ (by simp)) (clearsLane_sameBut (s.holdStopped n) n u.expired)

end

section
/-!
Losses of a lane: what leaves RUNNING, and its hold timer (R17 to R20, R35, R54).
-/

namespace Sys2Proof.Machine

open Sys2Proof

variable {s t w : State} {n : Lane} {c : CellId} {v : LaneUnit}

/-! ### The part state -/

/-- A hold timer that runs out leaves the part state. -/
theorem expireHold_part (s : State) (n : Lane) : (s.expireHold n).rest.part = s.rest.part := by
  have cleared := (part_trackerKept s.rest.part).clearCells (s := s.setLane n { s.lane n with hold := none }) rfl n
  unfold State.expireHold
  dsimp only
  split <;> exact cleared

theorem startHold_part (s : State) (n : Lane) : (s.startHold n).rest.part = s.rest.part := by
  unfold State.startHold
  split
  · exact expireHold_part s n
  · rfl

/-! ### A RUNNING lane lost, before its hold timer starts (R18 steps 1 to 4) -/

/-- The lane leaves RUNNING (R18 step 1). -/
def State.unpowered (s : State) (n : Lane) : State := s.lampEvent fun s => s.setLane n ((s.lane n).stopped .lost)

/-- A pending check ends with a FAIL (R35). -/
def State.unchecked (s : State) (n : Lane) : State :=
  if (s.lane n).checkPending then (s.unpowered n).endCheck n false { kind := .absent, pad := none, amplitude := 0 } else s.unpowered n

/-- Its cells are HELD and LANE_GONE is queued. -/
def State.cutOff (s : State) (n : Lane) : State :=
  ((s.unchecked n).loseCells n).notify (.laneGone n ((s.unchecked n).becomeHeldCount n))

/-- The loss is these steps, the hold timer's start, and a waiting park that completes. -/
theorem loseLane_eq (s : State) (n : Lane) :
    s.loseLane n = if (s.lane n).parkWaiting then ((s.cutOff n).startHold n).completePark n else (s.cutOff n).startHold n := rfl

/-- What the loss of a RUNNING lane leaves before its hold timer starts, beside the link and the first-fault record; the lane stood as `u`. -/
structure State.cutsOff (s w : State) (n : Lane) (u : LaneUnit) : Prop where
  lane : ∃ b, w.lane n = { u.stopped .lost with checkPending := false, stale := b } ∧ (u.stale = true → b = true)
  others : ∀ m, m ≠ n → ∃ b, w.lane m = { s.lane m with stale := b }
  cells : ∀ c, w.cell c = if c.lane = n then (s.cell c).lose else s.cell c
  lamps : w.lamps = { s.lamps with guard := w.lamps.guard }
  filed : s.filed w [.laneGone n (s.becomeHeldCount n)]
  told : s.files .fault → w.lastNotice (.laneGone n (s.becomeHeldCount n))
  same : s.sameBut w [.lanes, .lamps, .notices, .cells, .link, .firstFault]

/-- A check that ends leaves everything but its lane, the link and the first-fault record. -/
theorem endCheck_still (w : State) (n : Lane) (verdict : Bool) (r : RawResult) :
    (w.endCheck n verdict r).cells = w.cells ∧ (w.endCheck n verdict r).lamps = w.lamps ∧
      (w.endCheck n verdict r).notices = w.notices ∧ w.sameBut (w.endCheck n verdict r) [.lanes, .link, .firstFault] := by
  refine ⟨by simp, by simp, by simp, fun p hp => ?_⟩
  cases p <;> simp [Component.same] at hp ⊢

/-- What a lane leaves that has lost its power, its cells as they were. -/
structure State.unpowers (s w : State) (n : Lane) : Prop where
  lane : ∃ b, w.lane n = { (s.lane n).stopped .lost with checkPending := (w.lane n).checkPending, stale := b } ∧
    ((s.lane n).stale = true → b = true)
  others : ∀ m, m ≠ n → ∃ b, w.lane m = { s.lane m with stale := b }
  lamps : w.lamps = { s.lamps with guard := w.lamps.guard }
  filed : s.filed w []
  room : w.notices.queue.length ≤ s.notices.queue.length + 1
  unit : w.notices.opened = s.notices.opened ∧ w.notices.modes = s.notices.modes
  same : s.sameBut w [.lanes, .lamps, .notices, .link, .firstFault]

theorem unpowered_unpowers (s : State) (n : Lane) : s.unpowers (s.unpowered n) n where
  lane := by
    have own := lampEvent_lane_stale s n fun s => s.setLane n ((s.lane n).stopped .lost)
    rw [setLane_lane_same] at own
    rw [State.unpowered, own]
    exact ⟨_, rfl, fun stale => by simp [LaneUnit.stopped, stale]⟩
  others m other := by
    obtain ⟨b, lane⟩ := stopped_lanes s n .lost m
    rw [if_neg other] at lane
    exact ⟨b, lane⟩
  lamps := (lampEvent_guardAlone (f := fun s => s.setLane n ((s.lane n).stopped .lost)) rfl rfl).1
  filed := lampEvent_filed rfl rfl rfl
  room := lampEvent_length rfl
  unit := by simp [State.unpowered]
  same p hp := by cases p <;> simp [Component.same, State.unpowered] at hp ⊢

theorem unchecked_unpowers (s : State) (n : Lane) : s.unpowers (s.unchecked n) n := by
  have h := unpowered_unpowers s n
  unfold State.unchecked
  split
  case isFalse => exact h
  case isTrue =>
    generalize s.unpowered n = w at h
    obtain ⟨b, lane, stale⟩ := h.lane
    obtain ⟨cells, lamps, notices, still⟩ := endCheck_still w n false { kind := .absent, pad := none, amplitude := 0 }
    refine ⟨⟨b, ?_, stale⟩, fun m other => ?_, by rw [lamps]; exact h.lamps, ?_, by rw [notices]; exact h.room,
      by rw [notices]; exact h.unit, sameBut_trans h.same (sameBut_mono still (by simp))⟩
    · rw [endCheck_lane, if_pos rfl, lane]
    · rw [endCheck_lane, if_neg other]
      exact h.others m other
    · obtain ⟨bs, made, told⟩ := h.filed
      exact ⟨bs, notices.trans made, told⟩

/-- With its check ended, the lane has none pending. -/
theorem unchecked_check (s : State) (n : Lane) : ((s.unchecked n).lane n).checkPending = false := by
  unfold State.unchecked
  split
  case isTrue => rw [endCheck_lane, if_pos rfl]
  case isFalse off =>
    obtain ⟨b, lane⟩ := stopped_lanes s n .lost n
    rw [if_pos rfl] at lane
    rw [State.unpowered, lane]
    simpa [LaneUnit.stopped] using off

theorem becomeHeldCount_congr (cells : ∀ c, w.cell c = s.cell c) : w.becomeHeldCount n = s.becomeHeldCount n := by
  simp [State.becomeHeldCount, cells]

theorem cutOff_cutsOff (s : State) (n : Lane) : s.cutsOff (s.cutOff n) n (s.lane n) := by
  have h := unchecked_unpowers s n
  have check := unchecked_check s n
  have cells : ∀ c, (s.unchecked n).cell c = s.cell c := fun c => by
    have cells : (s.unchecked n).cells = s.cells := h.same .cells (by simp)
    rw [State.cell, cells]
    rfl
  rw [State.cutOff, becomeHeldCount_congr cells]
  generalize s.unchecked n = w at h check cells
  obtain ⟨b, lane, stale⟩ := h.lane
  have epoch : w.epoch = s.epoch := h.same .epoch (by simp)
  have play : w.play = s.play := h.same .play (by simp)
  refine ⟨⟨b, ?_, stale⟩, fun m other => ?_, fun c => ?_, ?_, ?_, fun ⟨opened, on, room⟩ => ?_, fun p hp => ?_⟩
  · rw [check] at lane
    simpa using lane
  · simpa using h.others m other
  · rw [← cells, ← loseCells_cell]
    simp
  · simpa using h.lamps
  · exact filed_trans h.filed (filed_one rfl (notify_notices_congr _ (by simp) (by simp) (by simp))) epoch (by rw [play])
  · refine notify_last (by simpa [h.unit] using opened) (by simpa [h.unit, NoticeBody.class] using on) ?_
    have queue := h.room
    simp only [loseCells_frame]
    omega
  · have first := h.same p
    cases p <;> simp [Component.same] at hp first ⊢ <;> exact first

/-- A lane whose connector is gone, cut off. -/
def State.pulled (s : State) (n : Lane) : State := (s.setConnector n false).cutOff n

theorem pulled_cutsOff (s : State) (n : Lane) : s.cutsOff (s.pulled n) n { s.lane n with connector := false } := by
  have h := cutOff_cutsOff (s.setConnector n false) n
  have filed := filed_trans (s := s) (t := s.setConnector n false) (filed_nil rfl) h.filed rfl rfl
  rw [State.setConnector, setLane_lane_same] at h
  refine ⟨h.lane, fun m other => ?_, h.cells, h.lamps, filed, h.told, sameBut_trans (setLane_still n _ _ (by simp)) h.same⟩
  obtain ⟨b, lane⟩ := h.others m other
  rw [setLane_lane_ne _ _ other] at lane
  exact ⟨b, lane⟩

/-- Without a check pending, the link and the first-fault record are left alone. -/
theorem pulled_unchecked (off : (s.lane n).checkPending = false) :
    (s.pulled n).link = s.link ∧ (s.pulled n).firstFault = s.firstFault := by
  have plain : (s.setConnector n false).unchecked n = (s.setConnector n false).unpowered n :=
    if_neg (by simp [State.setConnector, off])
  rw [State.pulled, State.cutOff, plain]
  simp [State.unpowered, State.setConnector]

/-- A check that is pending ends with its reply and its post (R35, R61). -/
theorem pulled_checked (on : (s.lane n).checkPending = true) :
    (s.pulled n).link =
        { s.link with
          inHand := none
          replies :=
            s.link.replies ++
              [{ kind := 0x9A, status := .success
                 data := checkData false { kind := .absent, pad := none, amplitude := 0 } }] } ∧
      (s.pulled n).firstFault =
        match s.firstFault with
        | some f => some { f with later := min 255 (f.later + 1) }
        | none =>
          some { cause := .laneCheck, place := .lane n, outcome := .absent, score := 0, clock := s.play.clock, later := 0 } := by
  have checked : (s.setConnector n false).unchecked n =
      ((s.setConnector n false).unpowered n).endCheck n false { kind := .absent, pad := none, amplitude := 0 } :=
    if_pos (by simp [State.setConnector, on])
  have unpowered : ((s.setConnector n false).unpowered n).link = s.link ∧
      ((s.setConnector n false).unpowered n).firstFault = s.firstFault ∧
      ((s.setConnector n false).unpowered n).play = s.play := by
    simp [State.unpowered, State.setConnector]
  obtain ⟨link, fault, play⟩ := unpowered
  rw [State.pulled, State.cutOff, checked]
  refine ⟨?_, ?_⟩
  · rw [← link]
    simp [endCheck_link, replyKind]
  · rw [← fault, ← play]
    simp [endCheck_firstFault, ResultKind.outcome] <;> rfl

/-! ### The end of the event -/

/-- What the loss of a lane leaves where its hold timer does not run out at once, beside the link and the first-fault record. -/
structure State.lostTo (s t : State) (n : Lane) (v : LaneUnit) : Prop where
  lane : t.lane n = v
  others : s.otherLanesSteady t n
  cells : ∀ c, t.cell c = if c.lane = n then (s.cell c).lose else s.cell c
  told : s.files .fault → t.lastNotice (.laneGone n (s.becomeHeldCount n))
  lamps : t.lamps = { s.lamps with guard := t.lamps.guard }
  records : t.quests.records = s.quests.records
  same : s.sameBut t [.lanes, .lamps, .notices, .quests, .cells, .link, .firstFault]

/-- The other lanes are steady at the end of an event that changed their stale flags alone. -/
theorem finish_others {u : State} (others : ∀ m, m ≠ n → ∃ b, u.lane m = { s.lane m with stale := b }) :
    s.otherLanesSteady u.finish n := fun m other => by
  obtain ⟨b, lane⟩ := others m other
  have steady := finish_steady u m
  rw [lane] at steady
  exact steady

/-- The lane written after its loss, out of the arbiter's reach. -/
theorem State.cutsOff.finish {u : LaneUnit} {x : State} (h : s.cutsOff w n u) (own : x.lane n = v) (idle : v.state ≠ .running)
    (others : ∀ m, m ≠ n → x.lane m = w.lane m) (still : w.sameBut x [.lanes, .link]) : s.lostTo x.finish n v := by
  have cells : x.cells = w.cells := still .cells (by simp)
  have lamps : x.lamps = w.lamps := still .lamps (by simp)
  have notices : x.notices = w.notices := still .notices (by simp)
  refine ⟨finish_written_idle own (unpowered_idle idle), finish_others fun m other => ?_, fun c => ?_, fun files => ?_, ?_, ?_,
    fun p hp => ?_⟩
  · rw [others m other]
    exact h.others m other
  · rw [← h.cells, State.cell, State.cell, (finish_frame x).2.2.2.1, cells]
  · exact lastNotice_congr (by simp [notices]) (h.told files)
  · rw [(finish_frame x).2.2.2.2.2.2.2.2.2.2.2.1, lamps]
    exact h.lamps
  · rw [finish_records, still .quests (by simp), h.same .quests (by simp)]
  · have first := h.same p
    have second := still p
    cases p <;> simp [Component.same] at hp first second ⊢ <;> simp [first, second]

end Sys2Proof.Machine
end

section
/-!
CONNECTOR_LOST by the state of its lane (R15, R17 to R20).
-/

namespace Sys2Proof.Machine

open Sys2Proof

variable {s t w : State} {n : Lane} {c : CellId} {u v : LaneUnit}

/-! ### The cells of a lane that is lost (R54) -/

/-- The table of R54. -/
theorem lose_table (r : CellRec) :
    r.lose =
      match r.state with
      | .seated | .shifting | .lifting => { r with state := .held, candidate := none, lift := 0, absent := 0 }
      | .suspect =>
        if r.incumbent.isSome then { r with state := .held, candidate := none, lift := 0, absent := 0 } else r
      | .arriving | .twin =>
        { r with state := .vacant, incumbent := none, candidate := none, lift := 0, absent := 0, peak := 0 }
      | .vacant | .held | .retired => r := by
  unfold CellRec.lose
  cases r.state <;> cases r.incumbent <;> rfl

/-- No cell is TWIN after a LOSS. -/
theorem lose_single (r : CellRec) : r.lose.state ≠ .twin := by
  rw [lose_table]
  cases state : r.state <;> dsimp only
  case suspect => split <;> simp [state]
  all_goals simp [state]

/-- A LOSS leaves the score and the entries. -/
theorem lose_emptied (r : CellRec) : r.lose.emptied = r.emptied := by
  rw [lose_table]
  cases r.state <;> dsimp only
  case suspect => split <;> rfl
  all_goals rfl

/-- How many cells become HELD, counted on a map that the LOSS has left. -/
theorem becomeHeldCount_of (cells : ∀ c, t.cell c = if c.lane = n then (s.cell c).lose else s.cell c) :
    ((laneCells n).countP fun c => decide ((s.cell c).state ≠ .held ∧ (t.cell c).state = .held)) = s.becomeHeldCount n := by
  refine List.countP_congr fun c here => ?_
  obtain ⟨i, -, rfl⟩ := List.mem_map.1 here
  simp [cells]

/-! ### The event -/

theorem loseLane_part (s : State) (n : Lane) : (s.loseLane n).rest.part = s.rest.part := by
  have rest : (s.cutOff n).rest = s.rest := (cutOff_cutsOff s n).same .rest (by simp)
  have part := startHold_part (s.cutOff n) n
  rw [rest] at part
  rw [loseLane_eq]
  split
  · simpa using part
  · exact part

theorem unlinkLane_part (s : State) (n : Lane) : (s.unlinkLane n).rest.part = s.rest.part := by
  unfold State.unlinkLane
  dsimp only
  split
  · split
    · exact startHold_part ..
    · rfl
  · rfl

/-- CONNECTOR_LOST of a RUNNING lane. -/
theorem exec_connectorLost_running (live : s.chip = .running) (awake : s.rest.part ≠ .resting) (running : (s.lane n).state = .running) :
    exec (.connectorLost n) s = .next ((s.setConnector n false).loseLane n).finish := by
  have drops : (s.setConnector n false).dropConnector n = ((s.setConnector n false).loseLane n).wake (.connector n) := by
    unfold State.dropConnector
    rw [State.setConnector, setLane_lane_same]
    simp only [running]
  rw [exec_live (fun s => ((s.setConnector n false).dropConnector n).finish) rfl live, drops,
    wake_awake _ _ (by rw [loseLane_part]; exact awake)]

/-- CONNECTOR_LOST of a LINKING lane. -/
theorem exec_connectorLost_linking (live : s.chip = .running) (awake : s.rest.part ≠ .resting) (linking : (s.lane n).state = .linking) :
    exec (.connectorLost n) s = .next ((s.setConnector n false).unlinkLane n).finish := by
  have drops : (s.setConnector n false).dropConnector n = ((s.setConnector n false).unlinkLane n).wake (.connector n) := by
    unfold State.dropConnector
    rw [State.setConnector, setLane_lane_same]
    simp only [linking]
  rw [exec_live (fun s => ((s.setConnector n false).dropConnector n).finish) rfl live, drops,
    wake_awake _ _ (by rw [unlinkLane_part]; exact awake)]

/-- CONNECTOR_LOST of any other lane. -/
theorem exec_connectorLost_noted (live : s.chip = .running) (running : (s.lane n).state ≠ .running)
    (linking : (s.lane n).state ≠ .linking) : exec (.connectorLost n) s = .next (s.setConnector n false).finish := by
  have drops : (s.setConnector n false).dropConnector n = s.setConnector n false := by
    unfold State.dropConnector
    rw [State.setConnector, setLane_lane_same]
    cases state : (s.lane n).state <;> simp_all
  rw [exec_live (fun s => ((s.setConnector n false).dropConnector n).finish) rfl live, drops]

/-! ### The hold timer of the lost lane -/

/-- With a hold time a fresh hold timer starts. -/
theorem startHold_waits (hold : w.sensing.hold ≠ 0) :
    w.startHold n = w.setLane n { w.lane n with hold := some w.sensing.hold } := if_neg hold

/-- At a hold time of 0.0 s the LOST lane is cleared at once. -/
theorem startHold_clears (lost : (w.lane n).state = .lost) (zero : w.sensing.hold = 0) :
    (w.startHold n).finish = (w.holdStopped n).clearsLane n { w.lane n with hold := none, state := .absent } := by
  unfold State.startHold
  rw [if_pos zero, expireHold_lost lost]
  rfl

theorem pulled_sensing (s : State) (n : Lane) : (s.pulled n).sensing = s.sensing := (pulled_cutsOff s n).same .sensing (by simp)

/-- A lost lane that waits for its connector. -/
theorem pulled_waits (hold : s.sensing.hold ≠ 0) :
    s.lostTo ((s.pulled n).startHold n).finish n { (s.pulled n).lane n with hold := some s.sensing.hold } := by
  have cuts := pulled_cutsOff s n
  obtain ⟨b, lane, -⟩ := cuts.lane
  rw [← pulled_sensing s n, startHold_waits (by rwa [pulled_sensing])]
  refine cuts.finish (setLane_lane_same ..) ?_ (setLane_others n _) (setLane_still n _ _ (by simp))
  rw [lane]
  simp [LaneUnit.stopped]

/-- A waiting park that completes in a LOST lane (R20). -/
theorem completePark_lost (lost : (w.lane n).state = .lost) :
    (w.completePark n).lane n =
        { w.lane n with
          parkWaiting := false, state := .parked, settle := none, hold := none, returnState := none
          latch := Table.full 12 .off } ∧
      (∀ m, m ≠ n → (w.completePark n).lane m = w.lane m) ∧
      (w.completePark n).link =
        { w.link with
          inHand := none
          replies := w.link.replies ++ [{ kind := 0x98, status := .success, data := [2, byte (w.heldCount n)] }] } ∧
      w.sameBut (w.completePark n) [.lanes, .link] := by
  have parks : (w.setLane n { w.lane n with parkWaiting := false }).park n =
      w.setLane n
        { w.lane n with
          parkWaiting := false, state := .parked, settle := none, hold := none, returnState := none
          latch := Table.full 12 .off } := by
    rw [park_still (by simp [lost]), setLane_lane_same, LaneUnit.parkedStill, if_neg (by simp [lost]), setLane_setLane]
  unfold State.completePark
  rw [parks]
  refine ⟨setLane_lane_same .., setLane_others n _, rfl, fun p changed => ?_⟩
  cases p <;> simp [Component.same, State.pushReply] at changed ⊢

/-- A lost lane whose waiting park completes. -/
theorem pulled_parks (hold : s.sensing.hold ≠ 0) :
    s.lostTo (((s.pulled n).startHold n).completePark n).finish n
        { (s.pulled n).lane n with
          parkWaiting := false, state := .parked, settle := none, hold := none, returnState := none
          latch := Table.full 12 .off } ∧
      (((s.pulled n).startHold n).completePark n).link =
        { (s.pulled n).link with
          inHand := none
          replies :=
            (s.pulled n).link.replies ++
              [{ kind := 0x98, status := .success, data := [2, byte ((s.pulled n).heldCount n)] }] } ∧
      (((s.pulled n).startHold n).completePark n).firstFault = (s.pulled n).firstFault := by
  have cuts := pulled_cutsOff s n
  obtain ⟨b, lane, -⟩ := cuts.lane
  rw [startHold_waits (by rwa [pulled_sensing])]
  generalize s.pulled n = w at cuts lane
  obtain ⟨own, others, link, still⟩ :=
    completePark_lost (w := w.setLane n { w.lane n with hold := some w.sensing.hold }) (n := n) (by
      rw [setLane_lane_same, lane]
      rfl)
  rw [setLane_lane_same] at own
  refine ⟨cuts.finish own nofun (fun m other => ?_) (sameBut_trans (setLane_still n _ _ (by simp)) still), link,
    still .firstFault (by simp)⟩
  rw [others m other, setLane_lane_ne _ _ other]

/-! ### A lost lane cleared at once -/

/-- The lost lane cleared at once. -/
def State.pulledClear (s : State) (n : Lane) : State := ((s.pulled n).startHold n).finish

theorem pulledClear_eq (zero : s.sensing.hold = 0) :
    s.pulledClear n =
      ((s.pulled n).holdStopped n).clearsLane n { (s.pulled n).lane n with hold := none, state := .absent } := by
  obtain ⟨b, lane, -⟩ := (pulled_cutsOff s n).lane
  refine startHold_clears ?_ (by rwa [pulled_sensing])
  rw [lane]
  rfl

theorem pulledClear_lanes (zero : s.sensing.hold = 0) :
    (s.pulledClear n).lane n = { (s.pulled n).lane n with hold := none, state := .absent } ∧
      s.otherLanesSteady (s.pulledClear n) n := by
  have cuts := pulled_cutsOff s n
  obtain ⟨lane, others⟩ := clearsLane_lanes (w := (s.pulled n).holdStopped n) (n := n)
    (v := { (s.pulled n).lane n with hold := none, state := .absent }) nofun
  rw [pulledClear_eq zero]
  refine ⟨lane, fun m other => ?_⟩
  have steady := others m other
  obtain ⟨b, own⟩ := cuts.others m other
  rw [State.holdStopped, setLane_lane_ne _ _ other, own] at steady
  exact steady

/-- The cells of a lost lane, before its hold timer starts. -/
theorem pulled_cell (s : State) (n : Lane) :
    ((s.pulled n).holdStopped n).cell = fun c => if c.lane = n then (s.cell c).lose else s.cell c :=
  funext (pulled_cutsOff s n).cells

/-- A loss that clears its lane leaves what the LOSS and the lane clear do not speak of. -/
theorem pulledClear_still (zero : s.sensing.hold = 0) (off : (s.lane n).checkPending = false) :
    s.sameBut (s.pulledClear n) [.lanes, .lamps, .notices, .quests, .cells, .epoch, .rest, .play] := fun p hp => by
  have cuts := (pulled_cutsOff s n).same p
  obtain ⟨link, fault⟩ := pulled_unchecked off
  have clears := clearsLane_sameBut ((s.pulled n).holdStopped n) n { (s.pulled n).lane n with hold := none, state := .absent } p
  rw [← pulledClear_eq zero] at clears
  cases p <;> simp [Component.same, State.holdStopped] at hp cuts clears ⊢ <;> simp [cuts, clears, link, fault]

/-- A lost lane cleared at once where no other lane has a TWIN cell. -/
theorem pulledClear_alone (zero : s.sensing.hold = 0) (off : (s.lane n).checkPending = false)
    (single : ∀ c, c.lane ≠ n → (s.cell c).state ≠ .twin) :
    (s.pulledClear n).epoch = s.epoch + 1 ∧
      (∀ c, (s.pulledClear n).cell c =
        if c.lane = n then
          if (s.cell c).lose.state = .held then
            { s.cell c with state := .vacant, incumbent := none, candidate := none, lift := 0, absent := 0, peak := 0 }
          else (s.cell c).lose
        else s.cell c) ∧
      s.passFollows (s.pulledClear n) ∧ (s.pulledClear n).rest = s.reportActivity.rest ∧
      s.sameBut (s.pulledClear n) [.lanes, .lamps, .notices, .quests, .cells, .epoch, .rest] := by
  have cuts := pulled_cutsOff s n
  have cell := pulled_cell s n
  have none_twin : ∀ c, (((s.pulled n).holdStopped n).cell c).state ≠ .twin := fun c => by
    rw [cell]
    dsimp only
    split
    case isTrue => exact lose_single _
    case isFalse away => exact single c away
  have clears := clearsLane_alone (n := n) { (s.pulled n).lane n with hold := none, state := .absent } none_twin
  have still := pulledClear_still zero off
  rw [← pulledClear_eq zero] at clears
  refine ⟨clears.epoch.trans (congrArg (· + 1) (cuts.same .epoch (by simp))), fun c => ?_,
    passFollows_of (cuts.same .quests (by simp)) clears.pass,
    clears.rest.trans (reportActivity_rest_congr (cuts.same .rest (by simp))), sameBut_narrow still fun p listed kept => ?_⟩
  · rw [clears.cells, cell]
    by_cases here : c.lane = n
    · simp only [here, if_true, true_and]
      split
      · exact lose_emptied (s.cell c)
      · rfl
    · simp [here]
  · have only : p = .play := by
      cases p <;> simp at listed kept ⊢
    subst only
    exact (clears.same .play (by simp)).trans (cuts.same .play (by simp))

/-- A lost lane cleared at once, with its promotions. -/
theorem pulledClear_promotes (zero : s.sensing.hold = 0) (unique : s.serialsUnique) :
    let lost (c : CellId) : CellRec := if c.lane = n then (s.cell c).lose else s.cell c
    s.promotesAll (s.pulledClear n)
      (fun c =>
        if c.lane = n ∧ (lost c).state = .held then
          { lost c with state := .vacant, incumbent := none, candidate := none, lift := 0, absent := 0, peak := 0 }
        else lost c)
      (s.pulled n).notices (.laneLost n (heldTiles lost n).length) ((s.loseCells n).promotions (heldTiles lost n)) := by
  intro lost
  have cuts := pulled_cutsOff s n
  have cell : ((s.pulled n).holdStopped n).cell = lost := pulled_cell s n
  have losing : (s.loseCells n).cell = lost := funext (loseCells_cell n)
  have holds : ∀ c x, (lost c).holds x = true → (s.cell c).holds x = true := fun c x held => by
    by_cases here : c.lane = n
    · exact lose_holds (by simpa only [lost, here, if_true] using held)
    · simpa only [lost, here, if_false] using held
  have unique' : ((s.pulled n).holdStopped n).serialsUnique := fun c d x hc hd => by
    rw [cell] at hc hd
    exact unique c d x (holds c x hc) (holds d x hd)
  have clears := clearsLane_promotesAll (n := n) { (s.pulled n).lane n with hold := none, state := .absent } unique'
  have notices : ((s.pulled n).holdStopped n).notices = (s.pulled n).notices := rfl
  rw [← pulledClear_eq zero, promotions_congr (s := s.loseCells n) (cell.trans losing.symm), cell, notices] at clears
  refine promotesAll_of (r := (s.pulled n).holdStopped n) (fun d x twin => ?_) ⟨cuts.same .plan (by simp), cuts.same .roster (by simp), cuts.same .play (by simp),
    cuts.same .epoch (by simp), cuts.same .quests (by simp)⟩ (reportActivity_rest_congr (cuts.same .rest (by simp))) clears
  have twin : ((s.loseCells n).cell d).state = .twin := promotions_twin twin
  rw [losing] at twin
  rw [cell]
  refine if_neg fun here => lose_single (s.cell d) ?_
  simpa only [lost, here, if_true] using twin

/-! ### A LINKING lane that goes back (R17) -/

/-- A LINKING lane whose connector is gone, in its return state. -/
def LaneUnit.unlinked (u : LaneUnit) : LaneUnit :=
  if u.returnState = some .lost then
    { u with connector := false, state := .lost, returnState := none, settle := none, latch := Table.full 12 .off }
  else { u with connector := false, state := .absent, returnState := none, settle := none, latch := Table.full 12 .off }

/-- A LINKING lane goes back, and a hold timer starts in a LOST one that has none. -/
theorem unlinkLane_eq (s : State) (n : Lane) :
    (s.setConnector n false).unlinkLane n =
      if (s.lane n).returnState = some .lost ∧ (s.lane n).hold = none then (s.setLane n (s.lane n).unlinked).startHold n
      else s.setLane n (s.lane n).unlinked := by
  unfold State.unlinkLane LaneUnit.unlinked State.setConnector
  simp only [setLane_lane_same, setLane_setLane]
  cases back : (s.lane n).returnState with
  | none => simp
  | some b =>
    cases b
    · simp
    · cases hold : (s.lane n).hold <;> simp

/-- What CONNECTOR_LOST leaves of a lane that is not RUNNING, where no hold timer runs out at once. -/
def LaneUnit.noted (u : LaneUnit) (hold : Nat) : LaneUnit :=
  if u.state = .linking then
    if u.returnState = some .lost ∧ u.hold = none then { u.unlinked with hold := some hold } else u.unlinked
  else { u with connector := false }

/-- A LINKING lane that came from ABSENT. -/
theorem noted_absent {hold : Nat} (linking : u.state = .linking) (back : u.returnState = some .absent) :
    u.noted hold =
      { u with connector := false, state := .absent, returnState := none, settle := none, latch := Table.full 12 .off } := by
  simp [LaneUnit.noted, LaneUnit.unlinked, linking, back]

/-- A LINKING lane that came from LOST. -/
theorem noted_lost {hold : Nat} (linking : u.state = .linking) (back : u.returnState = some .lost) :
    u.noted hold =
      { u with
        connector := false, state := .lost, returnState := none, settle := none, latch := Table.full 12 .off
        hold := if u.hold = none then some hold else u.hold } := by
  by_cases stopped : u.hold = none <;> simp [LaneUnit.noted, LaneUnit.unlinked, linking, back, stopped]

/-- CONNECTOR_LOST of a lane that is not RUNNING writes the lane alone. -/
theorem exec_connectorLost_still (live : s.chip = .running) (awake : s.rest.part ≠ .resting) (still : (s.lane n).state ≠ .running)
    (hold : (s.lane n).state = .linking → (s.lane n).hold = none → s.sensing.hold ≠ 0) :
    exec (.connectorLost n) s = .next (s.setLane n ((s.lane n).noted s.sensing.hold)).finish := by
  by_cases linking : (s.lane n).state = .linking
  · rw [exec_connectorLost_linking live awake linking, unlinkLane_eq, LaneUnit.noted, if_pos linking]
    split
    case isTrue back =>
      rw [startHold_waits (w := s.setLane n (s.lane n).unlinked) (hold linking back.2), setLane_lane_same, setLane_setLane]
      rfl
    case isFalse => rfl
  · rw [exec_connectorLost_noted live still linking, LaneUnit.noted, if_neg linking]
    rfl

/-- Such a lane is granted nothing. -/
theorem noted_idle {hold : Nat} (still : u.state ≠ .running) : (u.noted hold).state ≠ .running := by
  unfold LaneUnit.noted LaneUnit.unlinked
  repeat' split
  all_goals simp [still]

/-- CONNECTOR_LOST of such a lane, at the end of the event. -/
theorem connectorLost_noted (live : s.chip = .running) (awake : s.rest.part ≠ .resting) (still : (s.lane n).state ≠ .running)
    (hold : (s.lane n).state = .linking → (s.lane n).hold = none → s.sensing.hold ≠ 0) :
    ∃ t, exec (.connectorLost n) s = .next t ∧ t.lane n = (s.lane n).noted s.sensing.hold ∧ s.otherLanesSteady t n ∧
      t.quests.records = s.quests.records ∧ s.sameBut t [.lanes, .quests] :=
  ⟨_, exec_connectorLost_still live awake still hold, setLane_finish_idle (unpowered_idle (noted_idle still))⟩

/-- A LINKING lane back in LOST at a hold time of 0.0 s is cleared at once. -/
theorem exec_connectorLost_clears (live : s.chip = .running) (awake : s.rest.part ≠ .resting) (linking : (s.lane n).state = .linking)
    (back : (s.lane n).returnState = some .lost) (stopped : (s.lane n).hold = none) (zero : s.sensing.hold = 0) :
    exec (.connectorLost n) s =
      .next
        (((s.setLane n (s.lane n).unlinked).holdStopped n).clearsLane n
          { (s.lane n).unlinked with hold := none, state := .absent }) := by
  have lost : ((s.setLane n (s.lane n).unlinked).lane n).state = .lost := by
    rw [setLane_lane_same, LaneUnit.unlinked, if_pos back]
  rw [exec_connectorLost_linking live awake linking, unlinkLane_eq, if_pos ⟨back, stopped⟩,
    startHold_clears lost zero, setLane_lane_same]

/-! ### The outcomes of a loss -/

/-- The loss of a RUNNING lane, by whether a park waits on it. -/
theorem exec_connectorLost_pulled (live : s.chip = .running) (awake : s.rest.part ≠ .resting) (running : (s.lane n).state = .running) :
    exec (.connectorLost n) s =
      .next
        (if (s.lane n).parkWaiting then (((s.pulled n).startHold n).completePark n).finish
        else ((s.pulled n).startHold n).finish) := by
  rw [exec_connectorLost_running live awake running, loseLane_eq, State.setConnector, setLane_lane_same]
  split <;> rfl

/-- A RUNNING lane lost that waits for its connector. -/
theorem connectorLost_waits (live : s.chip = .running) (awake : s.rest.part ≠ .resting) (running : (s.lane n).state = .running)
    (stays : (s.lane n).parkWaiting = false) (hold : s.sensing.hold ≠ 0) :
    ∃ t, exec (.connectorLost n) s = .next t ∧ s.lostTo t n { (s.pulled n).lane n with hold := some s.sensing.hold } ∧
      t.link = (s.pulled n).link ∧ t.firstFault = (s.pulled n).firstFault := by
  have step := exec_connectorLost_pulled live awake running
  rw [if_neg (by simp [stays])] at step
  refine ⟨_, step, pulled_waits hold, ?_, ?_⟩
  · rw [startHold_waits (by rwa [pulled_sensing])]
    simp
  · rw [startHold_waits (by rwa [pulled_sensing])]
    simp

/-- A RUNNING lane lost whose waiting park completes. -/
theorem connectorLost_parks (live : s.chip = .running) (awake : s.rest.part ≠ .resting) (running : (s.lane n).state = .running)
    (waits : (s.lane n).parkWaiting = true) (hold : s.sensing.hold ≠ 0) :
    ∃ t, exec (.connectorLost n) s = .next t ∧
      s.lostTo t n
        { (s.pulled n).lane n with
          parkWaiting := false, state := .parked, settle := none, hold := none, returnState := none
          latch := Table.full 12 .off } ∧
      t.link =
        { (s.pulled n).link with
          inHand := none
          replies :=
            (s.pulled n).link.replies ++ [{ kind := 0x98, status := .success, data := [2, byte (t.heldCount n)] }] } ∧
      t.firstFault = (s.pulled n).firstFault := by
  have step := exec_connectorLost_pulled live awake running
  rw [if_pos waits] at step
  obtain ⟨lost, link, fault⟩ := pulled_parks (n := n) hold
  have count : (((s.pulled n).startHold n).completePark n).finish.heldCount n = (s.pulled n).heldCount n := by
    simp only [State.heldCount, lost.cells, (pulled_cutsOff s n).cells]
  refine ⟨_, step, lost, ?_, ?_⟩
  · rw [count, ← link]
    simp
  · rw [← fault]
    simp

/-- A LINKING lane back in LOST at a hold time of 0.0 s, cleared at once. -/
theorem connectorLost_clears (live : s.chip = .running) (awake : s.rest.part ≠ .resting) (linking : (s.lane n).state = .linking)
    (back : (s.lane n).returnState = some .lost) (stopped : (s.lane n).hold = none) (zero : s.sensing.hold = 0) :
    ∃ t, exec (.connectorLost n) s = .next t ∧ t.lane n = { (s.lane n).unlinked with hold := none, state := .absent } ∧
      s.otherLanesSteady t n ∧ (∀ c, c.lane = n → (s.cell c).state = .held → t.cell c = (s.cell c).emptied) ∧
      s.sameBut t [.lanes, .cells, .epoch, .notices, .quests, .rest, .play] ∧
      (s.serialsUnique →
        s.promotesAll t
          (fun c =>
            if c.lane = n ∧ (s.cell c).state = .held then
              { s.cell c with state := .vacant, incumbent := none, candidate := none, lift := 0, absent := 0, peak := 0 }
            else s.cell c)
          s.notices (.laneLost n (heldTiles s.cell n).length) (s.promotions (heldTiles s.cell n))) := by
  have lane := clearsLane_lanes (w := (s.setLane n (s.lane n).unlinked).holdStopped n) (n := n)
    (v := { (s.lane n).unlinked with hold := none, state := .absent }) nofun
  have cleared := clearsLane_cell ((s.setLane n (s.lane n).unlinked).holdStopped n) n
    { (s.lane n).unlinked with hold := none, state := .absent }
  have still := clearsLane_sameBut ((s.setLane n (s.lane n).unlinked).holdStopped n) n
    { (s.lane n).unlinked with hold := none, state := .absent }
  have promotes := clearsLane_promotesAll (w := (s.setLane n (s.lane n).unlinked).holdStopped n) (n := n)
    { (s.lane n).unlinked with hold := none, state := .absent }
  refine ⟨_, exec_connectorLost_clears live awake linking back stopped zero, ?_⟩
  have same : s.sameBut ((s.setLane n (s.lane n).unlinked).holdStopped n) [.lanes] :=
    sameBut_trans (setLane_still n _ _ (by simp)) (setLane_still n _ _ (by simp))
  have others : ∀ m, m ≠ n → ((s.setLane n (s.lane n).unlinked).holdStopped n).lane m = s.lane m := fun m other => by
    rw [State.holdStopped, setLane_lane_ne _ _ other, setLane_lane_ne _ _ other]
  have cell : ((s.setLane n (s.lane n).unlinked).holdStopped n).cell = s.cell := rfl
  generalize (s.setLane n (s.lane n).unlinked).holdStopped n = w at *
  refine ⟨lane.1, fun m other => ?_, fun c here held => ?_, sameBut_trans (sameBut_mono same (by simp)) still, fun unique => ?_⟩
  · rw [← others m other]
    exact lane.2 m other
  · rw [← cell] at held ⊢
    rw [cleared, clearCells_held here held]
  · have clears := promotes fun c d x => by
      rw [cell]
      exact unique c d x
    rw [promotions_congr cell, cell, same .notices (by simp)] at clears
    exact promotesAll_of (fun d x _ => by rw [cell]) ⟨same .plan (by simp), same .roster (by simp), same .play (by simp),
      same .epoch (by simp), same .quests (by simp)⟩ (reportActivity_rest_congr (same .rest (by simp))) clears

end Sys2Proof.Machine
end

section
/-!
CONNECTOR_LOST, put together.
-/

open Sys2Proof Sys2Proof.Machine

/-- Settles O20: a RUNNING lane is cut off and its hold timer starts or clears it; any other lane is written alone, or cleared. -/
theorem connectorLostByLaneState : Obligations.ConnectorLostByLaneState := by
  refine ⟨?waits, ?still, ?ends, ?clears⟩
  case waits =>
    intro n s live awake u running off stays hold
    obtain ⟨t, step, lost, link, fault⟩ := connectorLost_waits live awake running stays hold
    obtain ⟨b, lane, stale⟩ := (pulled_cutsOff s n).lane
    obtain ⟨link', fault'⟩ := pulled_unchecked off
    rw [lane] at lost
    refine ⟨t, step, ?_, fun on => ?_, fun c => (lost.cells c).trans ?_, fun files => ?_, lost.lamps, lost.others, lost.records,
      sameBut_narrow lost.same fun p listed kept => ?_⟩
    · rw [lost.lane, show u.checkPending = false from off]
      rfl
    · rw [lost.lane]
      exact stale on
    · exact congrArg (fun r => if c.lane = n then r else s.cell c) (lose_table (s.cell c))
    · rw [becomeHeldCount_of lost.cells]
      exact lost.told files
    · have only : p = .link ∨ p = .firstFault := by
        cases p <;> simp at listed kept ⊢
      rcases only with rfl | rfl
      · exact link.trans link'
      · exact fault.trans fault'
  case still =>
    intro n s live awake u still hold
    obtain ⟨t, step, lane, others, records, same⟩ := connectorLost_noted live awake still hold
    refine ⟨t, step, fun linking back => ?_, fun linking back => ?_, fun other => ?_, others, records, same⟩
    · exact lane.trans (noted_absent linking back)
    · exact lane.trans (noted_lost linking back)
    · exact lane.trans (if_neg other)
  case ends =>
    intro n s live awake u held
    refine ⟨fun running on stays hold => ?_, fun running off waits hold => ?_, fun running off stays zero single => ?_,
      fun linking back stopped zero => ?_⟩
    · obtain ⟨t, step, lost, link, fault⟩ := connectorLost_waits live awake running stays hold
      obtain ⟨b, lane, -⟩ := (pulled_cutsOff s n).lane
      obtain ⟨link', fault'⟩ := pulled_checked on
      rw [lane] at lost
      exact ⟨t, step, by rw [lost.lane]; rfl, by rw [lost.lane], by rw [lost.lane]; rfl, by rw [lost.lane], link.trans link',
        fault.trans fault', lost.cells, lost.others, lost.records, lost.same⟩
    · obtain ⟨t, step, lost, link, fault⟩ := connectorLost_parks live awake running waits hold
      obtain ⟨b, lane, -⟩ := (pulled_cutsOff s n).lane
      obtain ⟨link', fault'⟩ := pulled_unchecked off
      rw [lane] at lost
      rw [link'] at link
      refine ⟨t, step, by rw [lost.lane], by rw [lost.lane], by rw [lost.lane]; rfl, by rw [lost.lane], by rw [lost.lane]; rfl, link,
        lost.cells, fun files => ?_, lost.others, lost.records, sameBut_narrow lost.same fun p listed kept => ?_⟩
      · rw [becomeHeldCount_of lost.cells]
        exact lost.told files
      · have only : p = .firstFault := by
          cases p <;> simp at listed kept ⊢
        exact only ▸ fault.trans fault'
    · have step := exec_connectorLost_pulled live awake running
      rw [if_neg (by simp [show (s.lane n).parkWaiting = false from stays])] at step
      obtain ⟨lane, others⟩ := pulledClear_lanes (n := n) zero
      obtain ⟨b, own, -⟩ := (pulled_cutsOff s n).lane
      obtain ⟨epoch, cells, pass, rest, same⟩ := pulledClear_alone zero off single
      rw [own] at lane
      exact ⟨s.pulledClear n, step, by rw [lane], by rw [lane], by rw [lane]; rfl, by rw [lane]; rfl, epoch, cells, pass, others, rest,
        same⟩
    · obtain ⟨t, step, lane, others, cells, -⟩ := connectorLost_clears live awake linking back stopped zero
      refine ⟨t, step, by rw [lane], by rw [lane], ?_, fun c here held => ?_, others⟩
      · rw [lane, LaneUnit.unlinked, if_pos back]
      · rw [cells c here held]
        simp [CellRec.emptied]
  case clears =>
    intro n s live awake u clears unique zero
    refine ⟨?_, fun linking back stopped free => ?_⟩
    · intro running off stays lost
      have step := exec_connectorLost_pulled live awake running
      rw [if_neg (by simp [show (s.lane n).parkWaiting = false from stays])] at step
      have cuts := pulled_cutsOff s n
      obtain ⟨lane, others⟩ := pulledClear_lanes (n := n) zero
      obtain ⟨b, own, -⟩ := cuts.lane
      have count := becomeHeldCount_of (t := s.loseCells n) (loseCells_cell n)
      have losing : (s.loseCells n).cell = lost := funext (loseCells_cell n)
      rw [losing] at count
      rw [own] at lane
      refine ⟨s.pulledClear n, step, by rw [lane], by rw [lane], by rw [lane]; rfl, by rw [lane]; rfl,
        ⟨(s.pulled n).notices, ?_, pulledClear_promotes zero unique⟩, others, pulledClear_still zero off⟩
      rw [count]
      obtain ⟨bs, made, told⟩ := cuts.filed
      exact ⟨bs, made, told⟩
    · obtain ⟨t, step, lane, others, -, same, promotes⟩ := connectorLost_clears live awake linking back stopped zero
      have slot : (t.lane n).slot = none := by
        rw [lane, LaneUnit.unlinked, if_pos back]
        exact free
      have connector : (t.lane n).connector = false := by
        rw [lane, LaneUnit.unlinked, if_pos back]
      exact ⟨t, step, by rw [lane], by rw [lane], slot, connector, ⟨s.notices, filed_nil rfl, promotes unique⟩, others,
        sameBut_mono same (by simp)⟩

end

section
/-!
LINK_SETTLE_END (R17, R55).
-/

namespace Sys2Proof.Machine

open Sys2Proof

variable {s t w : State} {n : Lane} {c : CellId}

/-- The lane enters RUNNING, as one event at the lamps (R17). -/
def State.powered (s : State) (n : Lane) : State := s.lampEvent fun s => s.setLane n (s.startedLane n)

/-- A lane that came from LOST, its tiles resumed and LANE_BACK queued (R17, R55). -/
def State.resumed (s : State) (n : Lane) : State :=
  ((s.powered n).resumeCells n).notify (.laneBack n ((s.powered n).heldCount n))

/-- A lane that came from ABSENT enters RUNNING. -/
theorem linkLane_absent (back : (s.lane n).returnState = some .absent) : s.linkLane n = s.powered n := by
  unfold State.linkLane
  rw [back]
  rfl

/-- A lane that came from LOST resumes its tiles too. -/
theorem linkLane_lost (back : (s.lane n).returnState = some .lost) :
    s.linkLane n = s.resumed n := by
  unfold State.linkLane
  rw [back]
  rfl

/-- The lane that enters RUNNING is marked stale. -/
theorem powered_lane (s : State) (n : Lane) : (s.powered n).lane n = s.startedLane n := by
  have own := lampEvent_lane_stale s n fun s => s.setLane n (s.startedLane n)
  rw [setLane_lane_same] at own
  rw [State.powered, own]
  rfl

theorem powered_others (s : State) : ∀ m, m ≠ n → ∃ b, (s.powered n).lane m = { s.lane m with stale := b } := fun m other => by
  obtain ⟨b, lane⟩ := lampEvent_lane s (fun s => s.setLane n (s.startedLane n)) m
  rw [setLane_lane_ne _ _ other] at lane
  exact ⟨b, lane⟩

/-- What entering RUNNING leaves of the other blocks. -/
theorem powered_guardAlone (s : State) (n : Lane) : s.guardAlone (s.powered n) := lampEvent_guardAlone rfl rfl

theorem powered_sameBut (s : State) (n : Lane) : s.sameBut (s.powered n) [.lanes, .lamps, .notices] := by
  intro p changed
  cases p <;> simp [Component.same, State.powered] at changed ⊢

/-- The cells of a lane that resumes (R55). -/
theorem resumeCells_cell (w : State) (n : Lane) (c : CellId) :
    (w.resumeCells n).cell c =
      if c.lane = n ∧ (w.cell c).state = .held then { w.cell c with state := .seated } else w.cell c := by
  rw [State.resumeCells, mapCells_cell]

/-- A lane that has just entered RUNNING is granted a LAMP slot (R17, R27). -/
theorem finish_started (lawful : (s.lane n).lawful) (linking : (s.lane n).state = .linking) (own : w.lane n = s.startedLane n) :
    w.finish.lane n = { s.startedLane n with stale := false, slot := some (.lamp (w.finish.laneDrive n)) } := by
  obtain ⟨slot, confirms, -, -, -, check, park, -⟩ := lawful.2.2.2.1 (by simp [linking])
  have opens : (w.lane n).grantable = true := grantable_iff.2 (by
    rw [own]
    exact ⟨rfl, slot, park⟩)
  have free : ¬(w.lane n).barred = true := by
    rw [own]
    simp [LaneUnit.barred, State.startedLane]
  have grants : w.grant n = w.setLane n { w.lane n with slot := some (.lamp (w.laneDrive n)), stale := false } := by
    rw [grant_unbarred opens (by rw [own]; exact check) free, grantConfirm_none (by rw [own]; exact confirms),
      grantLower_lamp (by rw [own]; rfl) free]
  rw [finish_lane, grants, setLane_lane_same, finish_laneDrive, own]

/-- LINK_SETTLE_END in a LINKING lane. -/
theorem exec_linkSettleEnd (live : s.chip = .running) (linking : (s.lane n).state = .linking) (settles : (s.lane n).settle.isSome = true) :
    exec (.linkSettleEnd n) s = .next (s.linkLane n).finish := by
  rw [exec_live (fun s => if (s.lane n).state = .linking ∧ (s.lane n).settle.isSome then (s.linkLane n).finish else s) rfl live,
    if_pos ⟨linking, settles⟩]

/-- The end of the settle of a lane that came from ABSENT. -/
structure State.linksBack (s t : State) (n : Lane) : Prop where
  lane : t.lane n = { s.startedLane n with stale := false, slot := some (.lamp (t.laneDrive n)) }
  others : s.otherLanesSteady t n
  records : t.quests.records = s.quests.records

/-- Whatever was written beside the lanes, the end of the event. -/
theorem links_finish (lawful : (s.lane n).lawful) (linking : (s.lane n).state = .linking) (own : ∀ m, w.lane m = (s.powered n).lane m)
    (quests : w.quests = s.quests) : s.linksBack w.finish n where
  lane := finish_started lawful linking ((own n).trans (powered_lane s n))
  others := finish_others fun m other => by
    rw [own]
    exact powered_others s m other
  records := by rw [finish_records, quests]

/-- What the end of that event leaves beside the lanes. -/
theorem resumed_finish (s : State) (n : Lane) :
    (∀ c, (s.resumed n).finish.cell c =
        if c.lane = n ∧ (s.cell c).state = .held then { s.cell c with state := .seated } else s.cell c) ∧
      (s.files .fault →
        (s.resumed n).finish.lastNotice (.laneBack n ((laneCells n).countP fun c => decide ((s.cell c).state = .held)))) ∧
      (s.resumed n).finish.lamps = { s.lamps with guard := (s.resumed n).finish.lamps.guard } ∧
      s.sameBut (s.resumed n).finish [.lanes, .lamps, .notices, .quests, .cells] := by
  have still := powered_sameBut s n
  have cells : ∀ c, (s.powered n).cell c = s.cell c := fun c => by
    rw [State.cell, still .cells (by simp)]
    rfl
  refine ⟨fun c => ?_, fun ⟨opened, on, room⟩ => ?_, ?_, fun p changed => ?_⟩
  · rw [← cells, ← resumeCells_cell]
    simp [State.resumed]
  · have unit : (s.powered n).notices.opened = s.notices.opened ∧ (s.powered n).notices.modes = s.notices.modes := by
      simp [State.powered]
    have queue : (s.powered n).notices.queue.length ≤ s.notices.queue.length + 1 := lampEvent_length rfl
    have count : (s.powered n).heldCount n = (laneCells n).countP fun c => decide ((s.cell c).state = .held) := by
      simp only [State.heldCount, cells]
    rw [← count]
    refine lastNotice_congr (s := s.resumed n) (by simp) (notify_last ?_ ?_ ?_)
    · simpa [unit] using opened
    · simpa [unit, NoticeBody.class] using on
    · simp only [resumeCells_frame]
      omega
  · simpa [State.resumed] using (powered_guardAlone s n).1
  · have first := still p
    cases p <;> simp [Component.same, State.resumed] at changed first ⊢ <;> exact first

end Sys2Proof.Machine

open Sys2Proof Sys2Proof.Machine

/-- Settles O19: the lane enters RUNNING in one event at the lamps, and resumes its tiles if it came from LOST. -/
theorem linkSettleEndRunsTheLane : Obligations.LinkSettleEndRunsTheLane := by
  intro n s live u linking settles lawful
  have alone := powered_guardAlone s n
  have still := powered_sameBut s n
  have step := exec_linkSettleEnd live linking settles
  obtain ⟨back, is⟩ := Option.isSome_iff_exists.1 (lawful.1.2 linking)
  cases back
  case absent =>
    rw [linkLane_absent is] at step
    have links := links_finish (w := s.powered n) lawful linking (fun _ => rfl) (still .quests (by simp))
    have ended : s.guardAlone (s.powered n).finish := guardAlone_congr alone ⟨rfl, rfl⟩ (by simp)
    have same : s.sameBut (s.powered n).finish [.lanes, .lamps, .notices, .quests] := fun p changed => by
      have first := still p
      cases p <;> simp [Component.same] at changed first ⊢ <;> exact first
    exact ⟨_, step, links.lane, fun _ => ⟨ended, same⟩, fun lost => absurd (is.symm.trans lost) nofun, links.others, links.records⟩
  case lost =>
    rw [linkLane_lost is] at step
    have quests : (s.powered n).quests = s.quests := still .quests (by simp)
    have links := links_finish (w := s.resumed n) lawful linking (fun _ => by simp [State.resumed]) (by simp [State.resumed, quests])
    obtain ⟨cells, told, lamps, same⟩ := resumed_finish s n
    exact ⟨_, step, links.lane, fun absent => absurd (is.symm.trans absent) nofun, fun _ => ⟨cells, told, lamps, same⟩, links.others,
      links.records⟩

end

section
/-!
The marks of a tag reply as a lane hears them (R23, R24).
-/

namespace Sys2Proof.Machine

open Sys2Proof

variable {marks got rest tail later : List Mark} {f m prev : Mark} {check : Bool}

/-! ### The first mark (R23, R24) -/

/-- The earlier of two marks, the lower pad where they start together, and the first where they share it. -/
def firstOf (best : Option Mark) (m : Mark) : Option Mark :=
  match best with
  | none => some m
  | some f => if m.start < f.start ∨ (m.start = f.start ∧ m.pad < f.pad) then some m else some f

theorem firstMark_eq (marks : List Mark) :
    firstMark marks = (marks.filter fun m => decide (m.start ≤ answerWindow)).foldl firstOf none := rfl

/-- A mark that starts before another stays the first. -/
theorem firstOf_some (before : f.start < m.start) : firstOf (some f) m = some f := if_neg (by omega)

theorem firstOf_fold : (∀ m ∈ rest, f.start < m.start) → rest.foldl firstOf (some f) = some f := by
  induction rest with
  | nil => exact fun _ => rfl
  | cons m rest ih =>
    intro h
    obtain ⟨later, rest'⟩ := List.forall_mem_cons.1 h
    rw [List.foldl_cons, firstOf_some later]
    exact ih rest'

theorem firstMark_cons (starts : f.start ≤ answerWindow) (h : ∀ m ∈ rest, f.start < m.start) : firstMark (f :: rest) = some f := by
  rw [firstMark_eq, List.filter_cons_of_pos (by simpa using starts)]
  exact firstOf_fold fun m hm => h m (List.mem_of_mem_filter hm)

/-- What a slot makes of marks the first of which it hears. -/
def heardAs (check : Bool) (pad : Fin 4) (heard : List Mark × Ending) : RawResult :=
  { kind :=
      match heard.2 with
      | .garbled => .garbled
      | .stalled => .stalled
      | .whole b => decodeReply check (heard.1.reverse.map (markBit b))
    pad := some pad
    amplitude := amplitudeOf heard.1 }

/-- A slot whose first mark is `f` listens to the marks after it on its pad. -/
theorem hear_eq (first : firstMark marks = some f) :
    hear check marks =
      heardAs check f.pad (listen none [f] f (marks.filter fun m => decide (m.pad = f.pad) && decide (f.start < m.start))) := by
  unfold hear
  rw [first]
  rfl

/-- A list whose first mark starts before all others. -/
theorem hear_cons (starts : f.start ≤ answerWindow) (h : ∀ m ∈ rest, f.start < m.start) :
    hear check (f :: rest) = heardAs check f.pad (listen none [f] f (rest.filter fun m => decide (m.pad = f.pad))) := by
  have apart : (f :: rest).filter (fun m => decide (m.pad = f.pad) && decide (f.start < m.start)) =
      rest.filter fun m => decide (m.pad = f.pad) := by
    rw [List.filter_cons_of_neg (by simp)]
    exact List.filter_congr fun m hm => by simp [h m hm]
  rw [hear_eq (firstMark_cons starts h), apart]

/-- A mark heard in time, of the other polarity than the one before it (R24). -/
theorem listen_next {bitTime : Option Nat} (heard : ¬prev.start + prev.width + silenceAllowed bitTime < m.start)
    (intime : m.start ≤ slotLimit) (turns : m.positive ≠ prev.positive) :
    listen bitTime got prev (m :: rest) =
      let b := bitTime.getD (m.start - prev.start)
      if got.length + 1 = replyMarks then (m :: got, if m.start + b ≤ slotLimit then .whole b else .stalled)
      else listen (some b) (m :: got) m rest := by
  rw [listen]
  dsimp only
  rw [if_neg heard, if_neg (Nat.not_lt.2 intime), if_neg turns]

/-- A mark of the polarity of the one before it (R24). -/
theorem listen_violates {bitTime : Option Nat} (heard : ¬prev.start + prev.width + silenceAllowed bitTime < m.start)
    (intime : m.start ≤ slotLimit) (same : m.positive = prev.positive) :
    listen bitTime got prev (m :: rest) = (m :: got, .garbled) := by
  rw [listen]
  dsimp only
  rw [if_neg heard, if_neg (Nat.not_lt.2 intime), if_pos same]

/-- A mark too late for the last stretch (R23). -/
theorem listen_late {bitTime : Option Nat} (heard : ¬prev.start + prev.width + silenceAllowed bitTime < m.start)
    (late : slotLimit < m.start) : listen bitTime got prev (m :: rest) = (got, .stalled) := by
  rw [listen]
  dsimp only
  rw [if_neg heard, if_pos late]

/-- Marks all after a silence that is too long (R24). -/
theorem listen_silent {bitTime : Option Nat} (silent : ∀ m ∈ rest, prev.start + prev.width + silenceAllowed bitTime < m.start) :
    listen bitTime got prev rest = (got, silentEnding (prev.start + prev.width + silenceAllowed bitTime)) := by
  cases rest with
  | nil => rfl
  | cons m rest =>
    rw [listen]
    exact if_pos (silent m (by simp))

/-- Marks of one height have that amplitude. -/
theorem amplitudeOf_const {height : Nat} (some : got ≠ []) (same : ∀ m ∈ got, m.height = height) (low : height ≤ 255) :
    amplitudeOf got = height := by
  have heights : got.map (·.height) = List.replicate got.length height :=
    List.eq_replicate_iff.2 ⟨by simp, fun h hm => by
      obtain ⟨m, listed, rfl⟩ := List.mem_map.1 hm
      exact same m listed⟩
  rw [amplitudeOf, heights, List.sum_replicate_nat, Nat.mul_div_cancel_left _ (List.length_pos_iff.2 some), Nat.min_eq_right low]

/-! ### The marks of an ideal reply -/

section Ideal

variable (bits : List Bool) (pad : Fin 4) (first period height : Nat)

/-- The mark of bit `i`. -/
def idealMark (i : Nat) : Mark :=
  { pad := pad, start := first + i * (4 * period), width := if bits.getD i false then 3 * period else period
    positive := decide (i % 2 = 0), height := height }

/-- The first `i` marks, newest first. -/
def idealGot (i : Nat) : List Mark := ((List.range i).map (idealMark bits pad first period height)).reverse

/-- The bit-time after `i` marks. -/
def idealTime (i : Nat) : Option Nat := if i ≤ 1 then none else some (4 * period)

theorem idealReply_eq : idealReply bits pad first period height =
    (List.range bits.length).map (idealMark bits pad first period height) := by
  refine List.ext_getElem (by simp [idealReply]) fun i low _ => ?_
  have listed : i < bits.length := by simpa [idealReply] using low
  simp [idealReply, idealMark, listed]

theorem idealReply_take {j : Nat} (low : j ≤ bits.length) : (idealReply bits pad first period height).take j =
    (List.range j).map (idealMark bits pad first period height) := by
  rw [idealReply_eq, ← List.map_take, List.take_range, Nat.min_eq_left low]

variable {bits pad first period height}

@[simp] theorem idealGot_length (i : Nat) : (idealGot bits pad first period height i).length = i := by simp [idealGot]

theorem idealGot_succ (i : Nat) :
    idealGot bits pad first period height (i + 1) =
      idealMark bits pad first period height i :: idealGot bits pad first period height i := by
  simp [idealGot, List.range_succ]

theorem idealGot_height {i : Nat} : ∀ m ∈ idealGot bits pad first period height i, m.height = height := by
  intro m listed
  obtain ⟨j, -, rfl⟩ := List.mem_map.1 (List.mem_reverse.1 listed)
  rfl

theorem idealGot_amplitude {i : Nat} (low : height ≤ 255) (some : i ≠ 0) :
    amplitudeOf (idealGot bits pad first period height i) = height :=
  amplitudeOf_const (fun none => some (by simpa using congrArg List.length none)) idealGot_height low

/-- The silence after mark `i - 1` is not too long for mark `i`. -/
theorem ideal_heard {i : Nat} (some : 1 ≤ i) (fast : 4 * period ≤ firstSilence) :
    ¬(idealMark bits pad first period height (i - 1)).start + (idealMark bits pad first period height (i - 1)).width +
        silenceAllowed (idealTime period i) < first + i * (4 * period) := by
  obtain ⟨j, rfl⟩ := Nat.exists_eq_add_of_le' some
  have next : first + (j + 1) * (4 * period) = first + j * (4 * period) + 4 * period := by ring
  rw [next]
  simp only [idealMark, Nat.add_sub_cancel]
  have allowed : 4 * period ≤ silenceAllowed (idealTime period (j + 1)) := by
    unfold idealTime
    split
    · exact fast
    · exact Nat.le_mul_of_pos_left _ (by decide)
  omega

/-- The bit-time after mark `j + 1`. -/
theorem idealTime_getD (j : Nat) :
    (idealTime period (j + 1)).getD
        ((idealMark bits pad first period height (j + 1)).start - (idealMark bits pad first period height (j + 1 - 1)).start) =
      4 * period := by
  have apart : first + (j + 1) * (4 * period) - (first + j * (4 * period)) = 4 * period := by
    rw [Nat.add_mul]
    omega
  unfold idealTime
  split
  · exact apart
  · rfl

/-- One mark more. -/
theorem listen_mark {i : Nat} (some : 1 ≤ i) (short : i + 1 < replyMarks) (fast : 4 * period ≤ firstSilence)
    (intime : first + i * (4 * period) ≤ slotLimit) :
    listen (idealTime period i) (idealGot bits pad first period height i) (idealMark bits pad first period height (i - 1))
        (idealMark bits pad first period height i :: tail) =
      listen (idealTime period (i + 1)) (idealGot bits pad first period height (i + 1)) (idealMark bits pad first period height i)
        tail := by
  obtain ⟨j, rfl⟩ := Nat.exists_eq_add_of_le' some
  have turns : (idealMark bits pad first period height (j + 1)).positive ≠
      (idealMark bits pad first period height (j + 1 - 1)).positive := by
    simp only [idealMark, Nat.add_sub_cancel]
    rcases Nat.mod_two_eq_zero_or_one j with even | odd
    · simp [even, Nat.succ_mod_two_eq_one_iff.2 even]
    · simp [odd, Nat.succ_mod_two_eq_zero_iff.2 odd]
  rw [listen_next (ideal_heard some fast) intime turns, idealGot_succ (j + 1)]
  dsimp only
  rw [idealTime_getD, idealGot_length, if_neg (by omega), idealTime, if_neg (by omega)]

/-- Some marks more. -/
theorem listen_marks (fast : 4 * period ≤ firstSilence) (k : Nat) : ∀ i, 1 ≤ i → i + k < replyMarks →
    (∀ e, e < i + k → first + e * (4 * period) ≤ slotLimit) →
    listen (idealTime period i) (idealGot bits pad first period height i) (idealMark bits pad first period height (i - 1))
        ((List.range' i k).map (idealMark bits pad first period height) ++ tail) =
      listen (idealTime period (i + k)) (idealGot bits pad first period height (i + k))
        (idealMark bits pad first period height (i + k - 1)) tail := by
  induction k with
  | zero => exact fun i _ _ _ => rfl
  | succ k ih =>
    intro i some short intime
    rw [List.range'_succ, List.map_cons, List.cons_append, listen_mark some (by omega) fast (intime i (by omega)),
      show i + (k + 1) = i + 1 + k by omega]
    exact ih (i + 1) (by omega) (by omega) fun e low => intime e (by omega)

/-- The last mark. -/
theorem listen_last (fast : 4 * period ≤ firstSilence) (intime : first + 35 * (4 * period) ≤ slotLimit) :
    listen (idealTime period 35) (idealGot bits pad first period height 35) (idealMark bits pad first period height 34)
        [idealMark bits pad first period height 35] =
      (idealGot bits pad first period height 36,
        if first + 36 * (4 * period) ≤ slotLimit then .whole (4 * period) else .stalled) := by
  have end_ : (idealMark bits pad first period height 35).start + 4 * period = first + 36 * (4 * period) := by
    simp only [idealMark]
    ring
  rw [listen_next (ideal_heard (i := 35) (by decide) fast) intime (by simp [idealMark])]
  dsimp only
  rw [idealTime_getD 34, idealGot_length, if_pos (show 35 + 1 = replyMarks from rfl), end_, ← idealGot_succ]

/-- A reply too slow to end in time is STALLED (R23). -/
theorem listen_slow (fast : 4 * period ≤ firstSilence) (slow : slotLimit < first + 36 * (4 * period)) (k : Nat) :
    ∀ i, 1 ≤ i → i + k = 35 → ∃ j, 1 ≤ j ∧
      listen (idealTime period i) (idealGot bits pad first period height i) (idealMark bits pad first period height (i - 1))
          ((List.range' i (k + 1)).map (idealMark bits pad first period height)) =
        (idealGot bits pad first period height j, .stalled) := by
  induction k with
  | zero =>
    intro i some is
    obtain rfl : i = 35 := by omega
    by_cases intime : first + 35 * (4 * period) ≤ slotLimit
    · refine ⟨36, by decide, ?_⟩
      rw [List.range'_one, List.map_singleton, listen_last fast intime, if_neg (by omega)]
    · exact ⟨35, by decide, listen_late (ideal_heard some fast) (Nat.not_le.1 intime)⟩
  | succ k ih =>
    intro i some is
    rw [List.range'_succ, List.map_cons]
    by_cases intime : first + i * (4 * period) ≤ slotLimit
    · rw [listen_mark some (by unfold replyMarks; omega) fast intime]
      exact ih (i + 1) (by omega) (by omega)
    · exact ⟨i, some, listen_late (ideal_heard some fast) (Nat.not_le.1 intime)⟩

/-! ### Ideal replies heard -/

/-- The mark after the first, up to mark `j`. -/
theorem idealMarks_cons {j : Nat} (some : 1 ≤ j) :
    (List.range j).map (idealMark bits pad first period height) =
      idealMark bits pad first period height 0 :: (List.range' 1 (j - 1)).map (idealMark bits pad first period height) := by
  obtain ⟨k, rfl⟩ := Nat.exists_eq_add_of_le' some
  rw [List.range_eq_range', List.range'_succ]
  rfl

/-- They all start after it. -/
theorem idealMark_later (runs : 0 < period) {k : Nat} :
    ∀ m ∈ (List.range' 1 k).map (idealMark bits pad first period height), (idealMark bits pad first period height 0).start < m.start := by
  intro m listed
  obtain ⟨i, low, rfl⟩ := List.mem_map.1 listed
  have some : 1 ≤ i := (List.mem_range'_1.1 low).1
  have more : 4 * period ≤ i * (4 * period) := Nat.le_mul_of_pos_left _ some
  simp only [idealMark]
  omega

/-- They are all on its pad. -/
theorem idealMark_filter {k : Nat} :
    ((List.range' 1 k).map (idealMark bits pad first period height)).filter
        (fun m => decide (m.pad = (idealMark bits pad first period height 0).pad)) =
      (List.range' 1 k).map (idealMark bits pad first period height) :=
  List.filter_eq_self.2 fun m listed => by
    obtain ⟨i, -, rfl⟩ := List.mem_map.1 listed
    simp [idealMark]

/-- Marks heard from the first on, and what comes after them. -/
theorem hear_ideal_append {j : Nat} (runs : 0 < period) (starts : first ≤ answerWindow) (some : 1 ≤ j)
    (after : ∀ m ∈ tail, first < m.start) :
    hear check ((List.range j).map (idealMark bits pad first period height) ++ tail) =
      heardAs check pad
        (listen (idealTime period 1) (idealGot bits pad first period height 1) (idealMark bits pad first period height 0)
          ((List.range' 1 (j - 1)).map (idealMark bits pad first period height) ++
            tail.filter fun m => decide (m.pad = pad))) := by
  rw [idealMarks_cons some, List.cons_append, hear_cons (by simpa [idealMark] using starts), List.filter_append, idealMark_filter]
  · rfl
  · intro m listed
    rcases List.mem_append.1 listed with own | other
    · exact idealMark_later runs m own
    · simpa [idealMark] using after m other

/-- A bit is read off the width of its mark (R24). -/
theorem idealMark_bit (runs : 0 < period) (i : Nat) : markBit (4 * period) (idealMark bits pad first period height i) = bits.getD i false := by
  unfold markBit idealMark
  dsimp only
  cases bits.getD i false <;> simp <;> omega

/-- The bits of a whole reply are those it carries. -/
theorem idealGot_bits (runs : 0 < period) (whole : bits.length = 36) :
    (idealGot bits pad first period height 36).reverse.map (markBit (4 * period)) = bits := by
  rw [idealGot, List.reverse_reverse, List.map_map]
  refine List.ext_getElem (by simp [whole]) fun i low high => ?_
  simp [idealMark_bit runs, high]

/-- A whole reply in time is heard as what its bits decode to, on its pad, with its amplitude. -/
theorem hear_whole (whole : bits.length = 36) (runs : 0 < period) (starts : first ≤ 300000)
    (intime : first + 36 * (4 * period) ≤ 1100000) (low : height ≤ 255) :
    hear check (idealReply bits pad first period height) =
      { kind := decodeReply check bits, pad := some pad, amplitude := height } := by
  have fast : 4 * period ≤ firstSilence := by unfold firstSilence; omega
  have limit : ∀ e, e < 36 → first + e * (4 * period) ≤ slotLimit := fun e less => by
    have more : e * (4 * period) ≤ 36 * (4 * period) := Nat.mul_le_mul_right _ (by omega)
    unfold slotLimit baseWindow stretch
    omega
  have split : (List.range' 1 35).map (idealMark bits pad first period height) =
      (List.range' 1 34).map (idealMark bits pad first period height) ++ [idealMark bits pad first period height 35] := by
    rw [List.range'_concat, List.map_append]
    rfl
  have heard := hear_ideal_append (check := check) (bits := bits) (pad := pad) (height := height) (tail := []) (j := 36) runs starts
    (by decide) (by simp)
  rw [List.append_nil, List.filter_nil, List.append_nil, split,
    listen_marks fast 34 1 (by decide) (by decide) fun e less => limit e (by omega), listen_last fast (limit 35 (by decide)),
    if_pos (by unfold slotLimit baseWindow stretch; omega)] at heard
  rw [idealReply_eq, whole, heard, heardAs, idealGot_amplitude low (by decide)]
  dsimp only
  rw [idealGot_bits runs whole]

/-- A reply too slow to end in time is heard as STALLED. -/
theorem hear_slow (whole : bits.length = 36) (fast : 4 * period ≤ 100000) (starts : first ≤ 300000) (low : height ≤ 255)
    (slow : 1100000 < first + 36 * (4 * period)) :
    hear check (idealReply bits pad first period height) = { kind := .stalled, pad := some pad, amplitude := height } := by
  have heard := hear_ideal_append (check := check) (bits := bits) (pad := pad) (height := height) (tail := []) (j := 36)
    (period := period) (by omega) starts (by decide) (by simp)
  obtain ⟨j, some, listened⟩ := listen_slow (bits := bits) (pad := pad) (height := height) fast slow 34 1 (by decide) (by decide)
  rw [List.append_nil, List.filter_nil, List.append_nil, listened] at heard
  rw [idealReply_eq, whole, heard, heardAs, idealGot_amplitude low (by omega)]

end Ideal

end Sys2Proof.Machine
end

section
/-!
Replies that break off, slots without a reply, and marks on other pads (R23, R24, R26).
-/

namespace Sys2Proof.Machine

open Sys2Proof

variable {marks rest tail later : List Mark} {f m : Mark} {check : Bool} {bits : List Bool} {pad : Fin 4}
  {first period height j : Nat}

/-- Where no mark arrives within the answer window the slot is ABSENT (R26). -/
theorem hear_none (late : ∀ m ∈ marks, 300000 < m.start) : hear check marks = { kind := .absent, pad := none, amplitude := 0 } := by
  have none_early : marks.filter (fun m => decide (m.start ≤ answerWindow)) = [] :=
    List.filter_eq_nil_iff.2 fun m listed early => absurd (of_decide_eq_true early) (Nat.not_le.2 (late m listed))
  unfold hear
  rw [firstMark_eq, none_early]
  rfl

/-! ### A reply of `j` marks, and then something else (R24) -/

/-- After `j` marks of a reply, the marks after them on its pad. -/
theorem hear_broken (runs : 0 < period) (fast : 4 * period ≤ 100000) (starts : first ≤ 300000) (begun : 1 ≤ j) (short : j < 36)
    (intime : first + (j - 1) * (4 * period) ≤ 1100000) (after : ∀ m ∈ tail, first < m.start) :
    hear check ((List.range j).map (idealMark bits pad first period height) ++ tail) =
      heardAs check pad
        (listen (idealTime period j) (idealGot bits pad first period height j) (idealMark bits pad first period height (j - 1))
          (tail.filter fun m => decide (m.pad = pad))) := by
  have limit : ∀ e, e < 1 + (j - 1) → first + e * (4 * period) ≤ slotLimit := fun e less => by
    have more : e * (4 * period) ≤ (j - 1) * (4 * period) := Nat.mul_le_mul_right _ (by omega)
    unfold slotLimit baseWindow stretch
    omega
  rw [hear_ideal_append runs starts begun after,
    listen_marks fast (j - 1) 1 (by decide) (by unfold replyMarks; omega) limit, Nat.add_sub_cancel' begun]

/-- A mark of the polarity of the one before it is heard as GARBLED. -/
theorem hear_violation (runs : 0 < period) (fast : 4 * period ≤ 100000) (starts : first ≤ 300000) (low : height ≤ 255)
    (begun : 1 ≤ j) (short : j < 36) (own : m.pad = pad) (start : m.start = first + (j - 1) * (4 * period) + 4 * period)
    (intime : m.start ≤ 1100000) (tall : m.height = height) (same : m.positive = decide (j % 2 = 1))
    (after : ∀ l ∈ later, m.start ≤ l.start) :
    hear check ((List.range j).map (idealMark bits pad first period height) ++ m :: later) =
      { kind := .garbled, pad := some pad, amplitude := height } := by
  have next : m.start = first + j * (4 * period) := by
    obtain ⟨i, rfl⟩ := Nat.exists_eq_add_of_le' begun
    rw [start, Nat.add_sub_cancel]
    ring
  have here : first < m.start := by omega
  have heard := ideal_heard (bits := bits) (pad := pad) (first := first) (height := height) begun fast
  rw [← next] at heard
  have polarity : m.positive = (idealMark bits pad first period height (j - 1)).positive := by
    rw [same]
    simp only [idealMark, decide_eq_decide]
    omega
  rw [hear_broken runs fast starts begun short (by omega) (by
      intro l listed
      rcases List.mem_cons.1 listed with rfl | later'
      · exact here
      · exact here.trans_le (after l later')),
    List.filter_cons_of_pos (by simpa using own),
    listen_violates heard (by unfold slotLimit baseWindow stretch; omega) polarity, heardAs,
    amplitudeOf_const (by simp) (fun l listed => ?_) low]
  rcases List.mem_cons.1 listed with rfl | got
  · exact tall
  · exact idealGot_height l got

/-- A reply that falls silent is heard as GARBLED, or as STALLED where its silence lasts to the end of the last stretch. -/
theorem hear_silence (runs : 0 < period) (fast : 4 * period ≤ 100000) (starts : first ≤ 300000) (low : height ≤ 255)
    (begun : 1 ≤ j) (short : j < 36) (intime : first + (j - 1) * (4 * period) ≤ 1100000) {silent : Nat}
    (is : silent =
      first + (j - 1) * (4 * period) + (if bits.getD (j - 1) false then 3 * period else period) +
        if j = 1 then 100000 else 8 * period)
    (quiet : ∀ l ∈ later, l.pad = pad → silent < l.start) (after : ∀ l ∈ later, first + (j - 1) * (4 * period) < l.start) :
    hear check ((List.range j).map (idealMark bits pad first period height) ++ later) =
      { kind := if silent < 1100000 then .garbled else .stalled, pad := some pad, amplitude := height } := by
  have allowed : silenceAllowed (idealTime period j) = if j = 1 then 100000 else 8 * period := by
    unfold idealTime
    by_cases one : j = 1
    · rw [if_pos (by omega), if_pos one]
      rfl
    · rw [if_neg (by omega), if_neg one, silenceAllowed]
      omega
  have limit : (idealMark bits pad first period height (j - 1)).start + (idealMark bits pad first period height (j - 1)).width +
      silenceAllowed (idealTime period j) = silent := by
    rw [allowed, is]
    rfl
  rw [hear_broken runs fast starts begun short intime fun l listed => (Nat.le_add_right ..).trans_lt (after l listed),
    listen_silent (fun l listed => ?_), limit, heardAs, idealGot_amplitude low (by omega)]
  · unfold silentEnding
    by_cases early : silent < 1100000
    · rw [if_pos early, if_pos (show silent < slotLimit from early)]
    · rw [if_neg early, if_neg (show ¬silent < slotLimit from early)]
  · obtain ⟨listed, own⟩ := List.mem_filter.1 listed
    rw [limit]
    exact quiet l listed (by simpa using own)

/-! ### Marks on other pads (R24) -/

/-- The order in which marks come first: by their start, and by their pad where they start together. -/
def Mark.rank (m : Mark) : Nat := 4 * m.start + m.pad.val

theorem rank_lt {g : Mark} : Mark.rank m < Mark.rank g ↔ m.start < g.start ∨ m.start = g.start ∧ m.pad < g.pad := by
  unfold Mark.rank
  rw [Fin.lt_def]
  omega

theorem rank_pad {g : Mark} (same : Mark.rank m = Mark.rank g) : m.pad = g.pad := by
  unfold Mark.rank at same
  rw [Fin.ext_iff]
  omega

theorem firstOf_rank : firstOf (some f) m = if Mark.rank m < Mark.rank f then some m else some f := by
  simp only [rank_lt]
  rfl

/-- No mark has a lower rank than the first. -/
theorem firstOf_least (marks : List Mark) : ∀ {best : Option Mark} {h : Mark}, marks.foldl firstOf best = some h →
    (∀ m ∈ marks, Mark.rank h ≤ Mark.rank m) ∧ ∀ g, best = some g → Mark.rank h ≤ Mark.rank g := by
  induction marks with
  | nil =>
    rintro best h rfl
    exact ⟨by simp, fun g is => (Option.some.inj is).symm ▸ le_rfl⟩
  | cons m marks ih =>
    intro best h fold
    obtain ⟨later, start⟩ := ih fold
    suffices both : Mark.rank h ≤ Mark.rank m ∧ ∀ g, best = some g → Mark.rank h ≤ Mark.rank g from
      ⟨List.forall_mem_cons.2 ⟨both.1, later⟩, both.2⟩
    cases best with
    | none => exact ⟨start m rfl, nofun⟩
    | some g =>
      rw [firstOf_rank] at start
      by_cases sooner : Mark.rank m < Mark.rank g
      · have least := start m (if_pos sooner)
        exact ⟨least, fun g' is => Option.some.inj is ▸ least.trans sooner.le⟩
      · have least := start g (if_neg sooner)
        exact ⟨least.trans (Nat.not_lt.1 sooner), fun g' is => Option.some.inj is ▸ least⟩

/-- A list with a mark has a first. -/
theorem firstOf_isSome (marks : List Mark) : ∀ {best : Option Mark}, best.isSome = true ∨ marks ≠ [] →
    (marks.foldl firstOf best).isSome = true := by
  induction marks with
  | nil => exact fun h => h.resolve_right (· rfl)
  | cons m marks ih =>
    intro best _
    refine ih (.inl ?_)
    cases best with
    | none => rfl
    | some f =>
      rw [firstOf_rank]
      split <;> rfl

/-- The first of all marks so far and the first of those on pad `p`: the same mark, or one of another pad, of a lower rank. -/
def firstsAgree (p : Fin 4) (marks : List Mark) (all own : Option Mark) : Prop :=
  (∀ h, own = some h → h.pad = p) ∧
    (all = own ∨ ∃ g, all = some g ∧ g ∈ marks ∧ g.pad ≠ p ∧ ∀ h, own = some h → Mark.rank g < Mark.rank h)

/-- One mark more. -/
theorem firstsAgree_step {p : Fin 4} {all own : Option Mark} (listed : m ∈ marks) (h : firstsAgree p marks all own) :
    firstsAgree p marks (firstOf all m) (if m.pad = p then firstOf own m else own) := by
  obtain ⟨pads, rfl | ⟨g, rfl, member, apart, lower⟩⟩ := h
  · by_cases here : m.pad = p
    · rw [if_pos here]
      refine ⟨fun h is => ?_, .inl rfl⟩
      cases all with
      | none => exact Option.some.inj is ▸ here
      | some f =>
        rw [firstOf_rank] at is
        split at is
        · exact Option.some.inj is ▸ here
        · exact pads h is
    · rw [if_neg here]
      refine ⟨pads, ?_⟩
      cases all with
      | none => exact .inr ⟨m, rfl, listed, here, nofun⟩
      | some f =>
        rw [firstOf_rank]
        split
        case isTrue sooner => exact .inr ⟨m, rfl, listed, here, fun h is => Option.some.inj is ▸ sooner⟩
        case isFalse => exact .inl rfl
  · rw [firstOf_rank]
    by_cases here : m.pad = p
    · rw [if_pos here]
      by_cases sooner : Mark.rank m < Mark.rank g
      · have first : firstOf own m = some m := by
          cases own with
          | none => rfl
          | some h => rw [firstOf_rank, if_pos (sooner.trans (lower h rfl))]
        rw [if_pos sooner, first]
        exact ⟨fun h is => Option.some.inj is ▸ here, .inl rfl⟩
      · have later : Mark.rank g < Mark.rank m :=
          (Nat.not_lt.1 sooner).lt_of_ne fun same => apart ((rank_pad same).trans here)
        have chosen : ∀ h, firstOf own m = some h → h.pad = p ∧ Mark.rank g < Mark.rank h := fun h is => by
          cases own with
          | none => exact Option.some.inj is ▸ ⟨here, later⟩
          | some k =>
            rw [firstOf_rank] at is
            split at is
            · exact Option.some.inj is ▸ ⟨here, later⟩
            · exact ⟨pads h is, lower h is⟩
        rw [if_neg sooner]
        exact ⟨fun h is => (chosen h is).1, .inr ⟨g, rfl, member, apart, fun h is => (chosen h is).2⟩⟩
    · rw [if_neg here]
      refine ⟨pads, .inr ?_⟩
      by_cases sooner : Mark.rank m < Mark.rank g
      · exact ⟨m, if_pos sooner, listed, here, fun h is => sooner.trans (lower h is)⟩
      · exact ⟨g, if_neg sooner, member, apart, lower⟩

/-- All of them. -/
theorem firstsAgree_fold {p : Fin 4} (l : List Mark) : ∀ {all own : Option Mark}, (∀ m ∈ l, m ∈ marks) →
    firstsAgree p marks all own →
    firstsAgree p marks (l.foldl firstOf all) ((l.filter fun m => decide (m.pad = p)).foldl firstOf own) := by
  induction l with
  | nil => exact fun _ h => h
  | cons m l ih =>
    intro all own listed h
    have next := firstsAgree_step (listed m (by simp)) h
    have rest := ih (fun k hk => listed k (List.mem_cons_of_mem _ hk)) next
    rw [List.foldl_cons, List.filter_cons]
    by_cases here : m.pad = p
    · simpa [here] using rest
    · simpa [here] using rest

/-- A mark that starts within the window, before every mark of another pad, makes its pad that of the first mark. -/
theorem firstMark_filter (listed : f ∈ marks) (early : f.start ≤ 300000)
    (before : ∀ m ∈ marks, m.pad ≠ f.pad → f.start < m.start ∨ f.start = m.start ∧ f.pad < m.pad) :
    ∃ g, g.pad = f.pad ∧ firstMark marks = some g ∧ firstMark (marks.filter fun m => decide (m.pad = f.pad)) = some g := by
  have agree := firstsAgree_fold (p := f.pad) (marks := marks) (all := none) (own := none)
    (marks.filter fun m => decide (m.start ≤ answerWindow)) (fun m hm => List.mem_of_mem_filter hm) ⟨nofun, .inl rfl⟩
  rw [List.filter_filter, show (fun m : Mark => decide (m.pad = f.pad) && decide (m.start ≤ answerWindow)) =
    fun m => decide (m.start ≤ answerWindow) && decide (m.pad = f.pad) from funext fun m => Bool.and_comm .., ← List.filter_filter,
    ← firstMark_eq, ← firstMark_eq] at agree
  have inWindow : f ∈ (marks.filter fun m => decide (m.pad = f.pad)).filter fun m => decide (m.start ≤ answerWindow) :=
    List.mem_filter.2 ⟨List.mem_filter.2 ⟨listed, by simp⟩, decide_eq_true early⟩
  obtain ⟨h, first⟩ := Option.isSome_iff_exists.1 (firstOf_isSome _ (best := none) (.inr (List.ne_nil_of_mem inWindow)))
  rw [← firstMark_eq] at first
  obtain ⟨pads, same | ⟨g, -, member, apart, lower⟩⟩ := agree
  · exact ⟨h, pads h first, same.trans first, first⟩
  · have least := (firstOf_least _ ((firstMark_eq _).symm.trans first)).1 f inWindow
    have sooner := rank_lt.2 (before g member apart)
    have below := lower h first
    omega

/-- Marks on other pads after the first count for nothing. -/
theorem hear_pad (listed : f ∈ marks) (early : f.start ≤ 300000)
    (before : ∀ m ∈ marks, m.pad ≠ f.pad → f.start < m.start ∨ f.start = m.start ∧ f.pad < m.pad) :
    hear check marks = hear check (marks.filter fun m => decide (m.pad = f.pad)) := by
  obtain ⟨g, pad, all, own⟩ := firstMark_filter listed early before
  rw [hear_eq all, hear_eq own, List.filter_filter]
  congr 2
  refine List.filter_congr fun m _ => ?_
  rw [pad]
  cases decide (m.pad = f.pad) <;> simp

end Sys2Proof.Machine
end

section
/-!
The bits of a reply decoded (R25, R174).
-/

namespace Sys2Proof.Machine

open Sys2Proof

variable {bits : List Bool} {check : Bool}

/-! ### Bits as a number -/

theorem bitsValue_testBit (bits : List Bool) : ∀ j, (bitsValue bits).testBit j = bits.getD j false := by
  induction bits with
  | nil => simp [bitsValue]
  | cons b bits ih =>
    intro j
    cases j with
    | zero => cases b <;> simp [bitsValue, Nat.testBit_zero]
    | succ j =>
      have half : (bitsValue (b :: bits)) / 2 = bitsValue bits := by
        rw [bitsValue, Nat.add_mul_div_left _ _ (by decide), Nat.div_eq_of_lt (Bool.toNat_lt b), Nat.zero_add]
      rw [Nat.testBit_succ, half, ih]
      simp

/-- Data bit `j` of a reply: eight to a symbol of nine. -/
def dataBit (bits : List Bool) (j : Nat) : Bool := bits.getD (j / 8 * 9 + j % 8) false

/-- The bits of a symbol. -/
theorem symbolBits_eq (whole : bits.length = 36) (k : Fin 4) :
    symbolBits bits k = (List.range 9).map fun i => bits.getD (9 * k.val + i) false := by
  refine List.ext_getElem (by simp [symbolBits, whole]; omega) fun i low high => ?_
  have listed : 9 * k.val + i < bits.length := by
    simp at high
    omega
  simp [symbolBits, listed]

/-- The data bits in their order. -/
theorem dataBits_eq (whole : bits.length = 36) :
    ((List.finRange 4).flatMap fun k => (symbolBits bits k).take 8) = (List.range 32).map (dataBit bits) := by
  simp only [symbolBits_eq whole]
  rfl

theorem dataWord_testBit (whole : bits.length = 36) (j : Nat) :
    (dataWord bits).testBit j = (decide (j < 32) && dataBit bits j) := by
  rw [dataWord, bitsValue_testBit, dataBits_eq whole]
  by_cases low : j < 32
  · simp [low]
  · simp [low]

/-! ### Reserved serials -/

/-- The serial of a reply is reserved where its first 20 data bits are all 0 or all 1. -/
theorem reservedSerial_iff (whole : bits.length = 36) :
    reservedSerial (codeOf (dataWord bits)).serial = true ↔
      (∀ j, j < 20 → dataBit bits j = false) ∨ ∀ j, j < 20 → dataBit bits j = true := by
  have bit : ∀ j, j < 20 → (BitVec.ofNat 20 (dataWord bits)).getLsbD j = dataBit bits j := fun j low => by
    rw [BitVec.getLsbD_ofNat, dataWord_testBit whole]
    simp [low, show j < 32 by omega]
  have serial : (codeOf (dataWord bits)).serial = BitVec.ofNat 20 (dataWord bits) := rfl
  rw [reservedSerial, serial, Bool.or_eq_true, decide_eq_true_eq, decide_eq_true_eq]
  refine or_congr ⟨fun zero j low => ?_, fun zero => ?_⟩ ⟨fun ones j low => ?_, fun ones => ?_⟩
  · rw [← bit j low, zero]
    simp
  · exact BitVec.eq_of_getLsbD_eq fun j low => by simp [bit j low, zero j low]
  · rw [← bit j low, ones, BitVec.getLsbD_allOnes, decide_eq_true low]
  · exact BitVec.eq_of_getLsbD_eq fun j low => by
      rw [bit j low, ones j low, BitVec.getLsbD_allOnes, decide_eq_true low]

/-! ### The first case of R25 -/

theorem decodeReply_garbled (read : check = false) (reserved : reservedSerial (codeOf (dataWord bits)).serial = true) :
    decodeReply check bits = .garbled := by
  simp [decodeReply, read, reserved]

theorem decodeReply_parity {k : Fin 4} (open_ : ¬(check = false ∧ reservedSerial (codeOf (dataWord bits)).serial = true))
    (fails : symbolGood bits k = false) (first : ∀ j, j < k → symbolGood bits j = true) : decodeReply check bits = .parity k := by
  have found : (List.finRange 4).find? (fun k => !symbolGood bits k) = some k :=
    find_finRange_iff.2 ⟨by simp [fails], fun j low => by simp [first j low]⟩
  unfold decodeReply
  dsimp only
  rw [if_neg (by simpa using open_), found]

theorem decodeReply_decoded (open_ : ¬(check = false ∧ reservedSerial (codeOf (dataWord bits)).serial = true))
    (good : ∀ k, symbolGood bits k = true) : decodeReply check bits = .decoded (codeOf (dataWord bits)) := by
  have none_fails : (List.finRange 4).find? (fun k => !symbolGood bits k) = none :=
    List.find?_eq_none.2 fun k _ => by simp [good k]
  unfold decodeReply
  dsimp only
  rw [if_neg (by simpa using open_), none_fails]

/-- A symbol fails where it holds an odd number of 1 bits and should not, or an even number and should not. -/
theorem symbolGood_false (k : Fin 4) :
    symbolGood bits k = false ↔ (((bits.drop (9 * k.val)).take 9).count true % 2 = 1 ↔ k.val % 2 = 1) := by
  unfold symbolGood symbolBits
  rw [decide_eq_false_iff_not]
  generalize ((bits.drop (9 * k.val)).take 9).count true = ones
  split <;> omega

/-! ### The reply of a code word (R174) -/

section Code

variable (w : BitVec 32)

theorem codeBits_length : (codeBits w).length = 36 := by simp [codeBits, List.finRange]

/-- The data bits of a code word are its bits. -/
theorem codeBits_dataBit {j : Nat} (low : j < 32) : dataBit (codeBits w) j = w.getLsbD j := by
  have all : ∀ j : Fin 32, dataBit (codeBits w) j = w.getLsbD j := fun j => by fin_cases j <;> rfl
  exact all ⟨j, low⟩

theorem codeBits_dataWord : dataWord (codeBits w) = w.toNat := by
  refine Nat.eq_of_testBit_eq fun j => ?_
  rw [dataWord_testBit (codeBits_length w), BitVec.testBit_toNat]
  by_cases low : j < 32
  · simp [low, codeBits_dataBit]
  · simp [low, BitVec.getLsbD_of_ge w j (Nat.not_lt.1 low)]

/-- The eight data bits of a symbol. -/
def codeSymbol (k : Fin 4) : List Bool := (List.finRange 8).map fun j => w.getLsbD (8 * k.val + j.val)

/-- A symbol is its data bits and the parity bit. -/
theorem codeBits_symbol (k : Fin 4) :
    symbolBits (codeBits w) k =
      codeSymbol w k ++ [xor (decide (k.val % 2 = 0)) (decide ((codeSymbol w k).count true % 2 = 1))] := by
  fin_cases k <;> rfl

/-- Bits with such a parity bit hold an odd or an even number of 1 bits. -/
theorem count_parity (odd : Bool) (l : List Bool) :
    (l ++ [xor odd (decide (l.count true % 2 = 1))]).count true % 2 = if odd then 1 else 0 := by
  rw [List.count_append]
  rcases Nat.mod_two_eq_zero_or_one (l.count true) with even | uneven
  · cases odd <;> simp [even, Nat.add_mod]
  · cases odd <;> simp [uneven, Nat.add_mod]

/-- Each symbol of a code word is good. -/
theorem codeBits_good (k : Fin 4) : symbolGood (codeBits w) k = true := by
  rw [symbolGood, codeBits_symbol, count_parity]
  simp

/-- The code of a code word. -/
theorem codeOf_toNat : codeOf w.toNat =
    { serial := w.extractLsb' 0 20, kind := (w.extractLsb' 20 6).toFin, side := if w.getLsbD 26 then .b else .a
      edition := (w.extractLsb' 27 5).toFin } := by
  have serial : BitVec.ofNat 20 w.toNat = w.extractLsb' 0 20 := by
    simp [BitVec.extractLsb']
  have kind : Fin.ofNat 64 (w.toNat / 2 ^ 20) = (w.extractLsb' 20 6).toFin := by
    simp [BitVec.extractLsb', Nat.shiftRight_eq_div_pow]
  have edition : Fin.ofNat 32 (w.toNat / 2 ^ 27) = (w.extractLsb' 27 5).toFin := by
    simp [BitVec.extractLsb', Nat.shiftRight_eq_div_pow]
  have side : (if w.toNat / 2 ^ 26 % 2 = 0 then Side.a else .b) = if w.getLsbD 26 then .b else .a := by
    rw [← BitVec.testBit_toNat, Nat.testBit_eq_decide_div_mod_eq]
    rcases Nat.mod_two_eq_zero_or_one (w.toNat / 2 ^ 26) with even | odd
    · rw [if_pos even, even]
      rfl
    · rw [if_neg (by omega), odd]
      rfl
  rw [codeOf, serial, kind, edition, side]

end Code

end Sys2Proof.Machine

open Sys2Proof Sys2Proof.Machine

/-- Settles O32: whole replies by their bits, and broken, slow, late and other-pad marks by how the lane listens. -/
theorem tagRepliesAreHeard : Obligations.TagRepliesAreHeard := by
  refine ⟨?coded, ?whole, fun marks check late => hear_none late, ?broken, ?slow, fun marks f check listed early before =>
    hear_pad listed early before⟩
  case coded =>
    intro w pad first period height check runs starts intime low serial heard
    have whole : heard = { kind := decodeReply check (codeBits w), pad := some pad, amplitude := height } :=
      hear_whole (codeBits_length w) runs starts intime low
    have code : (codeOf (dataWord (codeBits w))).serial = serial := by
      rw [codeBits_dataWord, codeOf_toNat]
    have reserved : reservedSerial (codeOf (dataWord (codeBits w))).serial = true ↔ serial = 0 ∨ serial = 0xFFFFF := by
      rw [code, reservedSerial, Bool.or_eq_true, decide_eq_true_eq, decide_eq_true_eq]
      rfl
    rw [whole]
    refine ⟨rfl, rfl, fun free => ?_, fun read is => decodeReply_garbled read (reserved.2 is)⟩
    have decoded := decodeReply_decoded (check := check) (bits := codeBits w) (fun ⟨read, is⟩ => ?_) (codeBits_good w)
    · rw [codeBits_dataWord, codeOf_toNat] at decoded
      exact decoded
    · rcases free with check' | ⟨zero, ones⟩
      · simp [check'] at read
      · exact (reserved.1 is).elim zero ones
  case whole =>
    intro bits pad first period height check length runs starts intime low heard data reserved fails
    have whole : heard = { kind := decodeReply check bits, pad := some pad, amplitude := height } :=
      hear_whole length runs starts intime low
    have is : reserved ↔ check = false ∧ reservedSerial (codeOf (dataWord bits)).serial = true :=
      and_congr_right fun _ => (reservedSerial_iff length).symm
    rw [whole]
    exact ⟨rfl, rfl, fun r => decodeReply_garbled (is.1 r).1 (is.1 r).2, fun k bad first open_ =>
      decodeReply_parity (fun r => open_ (is.2 r)) ((symbolGood_false k).2 bad) fun j less =>
        eq_true_of_ne_false fun good => first j less ((symbolGood_false j).1 good)⟩
  case broken =>
    intro bits pad first period height j later check length runs fast starts low begun short marks last silent intime
    have taken : marks = (List.range j).map (idealMark bits pad first period height) := idealReply_take bits pad first period height (by omega)
    rw [taken]
    exact ⟨fun m own start early tall same after => hear_violation runs fast starts low begun short own start early tall same after,
      fun quiet after => hear_silence runs fast starts low begun short intime rfl quiet after⟩
  case slow =>
    exact fun bits pad first period height check length fast starts low slow => hear_slow length fast starts low slow

end

section
/-!
The RESTING part: what steps of the tracker and of the lanes leave of it, each counted by the notices it makes, and what its waking then comes to, lane by lane (R135, R137, R170).
-/

namespace Sys2Proof.Machine

open Sys2Proof

variable {s x y : State} {n : Lane} {c : CellId} {k : Nat}

/-! ### The lamps of a RESTING part -/

/-- Lanes that a step at the lamps leaves dark as they were are not marked. -/
theorem markStale_still {b : State} (dark : ∀ m, b.laneDrive m = s.laneDrive m) : State.markStale b s = s := by
  have lanes : (State.markStale b s).lanes = s.lanes := by
    unfold State.markStale State.mapLanes Table.each
    ext i hi
    simp [dark]
    rfl
  exact congrArg (fun l => { s with lanes := l }) lanes

/-- The load of a RESTING part is that of its sounder alone (R135, R137). -/
theorem loadSum_resting (resting : s.rest.part = .resting) (top : Nat) :
    s.loadSum top = if s.lamps.sounder.isSome then 8 else 0 := by
  have off : ∀ c, s.effective c = .off := fun c => by simp [State.effective, resting]
  simp [State.loadSum, off, loadOf]

/-- An event at the lamps of a part that stays RESTING, with the sounder as it is, moves neither a mark nor the guard. -/
theorem lampEvent_resting {f : State → State} (resting : s.rest.part = .resting) (stays : (f s).rest.part = .resting)
    (sounder : (f s).lamps.sounder = s.lamps.sounder) : s.lampEvent f = f s := by
  have still : State.markStale s (f s) = f s :=
    markStale_still fun m => by rw [laneDrive_resting _ m resting, laneDrive_resting _ m stays]
  have same : ∀ top, (f s).loadSum top = s.loadSum top := fun top => by
    rw [loadSum_resting resting, loadSum_resting stays, sounder]
  unfold State.lampEvent
  rw [still]
  exact if_pos ⟨same 2, same 1⟩

/-! ### A part that goes on RESTING -/

/-- From `s` to `x` the RESTING part went on RESTING, with at most `k` notices made, and of the lanes `n` alone may have changed, and did not come to run. -/
structure State.dozes (n : Lane) (k : Nat) (s x : State) : Prop where
  resting : s.rest.part = .resting
  rest : x.rest = s.rest
  others : ∀ m, m ≠ n → x.lane m = s.lane m
  retired : ∀ d, d.lane ≠ n → ((x.cell d).state = .retired ↔ (s.cell d).state = .retired)
  running : (x.lane n).state = .running → (s.lane n).state = .running
  opened : x.notices.opened = s.notices.opened
  modes : x.notices.modes = s.notices.modes
  told : x.notices.queue.length ≤ s.notices.queue.length + k

theorem dozes_refl (resting : s.rest.part = .resting) : s.dozes n k s where
  resting := resting
  rest := rfl
  others _ _ := rfl
  retired _ _ := Iff.rfl
  running := id
  opened := rfl
  modes := rfl
  told := Nat.le_add_right _ _

/-- A RESTING part takes no report of activity. -/
theorem reportActivity_resting (resting : s.rest.part = .resting) : s.reportActivity = s := by
  simp [State.reportActivity, resting]

namespace State.dozes

variable (h : s.dozes n k x)

include h

theorem rests : x.rest.part = .resting := by
  rw [h.rest]
  exact h.resting

/-- Blocks that hold neither the rest, the lanes, the map nor the notices may change. -/
theorem same (rest : y.rest = x.rest) (lanes : y.lanes = x.lanes) (cells : y.cells = x.cells)
    (notices : y.notices = x.notices) : s.dozes n k y where
  resting := h.resting
  rest := rest.trans h.rest
  others m other := (congrArg (Table.read · m) lanes).trans (h.others m other)
  retired d other := by
    rw [← h.retired d other]
    simp [State.cell, cells]
  running := by simpa [State.lane, lanes] using h.running
  opened := by rw [notices, h.opened]
  modes := by rw [notices, h.modes]
  told := by rw [notices]; exact h.told

theorem setLane {u : LaneUnit} (running : u.state = .running → (x.lane n).state = .running) : s.dozes n k (x.setLane n u) :=
  { h with
    others := fun m other => by rw [setLane_lane, if_neg other, h.others m other]
    running := by simpa using fun runs => h.running (running runs) }

/-- A cell of lane `n` may come to anything; one of another lane, to a state that is RETIRED only where it was. -/
theorem setCell {q : CellRec} (other : c.lane ≠ n → (q.state = .retired ↔ (x.cell c).state = .retired)) :
    s.dozes n k (x.setCell c q) :=
  { h with
    retired := fun d far => by
      rw [setCell_cell, ← h.retired d far]
      split
      case isTrue here => rw [here]; exact other (here ▸ far)
      case isFalse => exact Iff.rfl }

theorem notify (b : NoticeBody) : s.dozes n (k + 1) (x.notify b) where
  resting := h.resting
  rest := by simp [h.rest]
  others m other := by simp [h.others m other]
  retired d other := by simp [h.retired d other]
  running := by simpa using h.running
  opened := by simp [h.opened]
  modes := by simp [h.modes]
  told := by
    have := notify_length (s := x) b
    have := h.told
    omega

/-- A board change committed makes its one notice and wants a pass. -/
theorem commit (b : NoticeBody) : s.dozes n (k + 1) (x.commit b) := by
  have quiet : x.commit b = (State.notify { x with epoch := x.epoch + 1 } b).wantPass :=
    reportActivity_resting (by simpa [State.wantPass] using h.rests)
  have told := notify_length (s := { x with epoch := x.epoch + 1 }) b
  have before := h.told
  rw [quiet]
  exact {
    resting := h.resting
    rest := by simp [State.wantPass, h.rest]
    others := fun m other => (by simp [State.wantPass, State.lane] : _ = x.lane m).trans (h.others m other)
    retired := fun d other => by
      rw [← h.retired d other]
      simp [State.wantPass, State.cell]
    running := by simpa [State.wantPass, State.lane] using h.running
    opened := by simp [State.wantPass, h.opened]
    modes := by simp [State.wantPass, h.modes]
    told := told.trans (by dsimp only; omega) }

end State.dozes

end Sys2Proof.Machine

end

section
/-!
What the steps of the Cell Tracker leave of a RESTING part (R38 to R53), each with the notices it makes at the most.
-/

namespace Sys2Proof.Machine

open Sys2Proof

variable {s x : State} {n : Lane} {c d : CellId} {k : Nat}

namespace State.dozes

variable (h : s.dozes n k x)

include h

/-! ### Moves and faults -/

theorem endTurn (byHost : Bool) : s.dozes n (k + 1) (x.endTurn byHost) :=
  (h.notify _).same rfl rfl rfl rfl

theorem mono {j : Nat} (le : k ≤ j) : s.dozes n j x :=
  { h with told := h.told.trans (by omega) }

theorem takeMove : s.dozes n (k + 1) x.takeMove := by
  have counted : ∀ v, s.dozes n k { x with play := { x.play with moves := v } } := fun v => h.same rfl rfl rfl rfl
  unfold State.takeMove
  dsimp only
  split
  · split
    · exact (counted _).endTurn false
    · exact (counted _).mono (by omega)
  · exact h.mono (by omega)

theorem reportMove (c : CellId) : s.dozes n (k + 1) (x.reportMove c) := by
  unfold State.reportMove
  split
  · exact h.takeMove
  · exact h.mono (by omega)

theorem postFault (cause : FaultCause) (p : FaultPlace) (o : OutcomeKind) (v : Nat) :
    s.dozes n k (x.postFault cause p o v) := by
  unfold State.postFault
  split <;> exact h.same rfl rfl rfl rfl

/-! ### Tiles seated, twins and promotions -/

/-- A tile is seated on a cell of lane `n`, or of another lane where the cell is not RETIRED. -/
theorem seat (near : d.lane ≠ n → (x.cell d).state ≠ .retired) (t : TileRead) (p : Bool) :
    s.dozes n (k + 2) (x.seat d t p) :=
  ((h.setCell fun far => by simp [near far]).commit _).reportMove d

/-- A promotion seats a TWIN cell's tile, whatever the cell's lane. -/
theorem promote (z : Serial) : s.dozes n (k + 2) (x.promote z) := by
  unfold State.promote
  split
  case h_1 d t twin =>
    have stood := (twinOf_iff.1 (firstTwin_iff.1 twin).1).1
    exact h.seat (fun _ => by simp [stood]) t true
  case h_2 => exact h.mono (by omega)

omit h in
theorem promotes (zs : List Serial) : ∀ {k : Nat} {x : State}, s.dozes n k x →
    ∃ j, s.dozes n j (zs.foldl State.promote x) := by
  induction zs with
  | nil => exact fun h => ⟨_, h⟩
  | cons z zs ih => exact fun h => ih (h.promote z)

variable (here : c.lane = n)

include here

theorem write (q : CellRec) : s.dozes n k (x.setCell c q) := h.setCell fun far => absurd here far

theorem becomeTwin (t : Candidate) (d : CellId) : s.dozes n (k + 1) (x.becomeTwin c t d) := (h.write here _).commit _

theorem completeArrival (t : Candidate) : s.dozes n (k + 2) (x.completeArrival c t) := by
  unfold State.completeArrival
  split
  · exact h.seat (fun far => absurd here far) _ _
  · exact (h.becomeTwin here _ _).mono (by omega)

theorem completeShift (inc : Incumbent) (t : Candidate) (a : Nat) : s.dozes n (k + 4) (x.completeShift c inc t a) := by
  unfold State.completeShift
  split
  · exact ((h.write here _).commit _).mono (by omega)
  · split
    · exact (((h.write here _).commit _).reportMove c).promote _
    · exact (((h.write here _).commit _).becomeTwin here t _).promote _

theorem liftRead (z : Serial) : s.dozes n (k + 3) (x.liftRead c z) := ((h.write here _).commit _).promote z

theorem requestConfirm : s.dozes n k (x.requestConfirm c) := by
  unfold State.requestConfirm
  dsimp only
  split
  · rw [here]
    exact h.setLane id
  · exact h

/-! ### Cells entered, scored and retired -/

theorem enterArriving (t : TileRead) : s.dozes n (k + 2) (x.enterArriving c t) := by
  unfold State.enterArriving
  dsimp only
  split
  · exact (h.write here _).completeArrival here _
  · exact ((h.write here _).requestConfirm here).mono (by omega)

theorem enterShifting (inc : Incumbent) (t : TileRead) (a : Nat) : s.dozes n (k + 4) (x.enterShifting c inc t a) := by
  unfold State.enterShifting
  dsimp only
  split
  · exact (h.write here _).completeShift here _ _ _
  · exact ((h.write here _).requestConfirm here).mono (by omega)

theorem enterLifting (z : Serial) : s.dozes n (k + 3) (x.enterLifting c z) := by
  unfold State.enterLifting
  dsimp only
  split
  · exact (h.write here _).liftRead here _
  · exact ((h.write here _).requestConfirm here).mono (by omega)

omit here in
theorem stopDeadScan : s.dozes n k (x.stopDeadScan n) := by
  unfold State.stopDeadScan
  dsimp only
  split
  · exact h.setLane id
  · split
    · exact h.setLane id
    · exact h

/-- The lamp of a cell that retires goes dark, as it is in a RESTING part already. -/
theorem retireCell :
    s.dozes n k
      (((x.lampEvent fun u => u.setCell c { (u.cell c).emptied with state := .retired }).stopDeadScan c.lane).wantPass) := by
  rw [lampEvent_resting h.rests (by exact h.rests) rfl, here]
  exact (h.write here _).stopDeadScan.same rfl rfl rfl rfl

/-- A retirement makes five notices at the most: RETIRED, LIFT, TWIN_END, and the twin's ARRIVAL with its move (R51). -/
theorem retire (auto : Bool) : s.dozes n (k + 5) (x.retire c auto) := by
  have told := h.notify (.retired (x.cellAt c) auto (x.cell c).entries)
  unfold State.retire
  dsimp only
  split <;> split
  · exact ((((told.write here _).commit _).commit _).retireCell here).promote _
  · exact ((((told.write here _).commit _).retireCell here).promote _).mono (by omega)
  · exact ((told.commit _).retireCell here).mono (by omega)
  · exact (told.retireCell here).mono (by omega)

theorem enterSuspect (o : OutcomeKind) : s.dozes n (k + 5) (x.enterSuspect c o) := by
  unfold State.enterSuspect
  dsimp only
  split
  · exact ((h.write here _).postFault _ _ _ _).retire here true
  · split
    · exact ((((h.write here _).commit _).notify _).postFault _ _ _ _).mono (by omega)
    · exact (((h.write here _).notify _).postFault _ _ _ _).mono (by omega)

theorem scoreFault (k' : SlotKind) (o : OutcomeKind) : s.dozes n (k + 5) (x.scoreFault c k' o) := by
  unfold State.scoreFault
  dsimp only
  split
  · exact h.mono (by omega)
  · split
    · exact (h.write here _).enterSuspect here o
    · exact (h.write here _).mono (by omega)

theorem recover : s.dozes n (k + 1) (x.recover c) := by
  unfold State.recover
  dsimp only
  split <;> exact (h.write here _).notify _

end State.dozes

end Sys2Proof.Machine

end

section
/-!
A read taken by a RESTING part: it wakes the part, or it comes to a write of its cell and, where a candidate is new, a CONFIRM asked for (R38, R42 to R50).
-/

namespace Sys2Proof.Machine

open Sys2Proof

variable {s t x : State} {n : Lane} {c : CellId} {k : Nat} {kind : SlotKind} {q : CellRec} {inc : Incumbent} {cand : Candidate}
  {tile : TileRead} {o : Outcome} {f : OutcomeKind} {a : Nat} {b : NoticeBody} {z : Serial}

/-- An outcome taken on `c` leads from `s` to `t`: either it is a wake cause, or it wrote the cell, and asked for a CONFIRM where the candidate changed. -/
def State.settles (s t : State) (c : CellId) : Prop :=
  wakes s t c = true ∨ ∃ q, t = s.cellStep c (decide (q.candidate ≠ (s.cell c).candidate)) q

/-! ### Writes of the cell -/

theorem settles_cellStep {asks : Bool}
    (same : q.wakeMark = (s.cell c).wakeMark → asks = decide (q.candidate ≠ (s.cell c).candidate)) :
    s.settles (s.cellStep c asks q) c := by
  by_cases mark : q.wakeMark = (s.cell c).wakeMark
  · exact .inr ⟨q, by rw [same mark]⟩
  · exact .inl (by simp [wakes, cellStep_cell, Ne.symm mark])

theorem settles_self (s : State) (c : CellId) : s.settles s c := .inr ⟨s.cell c, by simp [← cellStep_self rfl]⟩

theorem settles_write (same : q.wakeMark = (s.cell c).wakeMark → q.candidate = (s.cell c).candidate) :
    s.settles (s.setCell c q) c :=
  settles_cellStep (asks := false) fun mark => by simp [same mark]

theorem settles_ask (same : q.wakeMark = (s.cell c).wakeMark → q.candidate ≠ (s.cell c).candidate) :
    s.settles ((s.setCell c q).requestConfirm c) c :=
  settles_cellStep (asks := true) fun mark => by simp [same mark]

/-- The peak is no wake cause. -/
theorem settles_peak {p : Nat} (h : (s.setCell c { s.cell c with peak := p }).settles t c) : s.settles t c := by
  refine h.imp (fun woken => ?_) fun ⟨q, step⟩ => ⟨q, ?_⟩
  · rw [wakes_iff] at woken ⊢
    simpa using woken
  · simpa [State.cellStep] using step

/-! ### Steps that wake -/

theorem settles_state (changed : (t.cell c).state ≠ (s.cell c).state) : s.settles t c := .inl ((wakes_iff s t c).2 (.inl changed))

theorem settles_epoch (moved : t.epoch ≠ s.epoch) : s.settles t c := .inl ((wakes_iff s t c).2 (by simp [moved]))

theorem becomeTwin_epoch (d : CellId) : (x.becomeTwin c cand d).epoch = x.epoch + 1 := by simp [State.becomeTwin]

/-- After one or two board changes a promotion, which commits one more at the most, does not bring the epoch back. -/
theorem promote_moves {e : BitVec 16} (moved : x.epoch = e + 1 ∨ x.epoch = e + 1 + 1) : (x.promote z).epoch ≠ e := by
  unfold State.promote
  split
  · rw [seat_epoch]
    rcases moved with moved | moved <;> simp [moved, BitVec.add_assoc]
  · rcases moved with moved | moved <;> simp [moved, BitVec.add_assoc]

theorem completeArrival_epoch : (x.completeArrival c cand).epoch = x.epoch + 1 := by
  unfold State.completeArrival
  split
  · exact seat_epoch _ _ _ _
  · exact becomeTwin_epoch _

/-- A shift commits at least one board change and three at the most. -/
theorem completeShift_epoch : (x.completeShift c inc cand a).epoch ≠ x.epoch := by
  unfold State.completeShift
  split
  · simp
  · split
    · exact promote_moves (.inl (by simp))
    · exact promote_moves (.inr (by simp [becomeTwin_epoch]))

theorem liftRead_epoch (z : Serial) : (x.liftRead c z).epoch ≠ x.epoch := promote_moves (.inl (by simp))

/-- A retirement commits the LIFT and the TWIN_END that are due. -/
theorem retire_settles (epoch : x.epoch = s.epoch) (live : (s.cell c).state ≠ .retired) (auto : Bool) :
    s.settles (x.retire c auto) c := by
  have still : ∀ y : State, (((y.lampEvent fun u => u.setCell c { (u.cell c).emptied with state := .retired }).stopDeadScan
      c.lane).wantPass.cell c).state ≠ (s.cell c).state := fun y => by
    rw [show ∀ u : State, u.wantPass.cell c = u.cell c from fun _ => rfl]
    simpa using live.symm
  unfold State.retire
  dsimp only
  split <;> split
  · exact settles_epoch (promote_moves (.inr (by simp [State.wantPass, epoch])))
  · exact settles_epoch (promote_moves (.inl (by simp [State.wantPass, epoch])))
  · exact settles_state (still _)
  · exact settles_state (still _)

theorem enterSuspect_settles (epoch : x.epoch = s.epoch) (live : (s.cell c).state ≠ .retired)
    (fresh : (s.cell c).state ≠ .suspect) (f : OutcomeKind) : s.settles (x.enterSuspect c f) c := by
  unfold State.enterSuspect
  dsimp only
  split
  · exact retire_settles (by simpa using epoch) live true
  · refine settles_state ?_
    split
    · simpa using fresh.symm
    · simpa using fresh.symm

theorem scoreFault_settles (live : (s.cell c).state ≠ .retired) (fresh : (s.cell c).state ≠ .suspect) (f : OutcomeKind) :
    s.settles (s.scoreFault c kind f) c := by
  unfold State.scoreFault
  dsimp only
  split
  · exact settles_self s c
  · split
    · exact enterSuspect_settles (by simp) live fresh f
    · exact settles_write fun _ => rfl

/-! ### Tiles seen and tiles gone -/

theorem enterArriving_settles (other : (s.cell c).state = .arriving → ∀ k, (s.cell c).candidate = some k → k.tile ≠ tile) :
    s.settles (s.enterArriving c tile) c := by
  unfold State.enterArriving
  dsimp only
  split
  · exact settles_epoch (by simp [completeArrival_epoch])
  · refine settles_ask fun mark same => ?_
    simp only [CellRec.wakeMark, Prod.mk.injEq] at mark
    exact other mark.1.symm _ same.symm rfl

theorem enterShifting_settles (other : (s.cell c).state = .shifting → ∀ k, (s.cell c).candidate = some k → k.tile ≠ tile) :
    s.settles (s.enterShifting c inc tile a) c := by
  unfold State.enterShifting
  dsimp only
  split
  · exact settles_epoch completeShift_epoch
  · refine settles_ask fun mark same => ?_
    simp only [CellRec.wakeMark, Prod.mk.injEq] at mark
    exact other mark.1.symm _ same.symm rfl

theorem enterLifting_settles (fresh : (s.cell c).state ≠ .lifting) : s.settles (s.enterLifting c z) c := by
  unfold State.enterLifting
  dsimp only
  split
  · exact settles_epoch (liftRead_epoch z)
  · refine settles_ask fun mark => ?_
    simp only [CellRec.wakeMark, Prod.mk.injEq] at mark
    exact absurd mark.1.symm fresh

/-- A read of the seated tile ends a candidate, which is a count less. -/
theorem matchIncumbent_settles : s.settles (s.matchIncumbent c kind) c :=
  settles_write fun mark => by
    simp only [CellRec.wakeMark, Prod.mk.injEq, Option.map_none] at mark
    exact (Option.map_eq_none_iff.1 mark.2.1.symm).symm

/-- A count that rises is a wake cause. -/
theorem settles_counts {lift : Nat} {asks : Bool} (up : lift = (s.cell c).lift + 1) :
    s.settles (s.cellStep c asks { s.cell c with lift := lift }) c :=
  settles_cellStep fun mark => by
    simp only [CellRec.wakeMark, Prod.mk.injEq] at mark
    omega

theorem liftRead_settles (z : Serial) : s.settles (s.liftRead c z) c := settles_epoch (liftRead_epoch z)

/-! ### The cell stepped, by its state (R43 to R50) -/

theorem stepVacant_settles (state : (s.cell c).state = .vacant) : s.settles (s.stepVacant c o) c := by
  cases o with
  | good tile => exact enterArriving_settles (by simp [state])
  | absent => exact settles_self s c
  | faulty f => exact settles_self s c

theorem stepArriving_settles (state : (s.cell c).state = .arriving) (candidate : (s.cell c).candidate = some cand) :
    s.settles (s.stepArriving c cand kind o) c := by
  cases o with
  | good tile =>
    dsimp only [State.stepArriving]
    split
    case isTrue =>
      split
      · exact settles_epoch (by simp [completeArrival_epoch])
      · exact settles_ask fun mark => by simp [CellRec.wakeMark, candidate] at mark
    case isFalse differ =>
      refine enterArriving_settles fun _ k same => ?_
      obtain rfl : cand = k := by simpa [candidate] using same
      exact Ne.symm differ
  | absent =>
    dsimp only [State.stepArriving]
    split
    · exact settles_state (by simp [state, CellRec.emptied])
    · exact settles_ask fun mark => by simp [CellRec.wakeMark] at mark
  | faulty f => exact scoreFault_settles (by simp [state]) (by simp [state]) f

theorem stepSeated_settles (state : (s.cell c).state = .seated) : s.settles (s.stepSeated c inc kind o a) c := by
  cases o with
  | good tile =>
    dsimp only [State.stepSeated]
    split
    · exact matchIncumbent_settles
    · exact enterShifting_settles (by simp [state])
  | absent => exact enterLifting_settles (by simp [state])
  | faulty f => exact scoreFault_settles (by simp [state]) (by simp [state]) f

theorem stepShifting_settles (state : (s.cell c).state = .shifting) (candidate : (s.cell c).candidate = some cand) :
    s.settles (s.stepShifting c inc cand kind o a) c := by
  cases o with
  | good tile =>
    dsimp only [State.stepShifting]
    split
    case isTrue =>
      split
      · exact settles_epoch completeShift_epoch
      · exact settles_ask fun mark => by simp [CellRec.wakeMark, candidate] at mark
    case isFalse differ =>
      split
      · exact matchIncumbent_settles
      · refine enterShifting_settles fun _ k same => ?_
        obtain rfl : cand = k := by simpa [candidate] using same
        exact Ne.symm differ
  | absent => exact enterLifting_settles (by simp [state])
  | faulty f => exact scoreFault_settles (by simp [state]) (by simp [state]) f

theorem stepLifting_settles (state : (s.cell c).state = .lifting) : s.settles (s.stepLifting c inc kind o a) c := by
  cases o with
  | good tile =>
    dsimp only [State.stepLifting]
    split
    · exact matchIncumbent_settles
    · exact enterShifting_settles (by simp [state])
  | absent =>
    dsimp only [State.stepLifting]
    split
    · exact liftRead_settles _
    · exact settles_counts (asks := true) rfl
  | faulty f => exact scoreFault_settles (by simp [state]) (by simp [state]) f

theorem stepTwin_settles (state : (s.cell c).state = .twin) : s.settles (s.stepTwin c cand kind o) c := by
  cases o with
  | good tile =>
    dsimp only [State.stepTwin]
    split
    · exact settles_write fun _ => rfl
    · refine settles_epoch ?_
      unfold State.enterArriving
      dsimp only
      split
      · simp [completeArrival_epoch, BitVec.add_assoc]
      · simp
  | absent =>
    dsimp only [State.stepTwin]
    split
    · exact settles_epoch (by simp)
    · exact settles_counts (asks := false) rfl
  | faulty f => exact scoreFault_settles (by simp [state]) (by simp [state]) f

theorem recover_settles (state : (s.cell c).state = .suspect) {v l : Nat} :
    s.settles ((s.setCell c { s.cell c with score := v, lift := l }).recover c) c := by
  refine settles_state ?_
  unfold State.recover
  dsimp only
  split
  · simp [state]
  · simp [state, CellRec.emptied]

theorem stepSuspect_settles (state : (s.cell c).state = .suspect) : s.settles (s.stepSuspect c kind o) c := by
  cases o with
  | good tile =>
    cases kind with
    | confirm => exact settles_self s c
    | sense =>
      dsimp only [State.stepSuspect]
      split
      · exact recover_settles state
      · exact settles_write fun _ => rfl
  | absent =>
    dsimp only [State.stepSuspect]
    split
    · exact settles_self s c
    · split
      · exact settles_epoch (promote_moves (.inl (by simp)))
      · exact settles_counts (asks := false) rfl
  | faulty f =>
    cases kind with
    | confirm => exact settles_self s c
    | sense => exact settles_write fun _ => rfl

theorem stepCell_settles : s.settles (s.stepCell c kind o a) c := by
  unfold State.stepCell
  split
  case h_1 state => exact stepVacant_settles state
  case h_2 state candidate => exact stepArriving_settles state candidate
  case h_3 state incumbent => exact stepSeated_settles state
  case h_4 state incumbent candidate => exact stepShifting_settles state candidate
  case h_5 state incumbent => exact stepLifting_settles state
  case h_6 state candidate => exact stepTwin_settles state
  case h_7 state => exact stepSuspect_settles state
  case h_8 => exact settles_self s c

/-- A read that passes the gate, its peak with it. -/
theorem stepped_settles : s.settles (s.stepped c kind o a) c := by
  unfold State.stepped State.updatePeak
  split
  · exact stepCell_settles
  · exact stepCell_settles
  · exact settles_peak stepCell_settles
  · exact stepCell_settles

end Sys2Proof.Machine

end

section
/-!
Two parts abreast: alike in everything but the Rest Controller, the lanes, the lamps and the notices. The Cell Tracker keeps them so, for of these it reads nothing (R38 to R53).
-/

namespace Sys2Proof.Machine

open Sys2Proof

variable {s v w : State} {n : Lane} {c d : CellId}

/-- `s` with another Rest Controller, other lamps, notices and lanes. -/
def State.veiled (s : State) (r : RestController) (l : LampUnit) (u : NoticeUnit) (lanes : Table 8 LaneUnit) : State :=
  { s with rest := r, lamps := l, notices := u, lanes := lanes }

/-- `s` and `v` are alike but for the Rest Controller, the lamps, the notices and the lanes. -/
def State.abreast (s v : State) : Prop := ∃ r l u lanes, v = s.veiled r l u lanes

theorem abreast_refl (s : State) : s.abreast s := ⟨_, _, _, _, rfl⟩

theorem State.abreast.trans (h : s.abreast v) (g : v.abreast w) : s.abreast w := by
  obtain ⟨r, l, u, lanes, rfl⟩ := h
  obtain ⟨r', l', u', lanes', rfl⟩ := g
  exact ⟨r', l', u', lanes', rfl⟩

theorem State.abreast.symm (h : s.abreast v) : v.abreast s := by
  obtain ⟨r, l, u, lanes, rfl⟩ := h
  exact ⟨s.rest, s.lamps, s.notices, s.lanes, rfl⟩

/-! ### What the veil hides -/

theorem abreast_setLane (s : State) (n : Lane) (u : LaneUnit) : s.abreast (s.setLane n u) := ⟨_, _, _, _, rfl⟩

theorem abreast_notify (s : State) (b : NoticeBody) : s.abreast (s.notify b) := by
  unfold State.notify
  split
  · exact abreast_refl s
  · exact ⟨_, _, _, _, rfl⟩

theorem abreast_reportActivity (s : State) : s.abreast s.reportActivity := by
  unfold State.reportActivity
  split
  · exact ⟨_, _, _, _, rfl⟩
  · exact abreast_refl s

theorem abreast_requestConfirm (s : State) (c : CellId) : s.abreast (s.requestConfirm c) := by
  unfold State.requestConfirm
  dsimp only
  split
  · exact abreast_setLane s _ _
  · exact abreast_refl s

theorem abreast_stopDeadScan (s : State) (n : Lane) : s.abreast (s.stopDeadScan n) := by
  unfold State.stopDeadScan
  dsimp only
  split
  · exact abreast_setLane s _ _
  · split
    · exact abreast_setLane s _ _
    · exact abreast_refl s

theorem abreast_guardTo (s : State) (g : Guard) : s.abreast (s.guardTo g) := by
  have moved : s.abreast (State.markStale s { s with lamps := { s.lamps with guard := g } }) := ⟨_, _, _, _, rfl⟩
  unfold State.guardTo
  dsimp only
  split
  · exact abreast_refl s
  · split
    · exact moved.trans (abreast_notify _ _)
    · exact moved

theorem abreast_lampEvent (s : State) (f : State → State) : (f s).abreast (s.lampEvent f) := by
  have marked : (f s).abreast (State.markStale s (f s)) := ⟨_, _, _, _, rfl⟩
  unfold State.lampEvent
  dsimp only
  split
  · exact marked
  · exact marked.trans (abreast_guardTo _ _)

/-! ### What the tracker does alike -/

namespace State.abreast

variable (h : s.abreast v)

include h

/-- Steps that the veil hides leave parts abreast. -/
theorem under {s' v' : State} (left : s.abreast s') (right : v.abreast v') : s'.abreast v' := left.symm.trans (h.trans right)

theorem setCell (c : CellId) (q : CellRec) : (s.setCell c q).abreast (v.setCell c q) := by
  obtain ⟨r, l, u, lanes, rfl⟩ := h
  exact ⟨r, l, u, lanes, rfl⟩

theorem wantPass : s.wantPass.abreast v.wantPass := by
  obtain ⟨r, l, u, lanes, rfl⟩ := h
  exact ⟨r, l, u, lanes, rfl⟩

theorem play (p : PlayRecord) : State.abreast { s with play := p } { v with play := p } := by
  obtain ⟨r, l, u, lanes, rfl⟩ := h
  exact ⟨r, l, u, lanes, rfl⟩

theorem notify (b b' : NoticeBody) : (s.notify b).abreast (v.notify b') := h.under (abreast_notify s b) (abreast_notify v b')

theorem commit (b b' : NoticeBody) : (s.commit b).abreast (v.commit b') := by
  have stepped : State.abreast { s with epoch := s.epoch + 1 } { v with epoch := v.epoch + 1 } := by
    obtain ⟨r, l, u, lanes, rfl⟩ := h
    exact ⟨r, l, u, lanes, rfl⟩
  exact (stepped.notify b b').wantPass.under (abreast_reportActivity _) (abreast_reportActivity _)

theorem requestConfirm (c : CellId) : (s.requestConfirm c).abreast (v.requestConfirm c) :=
  h.under (abreast_requestConfirm s c) (abreast_requestConfirm v c)

theorem stopDeadScan (n : Lane) : (s.stopDeadScan n).abreast (v.stopDeadScan n) :=
  h.under (abreast_stopDeadScan s n) (abreast_stopDeadScan v n)

omit h in
theorem lampEvent {f : State → State} (alike : (f s).abreast (f v)) : (s.lampEvent f).abreast (v.lampEvent f) :=
  alike.under (abreast_lampEvent s f) (abreast_lampEvent v f)

theorem endTurn (byHost : Bool) : (s.endTurn byHost).abreast (v.endTurn byHost) := by
  obtain ⟨r, l, u, lanes, rfl⟩ := h
  obtain ⟨_, _, _, _, told⟩ := abreast_notify s
    (.turnEnd s.play.current s.play.turnNumber s.play.moves byHost (nextPlayer s.play.current s.play.np))
  obtain ⟨_, _, _, _, told'⟩ := abreast_notify (s.veiled r l u lanes)
    (.turnEnd s.play.current s.play.turnNumber s.play.moves byHost (nextPlayer s.play.current s.play.np))
  have left := congrArg (fun w : State => { w with play := { w.play with
    current := nextPlayer s.play.current s.play.np, turnNumber := nextTurn s.play.turnNumber, moves := 0 } }) told
  have right := congrArg (fun w : State => { w with play := { w.play with
    current := nextPlayer s.play.current s.play.np, turnNumber := nextTurn s.play.turnNumber, moves := 0 } }) told'
  exact ⟨_, _, _, _, right.trans (congrArg (fun w => State.veiled w _ _ _ _) left.symm)⟩

theorem takeMove : s.takeMove.abreast v.takeMove := by
  have same : v.play = s.play := by obtain ⟨r, l, u, lanes, rfl⟩ := h; rfl
  unfold State.takeMove
  rw [same]
  split
  · dsimp only
    split
    · exact (h.play _).endTurn false
    · exact h.play _
  · exact h

theorem reportMove (c : CellId) : (s.reportMove c).abreast (v.reportMove c) := by
  have same : v.position c = s.position c := by obtain ⟨r, l, u, lanes, rfl⟩ := h; rfl
  unfold State.reportMove
  rw [same]
  split
  · exact h.takeMove
  · exact h

theorem postFault (cause : FaultCause) (p : FaultPlace) (o : OutcomeKind) (score : Nat) :
    (s.postFault cause p o score).abreast (v.postFault cause p o score) := by
  obtain ⟨r, l, u, lanes, rfl⟩ := h
  unfold State.postFault
  rw [show (s.veiled r l u lanes).firstFault = s.firstFault from rfl]
  split <;> exact ⟨r, l, u, lanes, rfl⟩

theorem seat (d : CellId) (x : TileRead) (p : Bool) : (s.seat d x p).abreast (v.seat d x p) := by
  obtain ⟨r, l, u, lanes, rfl⟩ := h
  exact ((State.abreast.setCell ⟨r, l, u, lanes, rfl⟩ d _).commit _ _).reportMove d

theorem promote (z : Serial) : (s.promote z).abreast (v.promote z) := by
  have same : v.firstTwin z = s.firstTwin z := by obtain ⟨r, l, u, lanes, rfl⟩ := h; rfl
  unfold State.promote
  rw [same]
  split
  · exact h.seat _ _ _
  · exact h

theorem becomeTwin (c : CellId) (t : Candidate) (d : CellId) : (s.becomeTwin c t d).abreast (v.becomeTwin c t d) := by
  obtain ⟨r, l, u, lanes, rfl⟩ := h
  exact (State.abreast.setCell ⟨r, l, u, lanes, rfl⟩ c _).commit _ _

theorem otherHolder (c : CellId) (z : Serial) : v.otherHolder c z = s.otherHolder c z := by
  obtain ⟨r, l, u, lanes, rfl⟩ := h
  rfl

theorem cell (c : CellId) : v.cell c = s.cell c := by
  obtain ⟨r, l, u, lanes, rfl⟩ := h
  rfl

theorem sensing : v.sensing = s.sensing := by
  obtain ⟨r, l, u, lanes, rfl⟩ := h
  rfl

theorem completeArrival (c : CellId) (t : Candidate) : (s.completeArrival c t).abreast (v.completeArrival c t) := by
  unfold State.completeArrival
  rw [h.otherHolder]
  split
  · exact h.seat _ _ _
  · exact h.becomeTwin _ _ _

theorem completeShift (c : CellId) (inc : Incumbent) (t : Candidate) (a : Nat) :
    (s.completeShift c inc t a).abreast (v.completeShift c inc t a) := by
  have veil := h
  have same := h.otherHolder c t.tile.serial
  obtain ⟨r, l, u, lanes, rfl⟩ := h
  unfold State.completeShift
  rw [same]
  split
  · exact (veil.setCell c _).commit _ _
  · split
    · exact (((veil.setCell c _).commit _ _).reportMove c).promote _
    · exact (((veil.setCell c _).commit _ _).becomeTwin c t _).promote _

theorem liftRead (c : CellId) (z : Serial) : (s.liftRead c z).abreast (v.liftRead c z) := by
  have cell := h.cell c
  unfold State.liftRead
  rw [cell]
  exact ((h.setCell c _).commit _ _).promote z

theorem enterArriving (c : CellId) (x : TileRead) : (s.enterArriving c x).abreast (v.enterArriving c x) := by
  unfold State.enterArriving
  rw [h.cell, h.sensing]
  dsimp only
  split
  · exact (h.setCell c _).completeArrival c _
  · exact (h.setCell c _).requestConfirm c

theorem enterShifting (c : CellId) (inc : Incumbent) (x : TileRead) (a : Nat) :
    (s.enterShifting c inc x a).abreast (v.enterShifting c inc x a) := by
  unfold State.enterShifting
  rw [h.cell, h.sensing]
  dsimp only
  split
  · exact (h.setCell c _).completeShift c inc _ a
  · exact (h.setCell c _).requestConfirm c

theorem enterLifting (c : CellId) (z : Serial) : (s.enterLifting c z).abreast (v.enterLifting c z) := by
  unfold State.enterLifting
  rw [h.cell, h.sensing]
  dsimp only
  split
  · exact (h.setCell c _).liftRead c z
  · exact (h.setCell c _).requestConfirm c

/-- The steps of R51 on a cell that retires, its lamp among them. -/
theorem retireCell (c : CellId) :
    ((s.lampEvent fun s => s.setCell c { (s.cell c).emptied with state := .retired }).stopDeadScan c.lane).wantPass.abreast
      ((v.lampEvent fun s => s.setCell c { (s.cell c).emptied with state := .retired }).stopDeadScan c.lane).wantPass := by
  refine ((State.abreast.lampEvent ?_).stopDeadScan c.lane).wantPass
  dsimp only
  rw [h.cell]
  exact h.setCell c _

theorem retire (c : CellId) (auto : Bool) : (s.retire c auto).abreast (v.retire c auto) := by
  have told := h.notify (.retired (s.cellAt c) auto (s.cell c).entries) (.retired (v.cellAt c) auto (s.cell c).entries)
  unfold State.retire
  rw [h.cell c]
  dsimp only
  split <;> split
  · rw [told.cell]
    exact ((((told.setCell c _).commit _ _).commit _ _).retireCell c).promote _
  · rw [told.cell]
    exact (((told.setCell c _).commit _ _).retireCell c).promote _
  · exact (told.commit _ _).retireCell c
  · exact told.retireCell c

theorem enterSuspect (c : CellId) (o : OutcomeKind) : (s.enterSuspect c o).abreast (v.enterSuspect c o) := by
  unfold State.enterSuspect
  rw [h.cell c]
  dsimp only
  split
  · exact ((h.setCell c _).postFault _ _ _ _).retire c true
  · split
    · exact ((((h.setCell c _).commit _ _).notify _ _).postFault _ _ _ _)
    · exact ((h.setCell c _).notify _ _).postFault _ _ _ _

theorem scoreFault (c : CellId) (k : SlotKind) (o : OutcomeKind) : (s.scoreFault c k o).abreast (v.scoreFault c k o) := by
  unfold State.scoreFault
  rw [h.cell c]
  dsimp only
  split
  · exact h
  · split
    · exact (h.setCell c _).enterSuspect c o
    · exact h.setCell c _

theorem matchIncumbent (c : CellId) (k : SlotKind) : (s.matchIncumbent c k).abreast (v.matchIncumbent c k) := by
  unfold State.matchIncumbent
  rw [h.cell c]
  exact h.setCell c _

theorem recover (c : CellId) : (s.recover c).abreast (v.recover c) := by
  unfold State.recover
  rw [h.cell c]
  dsimp only
  split <;> exact (h.setCell c _).notify _ _

end State.abreast

end Sys2Proof.Machine

end

section
/-!
A read of a RESTING part beside the same read of a part abreast of it: both step the cell alike, and the RESTING one goes on RESTING with five notices at the most (R38 to R50).
-/

namespace Sys2Proof.Machine

open Sys2Proof

variable {s v x : State} {n : Lane} {c : CellId} {k : Nat} {kind : SlotKind} {inc : Incumbent} {cand : Candidate}
  {o : Outcome} {a : Nat}

/-! ### The RESTING part -/

namespace State.dozes

variable (h : s.dozes n k x) (here : c.lane = n)

include h here

theorem stepVacant : s.dozes n (k + 5) (x.stepVacant c o) := by
  cases o with
  | good tile => exact (h.enterArriving here tile).mono (by omega)
  | absent => exact h.mono (by omega)
  | faulty f => exact h.mono (by omega)

theorem stepArriving : s.dozes n (k + 5) (x.stepArriving c cand kind o) := by
  cases o with
  | good tile =>
    dsimp only [State.stepArriving]
    split
    · split
      · exact ((h.write here _).completeArrival here _).mono (by omega)
      · exact ((h.write here _).requestConfirm here).mono (by omega)
    · exact (h.enterArriving here tile).mono (by omega)
  | absent =>
    dsimp only [State.stepArriving]
    split
    · exact (h.write here _).mono (by omega)
    · exact ((h.write here _).requestConfirm here).mono (by omega)
  | faulty f => exact h.scoreFault here kind f

theorem stepSeated : s.dozes n (k + 5) (x.stepSeated c inc kind o a) := by
  cases o with
  | good tile =>
    dsimp only [State.stepSeated]
    split
    · exact (h.write here _).mono (by omega)
    · exact (h.enterShifting here inc tile a).mono (by omega)
  | absent => exact (h.enterLifting here _).mono (by omega)
  | faulty f => exact h.scoreFault here kind f

theorem stepShifting : s.dozes n (k + 5) (x.stepShifting c inc cand kind o a) := by
  cases o with
  | good tile =>
    dsimp only [State.stepShifting]
    split
    · split
      · exact ((h.write here _).completeShift here inc _ a).mono (by omega)
      · exact ((h.write here _).requestConfirm here).mono (by omega)
    · split
      · exact (h.write here _).mono (by omega)
      · exact (h.enterShifting here inc tile a).mono (by omega)
  | absent => exact (h.enterLifting here _).mono (by omega)
  | faulty f => exact h.scoreFault here kind f

theorem stepLifting : s.dozes n (k + 5) (x.stepLifting c inc kind o a) := by
  cases o with
  | good tile =>
    dsimp only [State.stepLifting]
    split
    · exact (h.write here _).mono (by omega)
    · exact (h.enterShifting here inc tile a).mono (by omega)
  | absent =>
    dsimp only [State.stepLifting]
    split
    · exact (h.liftRead here _).mono (by omega)
    · exact ((h.write here _).requestConfirm here).mono (by omega)
  | faulty f => exact h.scoreFault here kind f

theorem stepTwin : s.dozes n (k + 5) (x.stepTwin c cand kind o) := by
  cases o with
  | good tile =>
    dsimp only [State.stepTwin]
    split
    · exact (h.write here _).mono (by omega)
    · exact ((h.commit _).enterArriving here tile).mono (by omega)
  | absent =>
    dsimp only [State.stepTwin]
    split
    · exact ((h.write here _).commit _).mono (by omega)
    · exact (h.write here _).mono (by omega)
  | faulty f => exact h.scoreFault here kind f

theorem stepSuspect : s.dozes n (k + 5) (x.stepSuspect c kind o) := by
  cases o with
  | good tile =>
    cases kind with
    | confirm => exact h.mono (by omega)
    | sense =>
      dsimp only [State.stepSuspect]
      split
      · exact ((h.write here _).recover here).mono (by omega)
      · exact (h.write here _).mono (by omega)
  | absent =>
    dsimp only [State.stepSuspect]
    split
    · exact h.mono (by omega)
    · split
      · exact (((h.write here _).commit _).promote _).mono (by omega)
      · exact (h.write here _).mono (by omega)
  | faulty f =>
    cases kind with
    | confirm => exact h.mono (by omega)
    | sense => exact (h.write here _).mono (by omega)

theorem stepCell : s.dozes n (k + 5) (x.stepCell c kind o a) := by
  unfold State.stepCell
  split
  · exact h.stepVacant here
  · exact h.stepArriving here
  · exact h.stepSeated here
  · exact h.stepShifting here
  · exact h.stepLifting here
  · exact h.stepTwin here
  · exact h.stepSuspect here
  · exact h.mono (by omega)

theorem stepped : s.dozes n (k + 5) (x.stepped c kind o a) := by
  unfold State.stepped State.updatePeak
  split
  · exact h.stepCell here
  · exact h.stepCell here
  · exact (h.write here _).stepCell here
  · exact h.stepCell here

theorem readEnded (raw : RawResult) : s.dozes n k (x.readEnded c kind raw) := by
  subst here
  have ended : s.dozes c.lane k (x.setLane c.lane { x.lane c.lane with slot := none }) := h.setLane id
  unfold State.readEnded State.traceOutcome
  split
  · exact ended.same rfl rfl rfl rfl
  · exact ended

end State.dozes

/-! ### The part abreast -/

namespace State.abreast

variable (h : s.abreast v)

include h

theorem stepVacant : (s.stepVacant c o).abreast (v.stepVacant c o) := by
  cases o with
  | good tile => exact h.enterArriving c tile
  | absent => exact h
  | faulty f => exact h

theorem stepArriving : (s.stepArriving c cand kind o).abreast (v.stepArriving c cand kind o) := by
  cases o with
  | good tile =>
    dsimp only [State.stepArriving]
    rw [h.cell, h.sensing]
    split
    · split
      · exact (h.setCell c _).completeArrival c _
      · exact (h.setCell c _).requestConfirm c
    · exact h.enterArriving c tile
  | absent =>
    dsimp only [State.stepArriving]
    rw [h.cell]
    split
    · exact h.setCell c _
    · exact (h.setCell c _).requestConfirm c
  | faulty f => exact h.scoreFault c kind f

theorem stepSeated : (s.stepSeated c inc kind o a).abreast (v.stepSeated c inc kind o a) := by
  cases o with
  | good tile =>
    dsimp only [State.stepSeated]
    split
    · exact h.matchIncumbent c kind
    · exact h.enterShifting c inc tile a
  | absent => exact h.enterLifting c _
  | faulty f => exact h.scoreFault c kind f

theorem stepShifting : (s.stepShifting c inc cand kind o a).abreast (v.stepShifting c inc cand kind o a) := by
  cases o with
  | good tile =>
    dsimp only [State.stepShifting]
    rw [h.cell, h.sensing]
    split
    · split
      · exact (h.setCell c _).completeShift c inc _ a
      · exact (h.setCell c _).requestConfirm c
    · split
      · exact h.matchIncumbent c kind
      · exact h.enterShifting c inc tile a
  | absent => exact h.enterLifting c _
  | faulty f => exact h.scoreFault c kind f

theorem stepLifting : (s.stepLifting c inc kind o a).abreast (v.stepLifting c inc kind o a) := by
  cases o with
  | good tile =>
    dsimp only [State.stepLifting]
    split
    · exact h.matchIncumbent c kind
    · exact h.enterShifting c inc tile a
  | absent =>
    dsimp only [State.stepLifting]
    rw [h.cell, h.sensing]
    split
    · exact h.liftRead c _
    · exact (h.setCell c _).requestConfirm c
  | faulty f => exact h.scoreFault c kind f

theorem stepTwin : (s.stepTwin c cand kind o).abreast (v.stepTwin c cand kind o) := by
  cases o with
  | good tile =>
    dsimp only [State.stepTwin]
    rw [h.cell]
    split
    · exact h.setCell c _
    · exact (h.commit _ _).enterArriving c tile
  | absent =>
    dsimp only [State.stepTwin]
    rw [h.cell, h.sensing]
    split
    · exact (h.setCell c _).commit _ _
    · exact h.setCell c _
  | faulty f => exact h.scoreFault c kind f

theorem stepSuspect : (s.stepSuspect c kind o).abreast (v.stepSuspect c kind o) := by
  cases o with
  | good tile =>
    cases kind with
    | confirm => exact h
    | sense =>
      dsimp only [State.stepSuspect]
      rw [h.cell]
      split
      · exact (h.setCell c _).recover c
      · exact h.setCell c _
  | absent =>
    dsimp only [State.stepSuspect]
    rw [h.cell, h.sensing]
    split
    · exact h
    · split
      · exact ((h.setCell c _).commit _ _).promote _
      · exact h.setCell c _
  | faulty f =>
    cases kind with
    | confirm => exact h
    | sense =>
      dsimp only [State.stepSuspect]
      rw [h.cell]
      exact h.setCell c _

theorem stepCell : (s.stepCell c kind o a).abreast (v.stepCell c kind o a) := by
  unfold State.stepCell
  rw [h.cell]
  split
  · exact h.stepVacant
  · exact h.stepArriving
  · exact h.stepSeated
  · exact h.stepShifting
  · exact h.stepLifting
  · exact h.stepTwin
  · exact h.stepSuspect
  · exact h

theorem stepped : (s.stepped c kind o a).abreast (v.stepped c kind o a) := by
  unfold State.stepped State.updatePeak
  rw [h.cell]
  split
  · exact h.stepCell
  · exact h.stepCell
  · exact (h.setCell c _).stepCell
  · exact h.stepCell

end State.abreast

end Sys2Proof.Machine

end

section
/-!
The wake of a RESTING part: its notices, the clock, and every lane at the end of the event (R31, R32, R136, R170).
-/

namespace Sys2Proof.Machine

open Sys2Proof

variable {s t x : State} {n m : Lane} {k : Nat} {w : WakeCause}

/-! ### The wake itself -/

/-- Waking makes a GUARD notice at the most, a CLOCK notice where the clock runs again, and WAKE last. -/
theorem wake_last (resting : s.rest.part = .resting) (opened : s.notices.opened = true)
    (on : s.notices.modes.play ≠ .off) (room : s.notices.queue.length + 3 ≤ 32) :
    (s.wake w).lastNotice (.wake w s.rest.autoPaused) := by
  have lit : s.allNormal.lightUp.notices.queue.length ≤ s.notices.queue.length + 1 := lampEvent_length rfl
  have rerun : s.allNormal.lightUp.rerunClock.notices.queue.length ≤ s.allNormal.lightUp.notices.queue.length + 1 := by
    unfold State.rerunClock State.setClockRunning
    split
    · exact notify_length _
    · omega
  rw [State.wake, if_pos resting]
  refine notify_last ?_ ?_ (by simp only [noticeRoom]; omega)
  · unfold State.rerunClock State.setClockRunning
    split <;> simpa [State.lightUp, State.allNormal] using opened
  · unfold State.rerunClock State.setClockRunning
    split <;> simpa [State.lightUp, State.allNormal, NoticeBody.class, Modes.of] using on

/-- A clock that a rest has paused runs again. -/
theorem wake_play (resting : s.rest.part = .resting) :
    (s.wake w).play = { s.play with clockRunning := s.play.clockRunning || s.rest.autoPaused } := by
  have lit : s.allNormal.lightUp.rest.autoPaused = s.rest.autoPaused := by simp [State.lightUp, State.allNormal]
  rw [State.wake, if_pos resting]
  unfold State.rerunClock State.setClockRunning
  rw [lit]
  split
  case isTrue paused => simp [State.lightUp, State.allNormal, paused]
  case isFalse awake =>
    rw [Bool.not_eq_true] at awake
    simp [State.lightUp, State.allNormal, awake]

/-! ### The lanes at its end -/

/-- Lane `m`, standing as `v` when the part woke, as the wake leaves it before the arbiters grant: `reads` says whether it has a cell to read (R31). -/
def LaneUnit.awoken (v : LaneUnit) (reads : Prop) [Decidable reads] (stale : Bool) : LaneUnit :=
  { v with
    mode := .normal, sweepTimer := none, sweep := none, pace := none, waiting := decide reads
    pointer := if v.waiting then v.sweep.getD 0 else 0
    fairness := if reads then 0 else v.fairness
    stale := v.stale || stale }

/-- A lane switched to NORMAL and marked where its lamps light again. -/
theorem toNormal_awoken {reads : Prop} [Decidable reads] {v : LaneUnit} {b : Bool}
    (scans : reads ↔ v.state = .running ∧ ∃ i : Slot, (s.cell ⟨m, i⟩).state ≠ .retired) :
    { s.toNormal m v with stale := v.stale || b } = v.awoken reads b := by
  have alive : s.allRetired m = false ↔ ∃ i : Slot, (s.cell ⟨m, i⟩).state ≠ .retired := by
    rw [← Bool.not_eq_true, allRetired_iff, not_forall]
  have waits : reads ↔ v.state = .running ∧ s.allRetired m = false := by rw [scans, alive]
  unfold State.toNormal LaneUnit.awoken
  dsimp only
  by_cases h : reads
  · simp [h, if_pos (waits.1 h)]
  · simp [h, if_neg (mt waits.2 h)]

/-- A lane that stands as `v` at the wake goes on from there. -/
theorem wake_scans {reads : Prop} [Decidable reads] (resting : x.rest.part = .resting)
    (scans : reads ↔ (x.lane m).state = .running ∧ ∃ i : Slot, (x.cell ⟨m, i⟩).state ≠ .retired) :
    (x.wake w).finish.laneGoes m
      ((x.lane m).awoken reads (decide (Table.full 12 .off ≠ (x.wake w).finish.laneDrive m))) := by
  have goes := finish_laneGoes (x.wake w) m
  rwa [wake_lane x m resting w, toNormal_awoken scans, laneDrive_resting x m resting, ← finish_laneDrive] at goes

/-- Lanes lit again by a wake are marked, or load their drives. -/
theorem wake_drivesFollow (resting : s.rest.part = .resting) (still : x.rest.part = .resting)
    (running : ∀ m, (x.lane m).state = .running → (s.lane m).state = .running) : s.drivesFollow (x.wake w).finish := by
  intro m differ
  rw [finish_laneDrive, laneDrive_resting s m resting] at differ
  have stale : ((x.wake w).lane m).stale = true := by
    rw [wake_lane x m still w, laneDrive_resting x m still]
    simp [differ]
  have state : ((x.wake w).lane m).state = (x.lane m).state := by
    rw [wake_lane x m still w]
    unfold State.toNormal
    dsimp only
    split <;> rfl
  rw [finish_laneDrive, finish_lane]
  exact (grant_stale stale).imp id fun ⟨runs, copy⟩ => ⟨running m (state ▸ runs), copy⟩

/-- A lane after a wake, but for its scan, its slot and its stale mark. -/
theorem wake_lane_kept (resting : x.rest.part = .resting) :
    let u := x.lane m
    let v := (x.wake w).finish.lane m
    v.mode = .normal ∧ v.sweepTimer = none ∧ v.state = u.state ∧ v.hold = u.hold ∧ v.connector = u.connector := by
  obtain ⟨state, -, -, hold, mode, sweepTimer, -, -, connector, -⟩ := finish_steady (x.wake w) m
  dsimp only
  rw [state, hold, mode, sweepTimer, connector, wake_lane x m resting w]
  unfold State.toNormal
  dsimp only
  split <;> simp

end Sys2Proof.Machine

end

section
/-!
A read slot that ends in a RESTING part, beside the same read in a READY one (R38, R170).
-/

namespace Sys2Proof.Machine

open Sys2Proof

variable {s x y : State} {n m : Lane} {c : CellId} {k : SlotKind} {raw : RawResult} {w : WakeCause} {j : Nat}

/-! ### The steps of the read -/

/-- The read slot of cell `c` has ended and the tracker has taken its outcome, no lane granted yet. -/
def State.taken (s : State) (c : CellId) (k : SlotKind) (raw : RawResult) : State :=
  (s.setLane c.lane { s.lane c.lane with slot := none }).takeOutcome c k raw

theorem taken_open (gate : s.gateShut = false) :
    s.taken c k raw = (s.readEnded c k raw).stepped c k (classify raw (s.threshold c)) raw.amplitude := by
  rw [State.taken, takeOutcome_eq, if_neg (by simp [gate])]

theorem setLane_runs {u : LaneUnit} (runs : (s.lane n).state = .running) (same : u.state = (s.lane m).state) :
    ((s.setLane m u).lane n).state = .running := by
  rw [setLane_lane]
  split
  case isTrue here => rw [same, ← here, runs]
  case isFalse => exact runs

/-- The tracker lets a lane that runs run on. -/
theorem runs_trackerKept (n : Lane) : TrackerKept fun t => (t.lane n).state = .running where
  cells _ _ h := h
  commit s b h := by simpa [State.lane] using h
  notify _ _ h := by simpa using h
  move s h := by simpa [State.lane] using h
  fault _ _ h := h
  watch _ _ h := h
  confirm s c h := by
    unfold State.requestConfirm
    dsimp only
    split
    · exact setLane_runs h rfl
    · exact h
  lamp s c r h := by
    obtain ⟨b, lane⟩ := lampEvent_lane s (fun u => u.setCell c (r u)) n
    rw [lane]
    exact h
  dead s m h := by
    unfold State.stopDeadScan
    dsimp only
    split
    · exact setLane_runs h rfl
    · split
      · exact setLane_runs h rfl
      · exact h
  wants _ h := h

/-- What a RESTING part makes of a read, short of its lane's grant. -/
structure State.sleepsRead (s : State) (c : CellId) (k : SlotKind) (raw : RawResult) : Prop where
  running : s.chip = .running
  resting : s.rest.part = .resting
  gate : s.lamps.guard = .clear ∨ s.lamps.guard = .dimmed
  flight : s.readInFlight c.lane = some (c, k)

namespace State.sleepsRead

variable (h : s.sleepsRead c k raw)

include h

theorem gateOpen : s.gateShut = false := by
  rcases h.gate with guard | guard <;> simp [State.gateShut, guard]

theorem runs : (s.lane c.lane).state = .running := (readInFlight_running h.flight).2

theorem dozes : s.dozes c.lane 5 (s.taken c k raw) := by
  rw [taken_open h.gateOpen]
  exact ((dozes_refl h.resting).readEnded rfl raw).stepped rfl

theorem settles :
    wakes s (s.taken c k raw) c = true ∨
      ∃ q, s.taken c k raw = (s.readEnded c k raw).cellStep c (decide (q.candidate ≠ (s.cell c).candidate)) q := by
  rw [taken_open h.gateOpen]
  have step := stepped_settles (s := s.readEnded c k raw) (c := c) (kind := k) (o := classify raw (s.threshold c))
    (a := raw.amplitude)
  simpa [State.settles, wakes] using step

theorem abreast (r : RestController) : (s.taken c k raw).abreast (State.taken { s with rest := r } c k raw) := by
  have ended : (s.readEnded c k raw).abreast (State.readEnded { s with rest := r } c k raw) := by
    unfold State.readEnded State.traceOutcome
    dsimp only
    split
    case isTrue watched => exact ⟨r, s.lamps, s.notices, _, if_pos watched⟩
    case isFalse other => exact ⟨r, s.lamps, s.notices, _, if_neg other⟩
  rw [taken_open h.gateOpen, taken_open (s := { s with rest := r }) h.gateOpen]
  exact ended.stepped

theorem still_runs : ((s.taken c k raw).lane c.lane).state = .running :=
  (runs_trackerKept c.lane).takeOutcome (by simpa using h.runs) c k raw

end State.sleepsRead

/-- The whole event: where the read is a wake cause, the wake comes after the grant to its own lane. -/
def State.readResting (s : State) (c : CellId) (k : SlotKind) (raw : RawResult) : State :=
  let u := (s.taken c k raw).grant c.lane
  (if wakes s (s.taken c k raw) c then u.wake (.tracker c) else u).finish

theorem exec_readSlotEnd_resting {marks : List Mark} (h : s.sleepsRead c k (hear false marks)) :
    exec (.readSlotEnd c.lane marks) s = .next (s.readResting c k (hear false marks)) := by
  rw [exec_readSlotEnd h.running h.flight]
  rfl

/-- The part as it would be were it READY. -/
def State.readied (s : State) : State := { s with rest := { s.rest with part := .ready } }

/-- The same read of a READY part. -/
theorem exec_readSlotEnd_ready {marks : List Mark} (h : s.sleepsRead c k (hear false marks)) :
    exec (.readSlotEnd c.lane marks) s.readied = .next ((s.readied.taken c k (hear false marks)).grant c.lane).finish := by
  have gate : s.readied.gateShut = false := h.gateOpen
  rw [exec_readSlotEnd (s := s.readied) (c := c) (k := k) h.running h.flight, endRead_open gate nofun, ← taken_open gate]

/-! ### What the read leaves alike -/

/-- Passes start alike in parts with the same quests, map, plan and patterns. -/
theorem startPass_congr (quests : y.quests = x.quests) (epoch : y.epoch = x.epoch) (cells : y.cells = x.cells)
    (plan : y.plan = x.plan) (patterns : y.patterns = x.patterns) : y.startPass.quests = x.startPass.quests := by
  cases x
  cases y
  dsimp only at quests epoch cells plan patterns
  subst quests epoch cells plan patterns
  unfold State.startPass
  dsimp only
  split <;> rfl

theorem finish_quests (quests : y.quests = x.quests) (epoch : y.epoch = x.epoch) (cells : y.cells = x.cells)
    (plan : y.plan = x.plan) (patterns : y.patterns = x.patterns) : y.finish.quests = x.finish.quests :=
  startPass_congr (by simpa using quests) (by simpa using epoch) (by simpa using cells) (by simpa using plan)
    (by simpa using patterns)

end Sys2Proof.Machine

end

section
/-!
A read slot that ends in a RESTING part: the wake it causes, and what it leaves where it causes none (R38, R170).
-/

namespace Sys2Proof.Machine

open Sys2Proof

variable {s x : State} {n m : Lane} {c : CellId} {k : SlotKind} {raw : RawResult} {w : WakeCause} {j : Nat}

/-! ### A wake after steps of a RESTING part -/

namespace State.dozes

variable (h : s.dozes n j x)

include h

theorem grant : s.dozes n j (x.grant n) where
  resting := h.resting
  rest := by simp [h.rest]
  others m other := by rw [grant_other x other, h.others m other]
  retired d other := by simp [h.retired d other]
  running := by rw [(grant_steady x n n).1]; exact h.running
  opened := by simp [h.opened]
  modes := by simp [h.modes]
  told := by simpa using h.told

theorem cellStep (here : c.lane = n) (asks : Bool) (q : CellRec) : s.dozes n j (x.cellStep c asks q) := by
  unfold State.cellStep
  split
  · exact (h.write here q).requestConfirm here
  · exact h.write here q

/-- The part is READY with its activity timer full and no clock left to run again. -/
theorem wake_finish_rest (w : WakeCause) :
    (x.wake w).finish.rest =
      { s.rest with
        part := .ready, autoPaused := false
        activity := if s.rest.delay = 0 then .stopped else .running s.rest.delay } := by
  have rest := (finish_frame (s := x.wake w)).2.1
  rw [rest, wake_rest x w h.rests, h.rest]
  rfl

/-- A lane that the steps left alone scans on from its sweep. -/
theorem wake_scans_other {reads : Prop} [Decidable reads] (w : WakeCause) (other : m ≠ n)
    (scans : reads ↔ (s.lane m).state = .running ∧ ∃ i : Slot, (s.cell ⟨m, i⟩).state ≠ .retired) :
    (x.wake w).finish.laneGoes m
      ((s.lane m).awoken reads (decide (s.laneDrive m ≠ (x.wake w).finish.laneDrive m))) := by
  rw [← h.others m other, laneDrive_resting s m h.resting]
  refine wake_scans h.rests ?_
  rw [scans, h.others m other]
  simp only [ne_eq, h.retired ⟨m, _⟩ other]

theorem wake_finish_drivesFollow (w : WakeCause) : s.drivesFollow (x.wake w).finish :=
  wake_drivesFollow h.resting h.rests fun m runs => by
    by_cases here : m = n
    · rw [here] at runs ⊢
      exact h.running runs
    · rwa [h.others m here] at runs

/-- WAKE is the last notice of a queue with room for those of the steps and three more. -/
theorem wake_tells {room : Nat} (enough : j + 3 ≤ room) (w : WakeCause) (opened : s.notices.opened = true)
    (on : s.notices.modes.play ≠ .off) (fits : s.notices.queue.length + room ≤ 32) :
    (x.wake w).finish.lastNotice (.wake w s.rest.autoPaused) := by
  have told := h.told
  have last := wake_last (w := w) h.rests (by rw [h.opened, opened]) (by rwa [h.modes]) (by omega)
  rw [h.rest] at last
  unfold State.lastNotice
  rw [show (x.wake w).finish.notices = (x.wake w).notices by simp]
  exact last

end State.dozes

/-! ### The read -/

/-- What no wake changes of a read. -/
theorem readResting_frame (s : State) (c : CellId) (k : SlotKind) (raw : RawResult) :
    (s.readResting c k raw).chip = (s.taken c k raw).chip ∧ (s.readResting c k raw).plan = (s.taken c k raw).plan ∧
      (s.readResting c k raw).cells = (s.taken c k raw).cells ∧ (s.readResting c k raw).epoch = (s.taken c k raw).epoch ∧
      (s.readResting c k raw).sensing = (s.taken c k raw).sensing ∧
      (s.readResting c k raw).firstFault = (s.taken c k raw).firstFault ∧
      (s.readResting c k raw).watch = (s.taken c k raw).watch ∧ (s.readResting c k raw).roster = (s.taken c k raw).roster ∧
      (s.readResting c k raw).patterns = (s.taken c k raw).patterns ∧
      (s.readResting c k raw).link = (s.taken c k raw).link ∧
      (s.readResting c k raw).pending = (s.taken c k raw).pending := by
  unfold State.readResting
  dsimp only
  split <;> simp

/-- A read that is a wake cause. -/
theorem readResting_woken (woken : wakes s (s.taken c k raw) c = true) :
    s.readResting c k raw = (((s.taken c k raw).grant c.lane).wake (.tracker c)).finish := by
  simp [State.readResting, woken]

/-- A read that is none. -/
theorem readResting_asleep (asleep : wakes s (s.taken c k raw) c = false) :
    s.readResting c k raw = ((s.taken c k raw).grant c.lane).finish := by
  simp [State.readResting, asleep]

namespace State.sleepsRead

variable (h : s.sleepsRead c k raw)

include h

/-- A READY part makes of the read what the RESTING one does, its clock apart. -/
theorem like_ready :
    let t := s.readResting c k raw
    let v := ((s.readied.taken c k raw).grant c.lane).finish
    t.cells = v.cells ∧ t.epoch = v.epoch ∧ t.watch = v.watch ∧ t.firstFault = v.firstFault ∧ t.quests = v.quests := by
  obtain ⟨r, l, u, lanes, veiled⟩ := h.abreast { s.rest with part := .ready }
  have same : s.readied.taken c k raw = (s.taken c k raw).veiled r l u lanes := veiled
  obtain ⟨-, -, cells, epoch, -, fault, watch, -, -, -, -⟩ := readResting_frame s c k raw
  dsimp only
  rw [cells, epoch, watch, fault, same]
  refine ⟨by simp [State.veiled], by simp [State.veiled], by simp [State.veiled], by simp [State.veiled], ?_⟩
  unfold State.readResting
  dsimp only
  split
  · refine finish_quests ?_ ?_ ?_ ?_ ?_ <;> simp [State.veiled]
  · refine finish_quests ?_ ?_ ?_ ?_ ?_ <;> simp [State.veiled]

theorem play_ready : (((s.readied.taken c k raw).grant c.lane).finish).play = (s.taken c k raw).play := by
  obtain ⟨r, l, u, lanes, veiled⟩ := h.abreast { s.rest with part := .ready }
  have same : s.readied.taken c k raw = (s.taken c k raw).veiled r l u lanes := veiled
  rw [same]
  simp [State.veiled]

/-- Whether it wakes can be read off what the READY part makes of it. -/
theorem wakes_ready :
    let v := ((s.readied.taken c k raw).grant c.lane).finish
    wakes s v c = wakes s (s.taken c k raw) c := by
  obtain ⟨r, l, u, lanes, veiled⟩ := h.abreast { s.rest with part := .ready }
  have same : s.readied.taken c k raw = (s.taken c k raw).veiled r l u lanes := veiled
  dsimp only
  rw [same]
  have cell : (((s.taken c k raw).veiled r l u lanes).grant c.lane).finish.cell c = (s.taken c k raw).cell c := by
    simp only [finish_frame, grant_frame]
    rfl
  have epoch : (((s.taken c k raw).veiled r l u lanes).grant c.lane).finish.epoch = (s.taken c k raw).epoch := by
    simp [State.veiled]
  unfold wakes
  rw [cell, epoch]

theorem lane_runs : ((s.readResting c k raw).lane c.lane).state = .running := by
  have granted : (((s.taken c k raw).grant c.lane).lane c.lane).state = .running := by
    rw [(grant_steady _ _ _).1]
    exact h.still_runs
  unfold State.readResting
  dsimp only
  split
  · obtain ⟨-, -, state, -⟩ := wake_lane_kept (m := c.lane) (w := .tracker c) h.dozes.grant.rests
    rw [state, granted]
  · rw [(finish_steady _ _).1, granted]

/-- A read that wakes nothing leaves the part RESTING, and its lane as any read ends. -/
theorem ends_asleep (asleep : wakes s (s.taken c k raw) c = false) :
    let t := s.readResting c k raw
    t.rest = s.rest ∧ s.lanesSteady t ∧
      t.laneGoes c.lane ((s.lane c.lane).slotEnded c.slot (decide ((t.cell c).candidate ≠ (s.cell c).candidate))) ∧
      t.notices = s.notices ∧ t.play = s.play ∧ t.lamps = s.lamps := by
  obtain ⟨q, step⟩ := h.settles.resolve_left (by simp [asleep])
  obtain ⟨steady, goes, -⟩ := (cellStep_leaves (k := k) (raw := raw) h.runs
    (decide (q.candidate ≠ (s.cell c).candidate)) q).finish (slotEnded_steady _ _ _)
  dsimp only
  rw [readResting_asleep asleep, step]
  refine ⟨by simp, steady, ?_, by simp, by simp, by simp⟩
  rw [show ((((s.readEnded c k raw).cellStep c (decide (q.candidate ≠ (s.cell c).candidate)) q).grant c.lane).finish.cell c) = q by
    simp [cellStep_cell]]
  exact goes

end State.sleepsRead

end Sys2Proof.Machine

end

section
/-!
Connectors seen and lost in a RESTING part: what a lane transition leaves of it before it wakes (R15 to R21, R170).
-/

namespace Sys2Proof.Machine

open Sys2Proof

variable {s x : State} {n : Lane} {j : Nat} {w : WakeCause}

/-! ### The steps of a loss -/

namespace State.dozes

variable (h : s.dozes n j x)

include h

/-- Cells of lane `n` alone rewritten. -/
theorem mapCells {f : CellId → CellRec → CellRec} (far : ∀ c r, c.lane ≠ n → f c r = r) : s.dozes n j (x.mapCells f) :=
  { h with
    retired := fun d other => by
      rw [← h.retired d other, mapCells_cell, far d _ other] }

theorem loseCells : s.dozes n j (x.loseCells n) := h.mapCells fun _ _ far => if_neg far

theorem clearCells : ∃ k, s.dozes n k (x.clearCells n) :=
  State.dozes.promotes _ ((h.mapCells fun _ _ far => if_neg (far ·.1)).commit _)

theorem endCheck (verdict : Bool) (r : RawResult) : s.dozes n j (x.endCheck n verdict r) := by
  have replied : s.dozes n j
      ((State.pushReply
        { x.setLane n { x.lane n with checkPending := false } with
          link := { (x.setLane n { x.lane n with checkPending := false }).link with inHand := none } }
        { kind := replyKind 0x1A, status := .success, data := checkData verdict r })) :=
    (h.setLane (u := { x.lane n with checkPending := false }) id).same rfl rfl rfl rfl
  unfold State.endCheck
  dsimp only
  split
  · exact replied
  · exact replied.postFault _ _ _ _

/-- A hold timer that runs out may clear any number of tiles. -/
theorem expireHold : ∃ k, s.dozes n k (x.expireHold n) := by
  obtain ⟨k, cleared⟩ := (h.setLane (u := { x.lane n with hold := none }) id).clearCells
  refine ⟨k, ?_⟩
  unfold State.expireHold
  dsimp only
  split
  · exact cleared.setLane nofun
  · exact cleared.setLane id
  · exact cleared

theorem startHold_later (hold : x.sensing.hold ≠ 0) : s.dozes n j (x.startHold n) := by
  rw [startHold_waits hold]
  exact h.setLane id

theorem startHold : ∃ k, s.dozes n k (x.startHold n) := by
  unfold State.startHold
  split
  · exact h.expireHold
  · exact ⟨j, h.setLane id⟩

/-- A lane of a RESTING part loses its power with no lamp lit. -/
theorem unpower (state : LaneState) (off : state ≠ .running) :
    s.dozes n j (x.lampEvent fun u => u.setLane n ((u.lane n).stopped state)) := by
  rw [lampEvent_resting h.rests (by exact h.rests) rfl]
  exact h.setLane fun runs => absurd runs off

theorem park : s.dozes n j (x.park n) := by
  have dark := (h.unpower .parked nofun).loseCells
  unfold State.park
  dsimp only
  split
  · exact dark
  · exact h
  · exact h.setLane nofun

theorem completePark : s.dozes n j (x.completePark n) :=
  (h.setLane (u := { x.lane n with parkWaiting := false }) id).park.same rfl rfl rfl rfl

/-- The loss of a RUNNING lane makes its LANE_GONE before the hold timer starts. -/
theorem cutOff : s.dozes n (j + 1) (x.cutOff n) := by
  have unpowered := h.unpower .lost nofun
  have unchecked : s.dozes n j (x.unchecked n) := by
    unfold State.unchecked
    split
    · exact unpowered.endCheck _ _
    · exact unpowered
  exact unchecked.loseCells.notify _

theorem loseLane : ∃ k, s.dozes n k (x.loseLane n) := by
  obtain ⟨k, held⟩ := h.cutOff.startHold
  rw [loseLane_eq]
  split
  · exact ⟨k, held.completePark⟩
  · exact ⟨k, held⟩

end State.dozes

end Sys2Proof.Machine

end

section
/-!
What wakes a RESTING part, event by event: a frame's start byte, a read that steps its cell, a connector event that takes a lane transition (R170).
-/

namespace Sys2Proof.Machine

open Sys2Proof

variable {s x t : State} {n : Lane} {j : Nat} {w : WakeCause} {c : CellId} {k : SlotKind} {marks : List Mark}

/-- From `s` to `t` the RESTING part woke, with the steps of the event taken on lane `n`. -/
structure State.wokenTo (s t : State) (n : Lane) : Prop where
  rest : t.rest =
    { s.rest with
      part := .ready, autoPaused := false
      activity := if s.rest.delay = 0 then .stopped else .running s.rest.delay }
  mode : (t.lane n).mode = .normal
  timer : (t.lane n).sweepTimer = none
  scans : ∀ m, m ≠ n → ∀ (reads : Prop) [Decidable reads],
    (reads ↔ (s.lane m).state = .running ∧ ∃ i : Slot, (s.cell ⟨m, i⟩).state ≠ .retired) →
      t.laneGoes m ((s.lane m).awoken reads (decide (s.laneDrive m ≠ t.laneDrive m)))
  follows : s.drivesFollow t

/-- From `s` to `t` WAKE was queued last, in a queue with room for the event's notices. -/
def State.tellsWake (s t : State) (room : Nat) (w : WakeCause) : Prop :=
  s.notices.opened = true → s.notices.modes.play ≠ .off → s.notices.queue.length + room ≤ 32 →
    t.lastNotice (.wake w s.rest.autoPaused)

theorem State.dozes.wokenTo (h : s.dozes n j x) (w : WakeCause) : s.wokenTo (x.wake w).finish n := by
  obtain ⟨mode, timer, -⟩ := wake_lane_kept (m := n) (w := w) h.rests
  exact {
    rest := h.wake_finish_rest w
    mode := mode
    timer := timer
    scans := fun m other reads _ scans => h.wake_scans_other w other scans
    follows := h.wake_finish_drivesFollow w }

theorem State.dozes.tellsWake (h : s.dozes n j x) {room : Nat} (enough : j + 3 ≤ room) (w : WakeCause) :
    s.tellsWake (x.wake w).finish room w :=
  h.wake_tells enough w

/-! ### A frame's start byte -/

theorem startByte_wakes (live : s.chip = .running) (resting : s.rest.part = .resting) (heard : s.link.ignoring = false)
    (hunting : s.link.asm = .hunting) :
    ∃ t, exec (.receiveByte (.good 0xA5)) s = .next t ∧ s.wokenTo t n ∧
      (∀ (reads : Prop) [Decidable reads],
        (reads ↔ (s.lane n).state = .running ∧ ∃ i : Slot, (s.cell ⟨n, i⟩).state ≠ .retired) →
          t.laneGoes n ((s.lane n).awoken reads (decide (s.laneDrive n ≠ t.laneDrive n)))) ∧
      (t.lane n).state = (s.lane n).state ∧
      t.play = { s.play with clockRunning := s.play.clockRunning || s.rest.autoPaused } ∧ s.tellsWake t 3 .frame ∧
      t.quests.records = s.quests.records ∧ s.sameBut t [.rest, .play, .lamps, .notices, .lanes, .quests, .link] := by
  let y := s.setAsm .length (some gapTime)
  have dozes : ∀ m, s.dozes m 0 y := fun m => (dozes_refl resting).same rfl rfl rfl rfl
  have heard : s.receive (.good 0xA5) = (y.wake .frame).finish := by
    unfold State.receive State.assemble
    rw [heard, hunting]
    exact if_pos resting
  refine ⟨_, by rw [exec_live (fun s => s.receive (.good 0xA5)) rfl live, heard], (dozes n).wokenTo _,
    fun reads _ scans => ?_, ?_, ?_, (dozes n).tellsWake (by omega) _, ?_, fun p hp => ?_⟩
  · rw [laneDrive_resting s n resting]
    exact wake_scans (x := y) resting scans
  · exact (wake_lane_kept (x := y) resting).2.2.1
  · rw [show (y.wake .frame).finish.play = (y.wake .frame).play by simp]
    exact wake_play (s := y) resting
  · rw [finish_records]
    simp [y, State.setAsm]
  · cases p <;> simp [Component.same, y, State.setAsm] at hp ⊢

/-! ### Connectors -/

/-- A part whose connector level has been noted. -/
theorem dozes_setConnector (resting : s.rest.part = .resting) (present : Bool) : s.dozes n 0 (s.setConnector n present) :=
  (dozes_refl resting).setLane id

theorem connectorSeen_wakes (live : s.chip = .running) (resting : s.rest.part = .resting)
    (unlinked : (s.lane n).state = .absent ∨ (s.lane n).state = .lost) :
    ∃ t, exec (.connectorSeen n) s = .next t ∧ s.wokenTo t n ∧ (t.lane n).state = .linking ∧
      s.tellsWake t 3 (.connector n) := by
  have links : ∃ from_, (s.setConnector n true).seeConnector n =
      ((s.setConnector n true).beginLink n from_).wake (.connector n) := by
    rcases unlinked with state | state
    · exact ⟨_, seeConnector_absent (by simpa [State.setConnector] using state)⟩
    · exact ⟨_, seeConnector_lost (by simpa [State.setConnector] using state)⟩
  obtain ⟨from_, links⟩ := links
  have dozes : s.dozes n 0 ((s.setConnector n true).beginLink n from_) := (dozes_setConnector resting true).setLane nofun
  refine ⟨_, by rw [exec_live (fun s => ((s.setConnector n true).seeConnector n).finish) rfl live, links],
    dozes.wokenTo _, ?_, dozes.tellsWake (by omega) _⟩
  obtain ⟨-, -, state, -⟩ := wake_lane_kept (m := n) (w := .connector n) dozes.rests
  rw [state]
  simp [State.beginLink]

theorem connectorSeen_noted (live : s.chip = .running)
    (state : (s.lane n).state = .linking ∨ (s.lane n).state = .running ∨ (s.lane n).state = .parked) :
    ∃ t, exec (.connectorSeen n) s = .next t ∧ t.rest = s.rest := by
  have noted : (s.setConnector n true).seeConnector n = s.setConnector n true :=
    seeConnector_noted (by simpa [State.setConnector, or_comm] using state)
  exact ⟨_, by rw [exec_live (fun s => ((s.setConnector n true).seeConnector n).finish) rfl live, noted],
    by simp [State.setConnector]⟩

theorem connectorLost_noted_only (live : s.chip = .running)
    (state : (s.lane n).state = .absent ∨ (s.lane n).state = .lost ∨ (s.lane n).state = .parked) :
    ∃ t, exec (.connectorLost n) s = .next t ∧ t.rest = s.rest ∧ t.lane n = { s.lane n with connector := false } := by
  have off : (s.lane n).state ≠ .running ∧ (s.lane n).state ≠ .linking := by
    rcases state with state | state | state <;> simp [state]
  refine ⟨_, exec_connectorLost_noted live off.1 off.2, by simp [State.setConnector], ?_⟩
  exact (setLane_finish_idle (v := { s.lane n with connector := false }) (unpowered_idle off.1)).1

/-! ### CONNECTOR_LOST of a RUNNING lane -/

theorem expireHold_connector : ((x.expireHold n).lane n).connector = (x.lane n).connector := by
  unfold State.expireHold
  dsimp only
  split <;> simp

theorem startHold_connector : ((x.startHold n).lane n).connector = (x.lane n).connector := by
  unfold State.startHold
  split
  · exact expireHold_connector
  · simp

theorem park_connector : ((x.park n).lane n).connector = (x.lane n).connector := by
  unfold State.park
  dsimp only
  split
  · obtain ⟨b, lane⟩ := lampEvent_lane x (fun u => u.setLane n ((x.lane n).stopped .parked)) n
    rw [show ∀ w : State, (w.loseCells n).lane n = w.lane n from fun w => by simp, lane, setLane_lane_same]
    rfl
  · rfl
  · simp

theorem completePark_connector : ((x.completePark n).lane n).connector = (x.lane n).connector := by
  have parked := park_connector (x := x.setLane n { x.lane n with parkWaiting := false }) (n := n)
  rw [setLane_lane_same] at parked
  exact parked

/-- A connector lost leaves the lane without one. -/
theorem loseLane_connector : (((s.setConnector n false).loseLane n).lane n).connector = false := by
  obtain ⟨b, lane, -⟩ := (pulled_cutsOff s n).lane
  have gone : ((s.pulled n).lane n).connector = false := by
    rw [lane]
    rfl
  rw [loseLane_eq]
  split
  · exact (completePark_connector.trans startHold_connector).trans gone
  · exact startHold_connector.trans gone

theorem exec_connectorLost_loses (live : s.chip = .running) (running : (s.lane n).state = .running) :
    exec (.connectorLost n) s = .next (((s.setConnector n false).loseLane n).wake (.connector n)).finish := by
  rw [exec_live (fun s => ((s.setConnector n false).dropConnector n).finish) rfl live]
  unfold State.dropConnector
  rw [State.setConnector, setLane_lane_same]
  simp only [running]

theorem exec_connectorLost_unlinks (live : s.chip = .running) (linking : (s.lane n).state = .linking) :
    exec (.connectorLost n) s = .next (((s.setConnector n false).unlinkLane n).wake (.connector n)).finish := by
  rw [exec_live (fun s => ((s.setConnector n false).dropConnector n).finish) rfl live]
  unfold State.dropConnector
  rw [State.setConnector, setLane_lane_same]
  simp only [linking]

theorem connectorLost_loses (live : s.chip = .running) (resting : s.rest.part = .resting)
    (running : (s.lane n).state = .running) :
    ∃ t, exec (.connectorLost n) s = .next t ∧ s.wokenTo t n ∧ (t.lane n).connector = false ∧
      ((s.lane n).parkWaiting = false → s.sensing.hold ≠ 0 →
        (t.lane n).state = .lost ∧ (t.lane n).hold = some s.sensing.hold ∧ s.tellsWake t 5 (.connector n)) := by
  obtain ⟨k, dozes⟩ := (dozes_setConnector (n := n) resting false).loseLane
  obtain ⟨-, -, state, hold, connector⟩ := wake_lane_kept (m := n) (w := .connector n) dozes.rests
  refine ⟨_, exec_connectorLost_loses live running, dozes.wokenTo _, by rw [connector, loseLane_connector],
    fun unparked waits => ?_⟩
  have sensing := pulled_sensing s n
  have held : (s.setConnector n false).loseLane n =
      (s.pulled n).setLane n { (s.pulled n).lane n with hold := some s.sensing.hold } := by
    rw [loseLane_eq, if_neg (by simp [State.setConnector, unparked]), startHold_waits]
    · rw [show (s.setConnector n false).cutOff n = s.pulled n from rfl, sensing]
    · rw [show (s.setConnector n false).cutOff n = s.pulled n from rfl, sensing]
      exact waits
  obtain ⟨b, lane, -⟩ := (pulled_cutsOff s n).lane
  refine ⟨?_, ?_, ?_⟩
  · rw [state, held, setLane_lane_same, lane]
    rfl
  · rw [hold, held, setLane_lane_same]
  · have few : s.dozes n 1 ((s.setConnector n false).loseLane n) := by
      rw [held]
      exact (dozes_setConnector resting false).cutOff.setLane id
    exact few.tellsWake (by omega) _

/-! ### CONNECTOR_LOST of a LINKING lane -/

theorem dozes_unlinked (resting : s.rest.part = .resting) : s.dozes n 0 (s.setLane n (s.lane n).unlinked) :=
  (dozes_refl resting).setLane fun runs => by
    unfold LaneUnit.unlinked at runs
    split at runs <;> simp at runs

/-- A LINKING lane that goes back to ABSENT, or to LOST with its hold timer going on. -/
theorem connectorLost_returns (live : s.chip = .running) (resting : s.rest.part = .resting)
    (linking : (s.lane n).state = .linking) (going : ¬((s.lane n).returnState = some .lost ∧ (s.lane n).hold = none)) :
    ∃ t, exec (.connectorLost n) s = .next t ∧ s.wokenTo t n ∧ s.tellsWake t 3 (.connector n) ∧
      (t.lane n).state = (s.lane n).unlinked.state ∧ (t.lane n).hold = (s.lane n).hold ∧ (t.lane n).connector = false := by
  have back := dozes_unlinked (n := n) resting
  obtain ⟨-, -, state, hold, connector⟩ := wake_lane_kept (m := n) (w := .connector n) back.rests
  rw [setLane_lane_same] at state hold connector
  have event := exec_connectorLost_unlinks live linking
  rw [unlinkLane_eq, if_neg going] at event
  refine ⟨_, event, back.wokenTo _, back.tellsWake (by omega) _, state, hold.trans ?_, connector.trans ?_⟩
  · unfold LaneUnit.unlinked
    split <;> rfl
  · unfold LaneUnit.unlinked
    split <;> rfl

/-- One that goes back to LOST without a hold timer, where the hold time is not 0.0 s. -/
theorem connectorLost_holds (live : s.chip = .running) (resting : s.rest.part = .resting)
    (linking : (s.lane n).state = .linking) (back : (s.lane n).returnState = some .lost ∧ (s.lane n).hold = none)
    (waits : s.sensing.hold ≠ 0) :
    ∃ t, exec (.connectorLost n) s = .next t ∧ s.wokenTo t n ∧ s.tellsWake t 3 (.connector n) ∧
      (t.lane n).state = .lost ∧ (t.lane n).hold = some s.sensing.hold ∧ (t.lane n).connector = false := by
  have sleeps := dozes_unlinked (n := n) resting
  have lane : (s.setLane n (s.lane n).unlinked).lane n = (s.lane n).unlinked := setLane_lane_same ..
  have sensing : (s.setLane n (s.lane n).unlinked).sensing = s.sensing := rfl
  have event := exec_connectorLost_unlinks live linking
  rw [unlinkLane_eq, if_pos back] at event
  generalize s.setLane n (s.lane n).unlinked = y at sleeps lane sensing event
  have later : y.sensing.hold ≠ 0 := by rwa [sensing]
  have dozes := sleeps.startHold_later later
  obtain ⟨-, -, state, held, connector⟩ := wake_lane_kept (m := n) (w := .connector n) dozes.rests
  have own : (y.startHold n).lane n = { (s.lane n).unlinked with hold := some s.sensing.hold } := by
    rw [startHold_waits later, setLane_lane_same, lane, sensing]
  rw [own, LaneUnit.unlinked, if_pos back.1] at state held connector
  exact ⟨_, event, dozes.wokenTo _, dozes.tellsWake (by omega) _, state, held, connector⟩

/-- One where the hold time is 0.0 s, which clears it. -/
theorem connectorLost_clears_resting (live : s.chip = .running) (resting : s.rest.part = .resting)
    (linking : (s.lane n).state = .linking) (back : (s.lane n).returnState = some .lost ∧ (s.lane n).hold = none)
    (zero : s.sensing.hold = 0) :
    ∃ t, exec (.connectorLost n) s = .next t ∧ s.wokenTo t n ∧ (t.lane n).state = .absent ∧ (t.lane n).hold = none ∧
      (t.lane n).connector = false := by
  have sleeps := dozes_unlinked (n := n) resting
  have lane : (s.setLane n (s.lane n).unlinked).lane n = (s.lane n).unlinked := setLane_lane_same ..
  have hold : (s.setLane n (s.lane n).unlinked).sensing.hold = 0 := zero
  have event := exec_connectorLost_unlinks live linking
  rw [unlinkLane_eq, if_pos back] at event
  generalize s.setLane n (s.lane n).unlinked = y at sleeps lane hold event
  have lost : (y.lane n).state = .lost := by rw [lane, LaneUnit.unlinked, if_pos back.1]
  obtain ⟨k, dozes⟩ := sleeps.expireHold
  rw [show y.startHold n = y.expireHold n from if_pos hold] at event
  obtain ⟨-, -, state, held, connector⟩ := wake_lane_kept (m := n) (w := .connector n) dozes.rests
  rw [expireHold_connector, lane, LaneUnit.unlinked, if_pos back.1] at connector
  rw [expireHold_lost lost, setLane_lane_same] at state held
  rw [← expireHold_lost lost] at state held
  exact ⟨_, event, dozes.wokenTo _, state, held, connector⟩

/-- CONNECTOR_LOST of a LINKING lane, back in the state it came from (R17). -/
theorem connectorLost_unlinks (live : s.chip = .running) (resting : s.rest.part = .resting)
    (linking : (s.lane n).state = .linking) :
    ∃ t, exec (.connectorLost n) s = .next t ∧ s.wokenTo t n ∧ (t.lane n).connector = false ∧
      ((s.lane n).returnState = some .absent → (t.lane n).state = .absent ∧ s.tellsWake t 3 (.connector n)) ∧
      ((s.lane n).returnState = some .lost →
        ((s.lane n).hold.isSome = true ∨ s.sensing.hold ≠ 0 →
          (t.lane n).state = .lost ∧ (t.lane n).hold = (s.lane n).hold.or (some s.sensing.hold) ∧
            s.tellsWake t 3 (.connector n)) ∧
        ((s.lane n).hold = none → s.sensing.hold = 0 → (t.lane n).state = .absent ∧ (t.lane n).hold = none)) := by
  by_cases stopped : (s.lane n).returnState = some .lost ∧ (s.lane n).hold = none
  · have lost : (s.lane n).returnState ≠ some .absent := by simp [stopped.1]
    by_cases zero : s.sensing.hold = 0
    · obtain ⟨t, event, woke, state, hold, gone⟩ := connectorLost_clears_resting live resting linking stopped zero
      exact ⟨t, event, woke, gone, fun back => absurd back lost, fun _ =>
        ⟨fun waits => absurd waits (by simp [stopped.2, zero]), fun _ _ => ⟨state, hold⟩⟩⟩
    · obtain ⟨t, event, woke, told, state, hold, gone⟩ := connectorLost_holds live resting linking stopped zero
      exact ⟨t, event, woke, gone, fun back => absurd back lost, fun _ =>
        ⟨fun _ => ⟨state, by simp [hold, stopped.2], told⟩, fun _ none => absurd none zero⟩⟩
  · obtain ⟨t, event, woke, told, state, hold, gone⟩ := connectorLost_returns live resting linking stopped
    refine ⟨t, event, woke, gone, fun back => ⟨?_, told⟩, fun back =>
      ⟨fun _ => ⟨?_, ?_, told⟩, fun none => absurd ⟨back, none⟩ stopped⟩⟩
    · rw [state, LaneUnit.unlinked, if_neg (by simp [back])]
    · rw [state, LaneUnit.unlinked, if_pos back]
    · obtain ⟨v, going⟩ := Option.ne_none_iff_exists'.1 fun none => stopped ⟨back, none⟩
      simp [hold, going]

end Sys2Proof.Machine

end

section
/-!
The wakes of the RESTING part, put together (R170).
-/

namespace Sys2Proof.Machine

open Sys2Proof

variable {s : State} {c : CellId} {k : SlotKind} {raw : RawResult}

namespace State.sleepsRead

variable (h : s.sleepsRead c k raw)

include h

/-- A read that is a wake cause wakes the part, with WAKE after its own notices. -/
theorem ends_awake (woken : wakes s (s.taken c k raw) c = true) :
    s.wokenTo (s.readResting c k raw) c.lane ∧ s.tellsWake (s.readResting c k raw) 8 (.tracker c) ∧
      (s.readResting c k raw).play =
        { (s.taken c k raw).play with clockRunning := (s.taken c k raw).play.clockRunning || s.rest.autoPaused } := by
  have granted := h.dozes.grant
  have play := wake_play (w := .tracker c) granted.rests
  rw [readResting_woken woken]
  refine ⟨granted.wokenTo _, granted.tellsWake (by omega) _, ?_⟩
  rw [granted.rest] at play
  simpa using play

/-- A GOOD read of a VACANT cell that has to be confirmed makes no notice before WAKE (R43). -/
theorem arrives {tile : TileRead} (vacant : (s.cell c).state = .vacant) (outcome : classify raw (s.threshold c) = .good tile)
    (more : 2 ≤ s.sensing.arriveN) :
    ((s.readResting c k raw).cell c).state = .arriving ∧ s.wokenTo (s.readResting c k raw) c.lane ∧
      s.tellsWake (s.readResting c k raw) 3 (.tracker c) := by
  have cell : (s.readEnded c k raw).cell c = s.cell c := by simp
  have step : s.taken c k raw = (s.readEnded c k raw).cellStep c true
      { s.cell c with
        state := .arriving, incumbent := none, candidate := some { tile := tile, arrive := 1 }, lift := 0, absent := 0
        peak := nextPeak (s.cell c).peak raw.amplitude } := by
    rw [taken_open h.gateOpen, outcome, stepped_arriving_asks cell (.inl vacant) (by simpa using more)]
  have state : ((s.taken c k raw).cell c).state = .arriving := by
    rw [step, cellStep_cell, if_pos rfl]
  have woken : wakes s (s.taken c k raw) c = true := (wakes_iff ..).2 (.inl (by simp [state, vacant]))
  have quiet : s.dozes c.lane 0 (s.taken c k raw) := by
    rw [step]
    exact ((dozes_refl h.resting).readEnded rfl raw).cellStep rfl _ _
  refine ⟨?_, (h.ends_awake woken).1, ?_⟩
  · rw [State.cell, (readResting_frame s c k raw).2.2.1]
    exact state
  · rw [readResting_woken woken]
    exact quiet.grant.tellsWake (by omega) _

/-- An ABSENT read of a VACANT cell is nothing (R43). -/
theorem passes (vacant : (s.cell c).state = .vacant) (outcome : classify raw (s.threshold c) = .absent) :
    (s.readResting c k raw).rest = s.rest ∧ (s.readResting c k raw).cells = s.cells := by
  have cell : (s.readEnded c k raw).cell c = s.cell c := by simp
  have step : s.taken c k raw = s.readEnded c k raw := by
    rw [taken_open h.gateOpen, outcome, stepped_vacant (f := .garbled) cell vacant (.inl rfl), ← cellStep_self cell]
  have asleep : wakes s (s.taken c k raw) c = false := by
    rw [step]
    simp [wakes]
  refine ⟨(h.ends_asleep asleep).1, ?_⟩
  rw [(readResting_frame s c k raw).2.2.1, step]
  simp

end State.sleepsRead

end Sys2Proof.Machine

open Sys2Proof Sys2Proof.Machine

/-- Settles O52: the part sleeps through the steps of each event, whose notices are counted, and wakes from what they leave; a read steps the cell as it does in the READY part abreast of it. -/
theorem wakesOfTheRestingPart : Obligations.WakesOfTheRestingPart := by
  intro n c k marks s live resting u woken scans tells wakes_
  have wakes_of : ∀ {t : State}, s.wokenTo t n → wakes_ t := fun h =>
    ⟨h.rest, h.mode, h.timer, fun m other => h.scans m other _ Iff.rfl, h.follows⟩
  refine ⟨fun heard hunting => ?_, fun flight guard => ?_, fun moving => ?_, fun still => connectorLost_noted_only live still,
    fun unlinked => ?_, connectorSeen_noted live⟩
  case refine_1 =>
    obtain ⟨t, event, woke, scan, state, play, told, records, same⟩ := startByte_wakes (n := n) live resting heard hunting
    exact ⟨t, event, wakes_of woke, scan _ Iff.rfl, state, play, told, records, same⟩
  case refine_2 =>
    obtain ⟨here, runs⟩ := readInFlight_running flight
    subst here
    have h : s.sleepsRead c k (hear false marks) := ⟨live, resting, guard, flight⟩
    obtain ⟨cells, epoch, watch, fault, quests⟩ := h.like_ready
    have cell : ∀ d, (s.readResting c k (hear false marks)).cell d =
        ((s.readied.taken c k (hear false marks)).grant c.lane).finish.cell d := fun d => by
      rw [State.cell, cells]
      rfl
    have decides := wakes_iff s ((s.readied.taken c k (hear false marks)).grant c.lane).finish c
    rw [h.wakes_ready] at decides
    refine ⟨_, _, exec_readSlotEnd_resting h, exec_readSlotEnd_ready h, ?_⟩
    intro steps
    refine ⟨cells, epoch, watch, fault, quests, h.lane_runs.trans runs.symm, fun woke => ?_, fun asleep => ?_,
      fun code vacant decoded strong more => ?_, fun vacant absent => ?_, fun p hp => ?_⟩
    · obtain ⟨woken, told, play⟩ := h.ends_awake (decides.2 woke)
      rw [← h.play_ready] at play
      exact ⟨wakes_of woken, told, play⟩
    · rw [← cell]
      exact h.ends_asleep (by simpa using mt decides.1 asleep)
    · obtain ⟨state, woken, told⟩ := h.arrives vacant (classify_good decoded strong) more
      exact ⟨state, wakes_of woken, told⟩
    · exact h.passes vacant (classify_absent absent)
    · obtain ⟨chip, plan, -, -, sensing, -, -, roster, patterns, link, pending⟩ := readResting_frame s c k (hear false marks)
      cases p <;> simp [Component.same, State.taken, *] at hp ⊢
  case refine_3 =>
    rcases moving with running | linking
    · obtain ⟨t, event, woke, gone, held⟩ := connectorLost_loses live resting running
      exact ⟨t, event, wakes_of woke, gone, fun _ _ unparked waits => held unparked waits,
        fun linking => absurd (running.symm.trans linking) nofun, fun linking => absurd (running.symm.trans linking) nofun⟩
    · obtain ⟨t, event, woke, gone, absent, lost⟩ := connectorLost_unlinks live resting linking
      exact ⟨t, event, wakes_of woke, gone, fun runs => absurd (runs.symm.trans linking) nofun, fun _ => absent, fun _ => lost⟩
  case refine_4 =>
    obtain ⟨t, event, woke, state, told⟩ := connectorSeen_wakes live resting unlinked
    exact ⟨t, event, wakes_of woke, state, told⟩

end
